-- ==== Sys2Proof/Word.lean ====
section
/-! DEFINITION. The word types of the GK4160: a byte, and a frame as it stands on an Ethernet port. -/

namespace Sys2Proof

/-- One byte; bit 7 is the most significant (R202). -/
abbrev Byte := BitVec 8

/-- The largest value of a 48-bit count or counter (R1, R181). -/
abbrev max48 : Nat := 2 ^ 48 - 1

/-- A frame on an Ethernet port: the bytes from the first destination byte to the last payload byte,
and the frame check sequence that followed them (section 4 of 00_scope.md, R206). -/
structure WireFrame where
  data : List Byte
  fcs : BitVec 32
  deriving DecidableEq, Repr

end Sys2Proof
end

