-- ==== Sys2Proof/Syntax.lean ====
section
/-! DEFINITION. The commands of the block: one constructor of `Instr` for each row of the table of events.
The table gives no operands; those below are what the rule of each row says the event brings (log 1). -/

namespace Sys2Proof

/-- A reception completed on the rack port (R91).
`ranShort`: while the frame arrived, it needed a cell when it had already written every free one, even if
cells were released later (R94); the number is that of the cells then free. `begunBeforeZeroize`: its reception was in progress when the device entered
ZEROIZING, and `begunBeforeUp`: it was arriving while the port came up (R105). Each counts only where the state
shows that it may be so (log 8). -/
structure RackReception where
  frame : WireFrame
  ranShort : Option Nat
  begunBeforeZeroize : Bool
  begunBeforeUp : Bool
  deriving DecidableEq, Repr

/-- A reception completed on the campus port (R104). `ranOut`: while it arrived, the inbound FIFO had no room
for its next byte, even if bytes left the FIFO later. `begunBeforeUp`: it was arriving while the port came up
(R105). Each counts only where the state shows that it may be so (log 8). -/
structure InboundReception where
  frame : WireFrame
  ranOut : Bool
  begunBeforeUp : Bool
  deriving DecidableEq, Repr

/-- How a bus message ended, as this station saw it (log 9): the CRC bits it sampled (R204), whether another
station drove the ack slot or the error slot dominant (R31), and whether the station had counted 16 bit times
of idle before the start bit (R27). `startRead` is the level at which the start bit was sampled, recessive being
`true` (R26): it bears on a station that sent the start bit (R30), since to any other a message begins with a dominant
one (R27). -/
structure BusEnding where
  crc : BitVec 16
  peersAck : Bool
  peersErr : Bool
  afterIdle : Bool
  startRead : Bool
  deriving DecidableEq, Repr

/-- Bits of a key slot that have changed since they were written, as masks over the key material and the
stored check value; zero when nothing changed (R71, R134, log 19). -/
structure SlotUpset where
  material : BitVec 256
  check : BitVec 64
  deriving DecidableEq, Repr

/-- The commands. The rule of each row stands in its docstring. -/
inductive Instr where
  /-- R184: RESET_N low, or a supply out of range. -/
  | deviceReset
  /-- R186: the end of the device reset, with the levels of STN2, STN1, STN0. -/
  | loadingStart (straps : BitVec 3)
  /-- R187: the serial read ends; `memory` is what the serial configuration memory holds from offset 0 (R212, log 29). -/
  | imageReadDone (memory : List Byte)
  /-- R192: the settle timer expires. -/
  | settleTimerExpiry
  /-- R193: the deglitch filter makes a zeroize request. -/
  | zeroizePinRequest
  /-- R199: the erase ends. -/
  | zeroizeComplete
  /-- R35: the station may begin an attempt; both lines have been high for `idleBits` bit times. -/
  | busAttemptStart (idleBits : Nat)
  /-- R20: a CLAIM completes, with the fields as sampled (R203). -/
  | claim (assoc : BitVec 6) (sender : BitVec 3) (epoch : BitVec 16) (start : BitVec 48) (count : BitVec 24)
      (ending : BusEnding)
  /-- R23: a BEACON completes, with the fields as sampled (R203). -/
  | beacon (assoc : BitVec 6) (sender : BitVec 3) (epoch : BitVec 16) (hwm : BitVec 48) (ending : BusEnding)
  /-- R64: an ADVANCE completes, with the fields as sampled (R203). -/
  | advance (assoc : BitVec 6) (sender : BitVec 3) (epoch : BitVec 16) (reason : BitVec 3) (ending : BusEnding)
  /-- R43: a JOIN completes, with the fields as sampled (R203). -/
  | join (assoc : BitVec 6) (sender : BitVec 3) (ending : BusEnding)
  /-- R91: a reception completes on the rack port. -/
  | rackFrameReceived (r : RackReception)
  /-- R104: a reception completes on the campus port. -/
  | inboundFrameReceived (r : InboundReception)
  /-- R102: the rack pause timer reaches 0. -/
  | rackPauseTimerExpiry
  /-- R103: the campus pause timer reaches 0. -/
  | campusPauseTimerExpiry
  /-- R101: the pause repeat timer expires. -/
  | pauseRepeatTimerExpiry
  /-- R106: the rack transmitter has sent the last byte of its frame. -/
  | rackTransmitDone
  /-- R178: the oldest queued notice is 100 µs old. -/
  | statusFrameDue
  /-- R111: the dispatcher begins and settles one dispatch. -/
  | dispatch
  /-- R127: the age of the park list entry of descriptor `frame` reaches the hold limit. -/
  | parkTimeout (frame : Fin 1024)
  /-- R134: a lane in KEYING takes up its key; `upset` is what changed in the slot since it was written. -/
  | keyTakeUp (lane : Fin 4) (upset : SlotUpset)
  /-- R135: a lane finishes enciphering. -/
  | laneFinish (lane : Fin 4)
  /-- R136: a lane finishes passing a clear frame. -/
  | clearPassDone (lane : Fin 4)
  /-- R143: the last byte of the head frame is sent on the campus port. -/
  | campusFrameSent
  /-- R84: the move scan takes one step. -/
  | scanStep
  /-- R155: the command engine authenticates the head command frame. -/
  | commandFrameCheck
  /-- R156: the head command has a code outside 01h to 0Ah. -/
  | unknownCommand
  /-- R163: the head command is INSTALL-KEY. -/
  | installKey
  /-- R81: the head command is WRITE-SEGMENTS; it is validated and writes its next entry (log 27). -/
  | writeSegments
  /-- R82: the head command is MOVE-SEGMENTS. -/
  | moveSegments
  /-- R63: the head command is ADVANCE-EPOCH. -/
  | advanceEpoch
  /-- R167: the head command is RETIRE-SA. -/
  | retireSa
  /-- R128: the head command is FLUSH-SA. -/
  | flushSa
  /-- R147: the head command is QUIESCE-QUEUE. -/
  | quiesceQueue
  /-- R149: the head command is RESUME-QUEUE. -/
  | resumeQueue
  /-- R171: the head command is READ-STATUS. -/
  | readStatus
  /-- R172: the head command is ZEROIZE. -/
  | zeroize
  deriving DecidableEq, Repr

end Sys2Proof
end

