-- ==== Sys2Proof/Decode.lean ====
section
/-! DEFINITION. The command a word spells by the bits of the table of events. -/

namespace Sys2Proof

/-- No row of the table gives bits (spec/opcode_table.json has no field and no fixed bit), so no word spells a
command. The commands that arrive as bytes, the command frames of chapter 8, are read from the frame itself by
the command engine (R154, R208). -/
def decodeTableWord (_nbits _w : Nat) : Option Instr := none

end Sys2Proof
end

