-- ==== Sys2Proof/Machine/State.lean ====
section
/-! DEFINITION. The state of one GK4160, block by block, and its form after a device reset. -/

namespace Sys2Proof.Machine

/-! ## Names -/

/-- The device state (R184); `heldInReset` is the part while RESET_N is low. -/
inductive DeviceState where
  | heldInReset | loading | halted | settling | running | zeroizing | zeroized
  deriving DecidableEq, Repr

/-- The state of an association (R49). -/
inductive AssocState where
  | dormant | settling | live | blind | keyWait | retired
  deriving DecidableEq, Repr

/-- The role of a key slot (R51). -/
inductive Role where
  | empty | pending | current | standby | retiring
  deriving DecidableEq, Repr

/-- The reasons of an advance: the five of a request (R49), and the two that only a notice reports (R175). -/
inductive AdvanceReason where
  | rekey | exhausted | blind | overlap | command | implicit | epochEnd
  deriving DecidableEq, Repr

/-- The condition of a pending advance (R61). -/
inductive AdvanceCondition where
  | held | queued
  deriving DecidableEq, Repr

/-- The exception classes (R117), in the order of their codes (R210). -/
inductive ExcClass where
  | settling | noKey | blind | exhausted | starved | rekeyPoint | staleDiscard | claimOverlap
  | retired | oversize | parkTimeout | keyCheck | double
  deriving DecidableEq, Repr

/-- The disposition of a fault class (R117). -/
inductive Disposition where
  | park | drop
  deriving DecidableEq, Repr

/-- The kinds of bus message, in rank order (R28, R29). -/
inductive MsgKind where
  | advance | claim | beacon | join
  deriving DecidableEq, Repr

/-- The dispatch state of a queue (R110). -/
inductive QueueState where
  | active | quiescing | quiesced
  deriving DecidableEq, Repr

/-- The kinds of notice, in the order of their codes (R175, R210). -/
inductive NoticeKind where
  | started | settled | keyPlaced | keyDiscarded | keyWanted | advanced | exception | isolated
  | busQuiet | busResumed | queueQuiesced | moveDone | commandOverrun | zeroized | halted
  deriving DecidableEq, Repr

/-- The detail of a notice (R175). -/
inductive NoticeDetail where
  | none | role (r : Role) | reason (r : AdvanceReason) | cls (c : ExcClass)
  deriving DecidableEq, Repr

/-- The results of a command (R158). -/
inductive CommandResult where
  | done | accepted | refusedRange | refusedBusy | refusedState | refusedStaleEpoch | refusedTooFar
  | refusedNoSlot | refusedWrap | refusedFormat | refusedUnknown
  deriving DecidableEq, Repr

/-- The counts of one association, groups 0 to 63 in the order of R181. -/
inductive AssocCount where
  | framesEncrypted | octetsEncrypted | retiredInFlight | parks | flushed
  | dropSettling | dropNoKey | dropBlind | dropExhausted | dropStarved | dropRetired | dropOversize
  | dropParkTimeout | dropDouble | dropKeyCheck
  | discardStale | discardOverlap | discardAdvance | discardKeyLoss | discardRetire
  | claimsWon | claimsLost
  deriving DecidableEq, Repr

/-- The reception drops, group 64 in the order of R181. -/
inductive ReceptionCount where
  | fcs | runt | giant | control | commandOverrun | segDrop | queueCap | noRoom | inert
  deriving DecidableEq, Repr

/-- The counts of frames and commands, group 65 in the order of R181. -/
inductive FrameCount where
  | clearSent | clearOversize | inboundFcs | inboundLength | inboundFull | inboundControl | commandAuth | noticesLost
  deriving DecidableEq, Repr

/-- The bus counts, group 66 in the order of R181. -/
inductive BusCount where
  | busVoids | noAcks | lateMessages
  deriving DecidableEq, Repr

/-! ## The configuration image, as the blocks hold it -/

/-- One entry of the disposition table (R117). -/
structure ClassSetting where
  disposition : Disposition
  notify : Bool
  alert : Bool
  deriving DecidableEq, Repr

/-- One association definition (R72). -/
structure AssocDef where
  defined : Bool
  window : Nat
  guard : Nat
  margin : Nat
  startLevel : Fin 4
  deriving DecidableEq, Repr

/-- An association the image does not define: start level 1 (R3, R73). -/
def AssocDef.undefined : AssocDef :=
  { defined := false, window := 0, guard := 0, margin := 0, startLevel := 1 }

/-- The fields handed to the blocks at a valid load (R188, R191). `settleTime` is in units of 0.5 ms and
`holdLimit` in units of 50 µs (R211). The two device keys are held by the command engine alone. -/
structure Image where
  ownAddress : BitVec 48
  agentAddress : BitVec 48
  commandType : BitVec 16
  envelopeType : BitVec 16
  cMax : Nat
  singleStation : Bool
  settleTime : Nat
  holdLimit : Nat
  pOn : Nat
  hysteresis : Nat
  pauseTime : Nat
  caps : Vector Nat 8
  parkCap : Nat
  defaultSegment : Nat
  ladder : Vector Nat 4
  settings : Vector ClassSetting 13
  defs : Vector AssocDef 64
  deriving DecidableEq, Repr

/-- What the blocks work with while no image is taken: no association is defined (R72), there are no queue caps,
no P_on and no pause time (R201), and the addresses and types are those of a report without a trusted image
(R189, R201, R210). -/
def Image.absent : Image :=
  { ownAddress := 0, agentAddress := BitVec.allOnes 48, commandType := 0, envelopeType := 0, cMax := 0,
    singleStation := false, settleTime := 0, holdLimit := 0, pOn := 0, hysteresis := 0, pauseTime := 0,
    caps := Vector.replicate 8 0, parkCap := 0, defaultSegment := 0, ladder := Vector.replicate 4 0,
    settings := Vector.replicate 13 { disposition := .drop, notify := false, alert := false },
    defs := Vector.replicate 64 AssocDef.undefined }

/-! ## Counter unit, epoch controller, key store -/

/-- The active range of a reservation: start, end and next counter x (R1). -/
structure ActiveRange where
  start : Nat
  stop : Nat
  next : Nat
  deriving DecidableEq, Repr

/-- The queued range of a reservation (R1). -/
structure QueuedRange where
  start : Nat
  stop : Nat
  deriving DecidableEq, Repr

/-- A pending advance (R1, R49). -/
structure PendingAdvance where
  target : Nat
  reason : AdvanceReason
  condition : AdvanceCondition
  deriving DecidableEq, Repr

/-- A settle view: the highest epoch heard and the highest HWM heard for it (R45). -/
structure SettleView where
  epoch : Nat
  hwm : Nat
  deriving DecidableEq, Repr

/-- One association: its state (R49) and its counter record (R1). `hwm` is `none` when h is unknown. -/
structure Assoc where
  state : AssocState
  epoch : Option Nat
  hwm : Option Nat
  assigned : Nat
  active : Option ActiveRange
  queued : Option QueuedRange
  level : Fin 4
  acc : Nat
  pendingClaim : Bool
  pendingAdvance : Option PendingAdvance
  rekeyRequested : Bool
  settleView : Option SettleView
  deriving DecidableEq, Repr

/-- An association after a device reset (R3, R49). -/
def Assoc.reset : Assoc :=
  { state := .dormant, epoch := none, hwm := none, assigned := 0, active := none, queued := none, level := 1,
    acc := 0, pendingClaim := false, pendingAdvance := none, rekeyRequested := false, settleView := none }

/-- A key slot (R51). -/
structure KeySlot where
  role : Role
  epoch : Nat
  key : BitVec 256
  limit : Nat
  check : BitVec 64
  uses : Nat
  deriving DecidableEq, Repr

/-- An EMPTY slot holds zeros in every other field (R51); it is what a wipe leaves (R52). -/
def KeySlot.wiped : KeySlot :=
  { role := .empty, epoch := 0, key := 0, limit := 0, check := 0, uses := 0 }

/-- A key slot by its association and its place among that association's four (R51). -/
structure SlotRef where
  assoc : Fin 64
  index : Fin 4
  deriving DecidableEq, Repr

/-! ## Segment map -/

/-- An entry of the segment map (R75). -/
inductive SegEntry where
  | drop
  | encrypt (assoc : Fin 64) (queue : Fin 8)
  | clear (queue : Fin 8)
  deriving DecidableEq, Repr

/-- The move scan (R83). -/
structure Scan where
  source : Fin 64
  target : Fin 64
  position : Nat
  moved : Nat
  deriving DecidableEq, Repr

/-! ## Bus controller -/

/-- An entry of the transmit list (R35). JOIN uses association 0. -/
structure TxEntry where
  kind : MsgKind
  assoc : Fin 64
  deriving DecidableEq, Repr

/-- The content of a bus message (R28, R203). -/
inductive MsgContent where
  | advance (epoch : BitVec 16) (reason : BitVec 3)
  | claim (epoch : BitVec 16) (start : BitVec 48) (count : BitVec 24)
  | beacon (epoch : BitVec 16) (hwm : BitVec 48)
  | join
  deriving DecidableEq, Repr

/-- A bus message: association, sender and content; the kind is that of the content (R203). -/
structure BusMessage where
  assoc : BitVec 6
  sender : BitVec 3
  content : MsgContent
  deriving DecidableEq, Repr

/-- This station's own message on the bus (R35). `withdrawn` is set when its pending claim was cancelled while it
was on the bus (R19, log 11). -/
structure OwnMessage where
  message : BusMessage
  withdrawn : Bool
  deriving DecidableEq, Repr

/-- The bus controller (R35, R38, R39, R40, R34, R44, R27). `backoff` is the wait owed in bit times;
`settleTimer` holds the settle time while the timer runs. -/
structure Bus where
  txList : List TxEntry
  errorCount : Nat
  quiet : Bool
  noAck : Nat
  backoff : Nat
  settleTimer : Option Nat
  idleSeen : Bool
  onBus : Option OwnMessage
  deriving DecidableEq, Repr

/-! ## Buffer manager and dispatcher -/

/-- What a stored frame's segment map entry said at reception (R78, R89). -/
inductive FrameAction where
  | encrypt (assoc : Fin 64)
  | clear
  deriving DecidableEq, Repr

/-- The counter, epoch and key slot a frame takes at dispatch (R115). -/
structure Assigned where
  counter : Nat
  epoch : Nat
  slot : SlotRef
  deriving DecidableEq, Repr

/-- A descriptor in use (R89); its handle is its key in the pool. `data` is what the frame's cells hold (log 7). -/
structure Descriptor where
  length : Nat
  action : FrameAction
  queue : Fin 8
  arrival : BitVec 32
  cells : Nat
  data : List Byte
  assigned : Option Assigned
  deriving DecidableEq, Repr

/-- The buffer manager (R88, R89, R98, R100, R101). `pool` lists the descriptors in use by handle, `repeatTimer`
holds the time it was started with, in bit times, while it runs. `leftover` is what free cells hold of the frames last
written into them: first, the latest first, the cells released since the last reception, then those the reception wrote and
the others (R90, R94, log 7); a free cell that it does not list has not been written since the device reset (log 18). -/
structure Buffers where
  pool : List (Nat × Descriptor)
  freeCells : Nat
  queues : Vector (List Nat) 8
  queueCells : Vector Nat 8
  pausing : Bool
  pauseRequest : Bool
  repeatTimer : Option Nat
  leftover : List (List Byte)
  deriving DecidableEq, Repr

/-- The rack receiver (R94, R105), as far as it bears on the frame that is arriving (log 8). `cameUp`: the port came up and
no reception has completed since. `zeroizeBegan`: the device entered ZEROIZING and no reception has completed since.
`leastFree`: F when the last reception completed, the least it has been while the present one arrives. -/
structure RackReceiver where
  cameUp : Bool
  zeroizeBegan : Bool
  leastFree : Nat
  deriving DecidableEq, Repr

/-- The campus receiver (R104, R105), as the rack receiver. `mostHeld`: the bytes in the inbound FIFO when the last reception
completed, the most it has held while the present one arrives, that frame's own aside. -/
structure CampusReceiver where
  cameUp : Bool
  mostHeld : Nat
  deriving DecidableEq, Repr

/-- An entry of the park list (R122). -/
structure ParkEntry where
  frame : Nat
  assoc : Fin 64
  queue : Fin 8
  cls : ExcClass
  released : Bool
  parkTime : BitVec 32
  reclassify : Nat
  deriving DecidableEq, Repr

/-- A release mark: an association and a fault class (R125). -/
structure ReleaseMark where
  assoc : Fin 64
  cls : ExcClass
  deriving DecidableEq, Repr

/-- The dispatcher (R110, R116, R122). `marks` are release marks posted and not yet applied. -/
structure Dispatcher where
  park : List ParkEntry
  parkedCells : Nat
  queueState : Vector QueueState 8
  marks : List ReleaseMark
  deriving DecidableEq, Repr

/-! ## Lanes and ports -/

/-- A cipher lane (R132): KEYING is `keying`, WORKING is `enciphering` with the working copy of the key, or
`passing`. -/
inductive Lane where
  | idle
  | keying (frame : Nat) (slot : SlotRef)
  | enciphering (frame : Nat) (slot : SlotRef) (key : BitVec 256)
  | passing (frame : Nat)
  deriving DecidableEq, Repr

/-- An entry of the completion list (R142). `header` and `tag` are empty for a CLEAR frame. -/
structure CompletionEntry where
  frame : Nat
  action : FrameAction
  queue : Fin 8
  finished : Bool
  header : List Byte
  tag : List Byte
  outLength : Nat
  deriving DecidableEq, Repr

/-- The cipher lanes, the completion list and the in-flight counts (R132, R142, R146). -/
structure Lanes where
  lanes : Vector Lane 4
  completion : List CompletionEntry
  inFlight : Vector Nat 8
  deriving DecidableEq, Repr

/-- The campus port (R143, R103, R104). `sending` is the frame the transmitter is SENDING. `cutShort` is the
model's own: the last frame the port sent ended with an FCS that does not match its bytes (R151). -/
structure CampusPort where
  sending : Option WireFrame
  cutShort : Bool
  pauseTimer : Nat
  fifo : List WireFrame
  deriving DecidableEq, Repr

/-- What the rack transmitter is sending (R106). -/
inductive RackFrameKind where
  | pause | reply | status | inbound
  deriving DecidableEq, Repr

/-- The rack transmitter (R102, R106). `cutShort` as for the campus port (R105). -/
structure RackTransmitter where
  sending : Option (RackFrameKind × WireFrame)
  cutShort : Bool
  pauseTimer : Nat
  deriving DecidableEq, Repr

/-! ## Command engine and status unit -/

/-- The state of the command engine (R153). -/
inductive EngineState where
  | idle | checking | waiting | executing
  deriving DecidableEq, Repr

/-- The command engine (R153, R93, R162, R83). `written` is how many entries the WRITE-SEGMENTS in EXECUTING has written, and
0 otherwise (R81, R164). -/
structure Engine where
  input : List (List Byte)
  state : EngineState
  commandKey : BitVec 256
  wrapKey : BitVec 256
  unwrapStore : BitVec 256
  scan : Option Scan
  written : Nat
  deriving DecidableEq, Repr

/-- A notice (R175). -/
structure Notice where
  kind : NoticeKind
  detail : NoticeDetail
  assoc : Nat
  epoch : Nat
  value : Nat
  count : Nat
  time : BitVec 32
  alert : Bool
  deriving DecidableEq, Repr

/-- A reply (R158). -/
structure Reply where
  tag : BitVec 16
  code : BitVec 8
  result : CommandResult
  value : Nat
  counters : List Nat
  deriving DecidableEq, Repr

/-- The kind of frame the status unit offers to the rack transmitter (R179). -/
inductive Offer where
  | reply | status
  deriving DecidableEq, Repr

/-- The counter set (R181), each group in the order it is read. -/
structure Counters where
  assoc : Vector (Vector Nat 22) 64
  reception : Vector Nat 9
  frames : Vector Nat 8
  bus : Vector Nat 3
  deriving DecidableEq, Repr

/-- The status unit (R176, R177, R158, R179, R180). ALERT_N is low while `alert` is set. -/
structure StatusUnit where
  notices : List Notice
  heldZeroized : Bool
  replies : List Reply
  offered : Option Offer
  lastOffered : Option Offer
  alert : Bool
  deriving DecidableEq, Repr

/-! ## The machine -/

/-- The whole part. `pending` is the queue of commands waiting, and `freeIndex` counts the free values drawn; these
two are the model's own. `serial` is the serial memory port: the bytes clocked out to the memory since it was selected, and
`none` while it is deselected (R212). -/
structure State where
  device : DeviceState
  time : BitVec 32
  station : BitVec 3
  readBuffer : List Byte
  serial : Option (List Byte)
  image : Option Image
  zeroizeLatch : Bool
  assocs : Vector Assoc 64
  keys : Vector (Vector KeySlot 4) 64
  segMap : List (Nat × SegEntry)
  bus : Bus
  buf : Buffers
  disp : Dispatcher
  lanes : Lanes
  campus : CampusPort
  rack : RackTransmitter
  rackRx : RackReceiver
  campusRx : CampusReceiver
  engine : Engine
  status : StatusUnit
  counters : Counters
  freeIndex : Nat
  pending : List Instr
  deriving DecidableEq, Repr

/-- No event of the spec stops the part: every command has a next state in every device state, so there is no fault
to raise. Nobody raises one. -/
inductive Fault where
  deriving DecidableEq, Repr

/-- Why a command has no meaning. -/
inductive Refusal where
  /-- The command named has no meaning in this model yet. Raised by an arm of `exec` only; safe, since nothing is
  claimed of a run that stops. No arm raises it now. -/
  | notModelled (mnemonic : String)
  deriving DecidableEq, Repr

/-- The bus controller after a device reset (R47). -/
def Bus.reset : Bus :=
  { txList := [], errorCount := 0, quiet := false, noAck := 0, backoff := 0, settleTimer := none, idleSeen := false,
    onBus := none }

/-- The buffer manager after a device reset (R107). -/
def Buffers.reset : Buffers :=
  { pool := [], freeCells := 2048, queues := Vector.replicate 8 [], queueCells := Vector.replicate 8 0,
    pausing := false, pauseRequest := false, repeatTimer := none, leftover := [] }

/-- The dispatcher after a device reset (R130). -/
def Dispatcher.reset : Dispatcher :=
  { park := [], parkedCells := 0, queueState := Vector.replicate 8 .active, marks := [] }

/-- The lanes after a device reset (R150). -/
def Lanes.reset : Lanes :=
  { lanes := Vector.replicate 4 .idle, completion := [], inFlight := Vector.replicate 8 0 }

/-- The campus port after a device reset (R107, R150). -/
def CampusPort.reset : CampusPort :=
  { sending := none, cutShort := false, pauseTimer := 0, fifo := [] }

/-- The rack transmitter after a device reset (R107). -/
def RackTransmitter.reset : RackTransmitter :=
  { sending := none, cutShort := false, pauseTimer := 0 }

/-- The rack receiver after a device reset: no reception in progress (R107). -/
def RackReceiver.reset : RackReceiver :=
  { cameUp := false, zeroizeBegan := false, leastFree := 2048 }

/-- The campus receiver after a device reset. -/
def CampusReceiver.reset : CampusReceiver :=
  { cameUp := false, mostHeld := 0 }

/-- The command engine after a device reset (R153). -/
def Engine.reset : Engine :=
  { input := [], state := .idle, commandKey := 0, wrapKey := 0, unwrapStore := 0, scan := none, written := 0 }

/-- The status unit after a device reset (R183). -/
def StatusUnit.reset : StatusUnit :=
  { notices := [], heldZeroized := false, replies := [], offered := none, lastOffered := none, alert := false }

/-- The counter set after a device reset (R182). -/
def Counters.reset : Counters :=
  { assoc := Vector.replicate 64 (Vector.replicate 22 0), reception := Vector.replicate 9 0,
    frames := Vector.replicate 8 0, bus := Vector.replicate 3 0 }

/-- The part held in reset: every block in the form its chapter gives after a device reset (R184). The station
number, the read buffer, what free cells hold and the free index are the model's choice there (log 18). -/
def State.reset : State :=
  { device := .heldInReset, time := 0, station := 0, readBuffer := [], serial := none, image := none, zeroizeLatch := false,
    assocs := Vector.replicate 64 Assoc.reset,
    keys := Vector.replicate 64 (Vector.replicate 4 KeySlot.wiped),
    segMap := [], bus := Bus.reset, buf := Buffers.reset, disp := Dispatcher.reset, lanes := Lanes.reset,
    campus := CampusPort.reset, rack := RackTransmitter.reset, rackRx := RackReceiver.reset,
    campusRx := CampusReceiver.reset, engine := Engine.reset, status := StatusUnit.reset,
    counters := Counters.reset, freeIndex := 0, pending := [] }

end Sys2Proof.Machine
end

