-- ==== Sys2Proof/Machine/Clock.lean ====
section
/-! DEFINITION. The 1 µs time counter. -/

namespace Sys2Proof.Machine

/-- One microsecond passes with nothing commanded: the time counter counts, wrapping at 2^32, and is held at 0 while the
part is held in reset (R185, log 2). -/
def tick (s : State) : State :=
  if s.device = .heldInReset then { s with time := 0 } else { s with time := s.time + 1 }

end Sys2Proof.Machine
end

