-- ==== Sys2Proof/Config.lean ====
section
/-! DEFINITION. The free values: what the spec leaves open. Nothing can be proved of a value of these constants. -/

namespace Sys2Proof.Config

/-- DESIGN CHOICE (log 15). The free bit of draw `n`: which of a reply and a status frame the status unit
offers first when both became ready together and it has offered neither since the last device reset;
"either may be offered first" (R179). -/
opaque freeBit : Nat → Bool

/-- DESIGN CHOICE (log 16). The free byte of draw `n`: the state code of RETIRED in an INSTALL-KEY reply,
for which R163 states no code. -/
opaque freeByte : Nat → BitVec 8

end Sys2Proof.Config
end

