-- ==== Sys2Proof/Machine/Bytes.lean ====
section
/-! DEFINITION. Reading and writing fields of bytes, most significant byte first, and bits, most significant bit
first (R202). -/

namespace Sys2Proof.Machine

/-- The number that bytes give, most significant first (R202). -/
def beNat (bytes : List Byte) : Nat := bytes.foldl (fun n b => n * 256 + b.toNat) 0

/-- The number at `count` bytes from offset `start` of a frame, body or image (R202). -/
def field (bytes : List Byte) (start count : Nat) : Nat := beNat ((bytes.drop start).take count)

/-- The byte at an offset; the offsets the rules read always hold one, and 0 stands beyond the end. -/
def byteAt (bytes : List Byte) (i : Nat) : Byte := bytes.getD i 0

/-- A number as `count` bytes, most significant first (R202). -/
def beBytes : Nat → Nat → List Byte
  | 0, _ => []
  | count + 1, n => BitVec.ofNat 8 (n / 256 ^ count) :: beBytes count n

/-- The bits of a word, most significant first (R202). -/
def msbBits {w : Nat} (x : BitVec w) : List Bool := (List.range w).map (fun i => x.getMsbD i)

/-- A frame the part makes is at least 60 bytes, filled with zeros up to byte 59 (R207). -/
def padTo60 (bytes : List Byte) : List Byte := bytes ++ List.replicate (60 - bytes.length) 0

end Sys2Proof.Machine
end

