-- ==== Sys2Proof/Machine/Crypto.lean ====
section
/-! DEFINITION. The cipher and the checks the spec names by their standards: AES-256 in Galois/counter mode (section 3
of 00_scope.md, R52, R140, R155, R162), the CRC of the bus (R204), of the image (R212) and of an Ethernet frame
(R206, R207). AES and its mode are PRESUMED from FIPS 197 and SP 800-38D (log 4), the Ethernet FCS from IEEE 802.3
(log 5). -/

namespace Sys2Proof.Machine

/-! ## AES-256 -/

/-- The S-box of AES, entry `x` in the byte of weight 256^x. PRESUMED (log 4). -/
def aesSboxTable : Nat :=
  0x16bb54b00f2d99416842e6bf0d89a18cdf2855cee9871e9b948ed9691198f8e19e1dc186b95735610ef6034866b53e708a8bbd4b1f74dde8c6b4a61c2e2578ba08ae7a65eaf4566ca94ed58d6d37c8e779e4959162acd3c25c2406490a3a32e0db0b5ede14b8ee4688902a22dc4f816073195d643d7ea7c41744975fec130ccdd2f3ff1021dab6bcf5389d928f40a351a89f3c507f02f94585334d43fbaaefd0cf584c4a39becb6a5bb1fc20ed00d153842fe329b3d63b52a05a6e1b1a2c830975b227ebe28012079a059618c323c7041531d871f1e5a534ccf73f362693fdb7c072a49cafa2d4adf04759fa7dc982ca76abd7fe2b670130c56f6bf27b777c63

/-- One byte through the S-box. -/
def aesSub (x : Byte) : Byte := BitVec.ofNat 8 (aesSboxTable >>> (8 * x.toNat))

/-- Multiplication by x in the field of AES. -/
def aesDouble (x : Byte) : Byte := (x <<< 1) ^^^ (if x.msb then 0x1b else 0)

/-- One column through MixColumns. -/
def aesMixColumn : List Byte → List Byte
  | [a, b, c, d] =>
    [aesDouble a ^^^ (aesDouble b ^^^ b) ^^^ c ^^^ d, a ^^^ aesDouble b ^^^ (aesDouble c ^^^ c) ^^^ d,
     a ^^^ b ^^^ aesDouble c ^^^ (aesDouble d ^^^ d), (aesDouble a ^^^ a) ^^^ b ^^^ c ^^^ aesDouble d]
  | other => other

/-- The state is 16 bytes, column after column; ShiftRows moves row r left by r. -/
def aesShiftRows (s : List Byte) : List Byte :=
  [0, 5, 10, 15, 4, 9, 14, 3, 8, 13, 2, 7, 12, 1, 6, 11].map (fun i => byteAt s i)

/-- MixColumns over the four columns. -/
def aesMixColumns (s : List Byte) : List Byte :=
  aesMixColumn (s.take 4) ++ aesMixColumn ((s.drop 4).take 4) ++ aesMixColumn ((s.drop 8).take 4) ++
    aesMixColumn ((s.drop 12).take 4)

/-- Bytewise exclusive or. -/
def xorBytes (a b : List Byte) : List Byte := List.zipWith (· ^^^ ·) a b

/-- The next eight words of the key schedule from the last eight (each word 4 bytes) and the round constant. -/
def aesNextWords (rcon : Byte) : List (List Byte) → List (List Byte)
  | [w0, w1, w2, w3, w4, w5, w6, w7] =>
    let t := match w7 with
      | [a, b, c, d] => [aesSub b ^^^ rcon, aesSub c, aesSub d, aesSub a]
      | other => other
    let v0 := xorBytes w0 t
    let v1 := xorBytes w1 v0
    let v2 := xorBytes w2 v1
    let v3 := xorBytes w3 v2
    let v4 := xorBytes w4 (v3.map aesSub)
    let v5 := xorBytes w5 v4
    let v6 := xorBytes w6 v5
    [v0, v1, v2, v3, v4, v5, v6, xorBytes w7 v6]
  | other => other

/-- Pairs of round keys from the key schedule, `n` expansions long. -/
def aesExpand : Nat → Byte → List (List Byte) → List (List Byte)
  | 0, _, w => [(w.take 4).flatten]
  | n + 1, rcon, w => (w.take 4).flatten :: (w.drop 4).flatten :: aesExpand n (aesDouble rcon) (aesNextWords rcon w)

/-- The 15 round keys of a 32-byte key. -/
def aesRoundKeys (key : BitVec 256) : List (List Byte) :=
  let bytes := beBytes 32 key.toNat
  aesExpand 7 1 ((List.range 8).map (fun i => (bytes.drop (4 * i)).take 4))

/-- The rounds after the first key addition; the last one mixes no columns. -/
def aesRounds (s : List Byte) : List (List Byte) → List Byte
  | [] => s
  | [k] => xorBytes (aesShiftRows (s.map aesSub)) k
  | k :: k' :: rest => aesRounds (xorBytes (aesMixColumns (aesShiftRows (s.map aesSub))) k) (k' :: rest)

/-- AES-256 of one block under expanded round keys. -/
def aesBlock (roundKeys : List (List Byte)) (block : List Byte) : List Byte :=
  match roundKeys with
  | [] => block
  | k :: rest => aesRounds (xorBytes block k) rest

/-! ## Galois/counter mode -/

/-- Multiplication in the field of GHASH, over `n` bits of `x` from the most significant. -/
def ghashMulAux : Nat → BitVec 128 → BitVec 128 → BitVec 128 → BitVec 128
  | 0, _, _, z => z
  | n + 1, x, v, z =>
    ghashMulAux n (x <<< 1) ((v >>> 1) ^^^ (if v.getLsbD 0 then 0xe1000000000000000000000000000000 else 0))
      (if x.msb then z ^^^ v else z)

/-- Multiplication in the field of GHASH. -/
def ghashMul (x y : BitVec 128) : BitVec 128 := ghashMulAux 128 x y 0

/-- Bytes cut into blocks of 16, the last filled with zeros; `fuel` bounds the number of blocks. -/
def blocks16 : Nat → List Byte → List (List Byte)
  | 0, _ => []
  | fuel + 1, bytes =>
    if bytes.isEmpty then []
    else (bytes.take 16 ++ List.replicate (16 - bytes.length) 0) :: blocks16 fuel (bytes.drop 16)

/-- The blocks of a byte string. -/
def toBlocks (bytes : List Byte) : List (List Byte) := blocks16 bytes.length bytes

/-- GHASH under `h` of authenticated data and ciphertext. -/
def ghash (h : BitVec 128) (aad text : List Byte) : BitVec 128 :=
  let lengths := beBytes 8 (8 * aad.length) ++ beBytes 8 (8 * text.length)
  (toBlocks aad ++ toBlocks text ++ [lengths]).foldl
    (fun y b => ghashMul (y ^^^ BitVec.ofNat 128 (beNat b)) h) 0

/-- The counter-mode output for text from block counter `n` on: text exclusive-or key stream. -/
def gcmStream (roundKeys : List (List Byte)) (nonce : List Byte) : Nat → List (List Byte) → List Byte
  | _, [] => []
  | n, b :: rest => xorBytes b (aesBlock roundKeys (nonce ++ beBytes 4 n)) ++ gcmStream roundKeys nonce (n + 1) rest

/-- Counter-mode encryption or decryption of the text under a 12-byte nonce. -/
def gcmCrypt (key : BitVec 256) (nonce text : List Byte) : List Byte :=
  (gcmStream (aesRoundKeys key) nonce 2 (toBlocks text)).take text.length

/-- The 16-byte tag over authenticated data and ciphertext under a 12-byte nonce. With no ciphertext it is the GMAC
of R155. -/
def gcmTag (key : BitVec 256) (nonce aad cipher : List Byte) : List Byte :=
  let roundKeys := aesRoundKeys key
  let h := BitVec.ofNat 128 (beNat (aesBlock roundKeys (List.replicate 16 0)))
  xorBytes (beBytes 16 (ghash h aad cipher).toNat) (aesBlock roundKeys (nonce ++ beBytes 4 1))

/-- The check value of a key slot: the first 8 bytes of the encryption, under the key, of association, 00h, epoch,
λ and six bytes of 00h (R52). -/
def slotCheckValue (assoc epoch limit : Nat) (key : BitVec 256) : BitVec 64 :=
  let block := beBytes 1 assoc ++ [0] ++ beBytes 2 epoch ++ beBytes 6 limit ++ List.replicate 6 0
  BitVec.ofNat 64 (beNat ((aesBlock (aesRoundKeys key) block).take 8))

/-! ## Cyclic redundancy checks -/

/-- One bit into the bus CRC register: x^16 + x^15 + x^2 + 1 (R204). -/
def crc16Step (r : BitVec 16) (b : Bool) : BitVec 16 :=
  (r <<< 1) ^^^ (if Bool.xor r.msb b then 0x8005 else 0)

/-- The bus CRC over bits in the order sent: preset FFFFh, no inversion (R204). -/
def crc16 (bits : List Bool) : BitVec 16 := bits.foldl crc16Step 0xffff

/-- One bit into the image CRC register: generator 04C11DB7h (R212). -/
def crc32Step (r : BitVec 32) (b : Bool) : BitVec 32 :=
  (r <<< 1) ^^^ (if Bool.xor r.msb b then 0x04c11db7 else 0)

/-- The image CRC: preset FFFFFFFFh, most significant bit of each byte first, final value inverted (R212). -/
def imageCrc (bytes : List Byte) : BitVec 32 :=
  ~~~ (bytes.foldl (fun r b => (msbBits b).foldl crc32Step r) 0xffffffff)

/-- The frame check sequence of Ethernet, as a number: the same generator with the least significant bit of each byte
first. PRESUMED (log 5). -/
def ethernetFcs (bytes : List Byte) : BitVec 32 :=
  ~~~ ((bytes.foldl (fun r b => (msbBits b).reverse.foldl crc32Step r) 0xffffffff).reverse)

/-- A frame with the FCS the sending port computes over every byte it sends (R207). -/
def withFcs (bytes : List Byte) : WireFrame := { data := bytes, fcs := ethernetFcs bytes }

end Sys2Proof.Machine
end

