-- ==== Sys2Proof/Machine/Operands.lean ====
section
/-! DEFINITION. The layouts of chapter 12: the fields the part reads from frames, bodies and bus messages, and the
bytes it sends. -/

namespace Sys2Proof.Machine

/-! ## Frames received -/

/-- The type of a frame, bytes 12 and 13 (R77, R92). -/
def frameType (data : List Byte) : Nat := field data 12 2

/-- The type of a link control frame (R92). -/
def linkControlType : Nat := 0x8808

/-- The segment tag type (R206). -/
def segmentTagType : Nat := 0x8100

/-- A link control frame by its type; its destination is not examined (R92). -/
def isLinkControl (data : List Byte) : Bool := frameType data == linkControlType

/-- The operation code of a link control frame (R92, R206). -/
def linkOperation (data : List Byte) : Nat := field data 14 2

/-- The pause time of a link pause frame, in quanta (R92, R206). -/
def linkPauseTime (data : List Byte) : Nat := field data 16 2

/-- The segment number of a frame: its tag's low twelve bits, or the default segment (R77). -/
def segmentNumber (default : Nat) (data : List Byte) : Nat :=
  if frameType data = segmentTagType then field data 14 2 % 4096 else default

/-- The cells a frame of a length holds (R88). -/
def cellsFor (length : Nat) : Nat := (length + 127) / 128

/-- Bytes as they stand in cells, 128 to a cell (R88, R94). -/
def inCells (data : List Byte) : List (List Byte) :=
  (List.range (cellsFor data.length)).map (fun i => (data.drop (128 * i)).take 128)

/-- A command frame: the command type and the part's own address, both (R93). -/
def isCommandFrame (img : Image) (data : List Byte) : Bool :=
  frameType data == img.commandType.toNat && field data 0 6 == img.ownAddress.toNat

/-! ## Command frames (R154, R208) -/

/-- The command tag, bytes 14 and 15. -/
def commandTag (data : List Byte) : BitVec 16 := BitVec.ofNat 16 (field data 14 2)

/-- The code, byte 16. -/
def commandCode (data : List Byte) : Byte := byteAt data 16

/-- The body length B, bytes 17 and 18. -/
def bodyLength (data : List Byte) : Nat := field data 17 2

/-- The body, B bytes from byte 19. -/
def commandBody (data : List Byte) : List Byte := (data.drop 19).take (bodyLength data)

/-- The authentication tag, 16 bytes after the body. -/
def commandAuthTag (data : List Byte) : List Byte := (data.drop (19 + bodyLength data)).take 16

/-- The GMAC nonce of a command frame (R155, R206). -/
def commandNonce (img : Image) (data : List Byte) : List Byte :=
  beBytes 6 img.ownAddress.toNat ++ beBytes 2 img.commandType.toNat ++ beBytes 2 (commandTag data).toNat ++ [0, 0]

/-- A command frame authenticates: it is long enough for its body length, and the GMAC over bytes 14 to 18 + B under
the command key equals its tag (R155). -/
def commandAuthentic (key : BitVec 256) (img : Image) (data : List Byte) : Bool :=
  decide (35 + bodyLength data ≤ data.length) &&
    gcmTag key (commandNonce img data) ((data.drop 14).take (5 + bodyLength data)) [] == commandAuthTag data

/-- Whether B is the body length its code requires (R160). A WRITE-SEGMENTS with B below 4 holds no whole count field
and does not fit. -/
def bodyLengthFits (code B : Nat) (body : List Byte) : Bool :=
  match code with
  | 0x01 => B == 49
  | 0x02 => decide (4 ≤ B) && B == 4 + 2 * field body 2 2
  | 0x03 => B == 2
  | 0x04 | 0x05 | 0x06 | 0x07 | 0x08 => B == 1
  | 0x09 => B == 2
  | 0x0a => B == 0
  | _ => false

/-- A queue mask names queue q when its bit of weight 2^q is set (R160). -/
def maskNames (mask : Byte) (q : Fin 8) : Bool := mask.getLsbD q.val

/-- A segment entry of 2 bytes (R208): `none` for the action 11b. Fields the action does not use are not examined
(R75, R209). Whether an ENCRYPT entry's association is defined is tested apart (R75). -/
def decodeSegEntry (word : Nat) : Option SegEntry :=
  match word / 2 ^ 14 % 4 with
  | 0 => some .drop
  | 1 => some (.encrypt (Fin.ofNat 64 (word / 256)) (Fin.ofNat 8 word))
  | 2 => some (.clear (Fin.ofNat 8 word))
  | _ => none

/-! ## Codes -/

/-- The code of a result (R210). -/
def CommandResult.code : CommandResult → Byte
  | .done => 0x00
  | .accepted => 0x01
  | .refusedRange => 0x81
  | .refusedBusy => 0x82
  | .refusedState => 0x83
  | .refusedStaleEpoch => 0x84
  | .refusedTooFar => 0x85
  | .refusedNoSlot => 0x86
  | .refusedWrap => 0x87
  | .refusedFormat => 0x88
  | .refusedUnknown => 0x89

/-- The code of a notice kind (R210). -/
def NoticeKind.code : NoticeKind → Byte
  | .started => 0x01
  | .settled => 0x02
  | .keyPlaced => 0x03
  | .keyDiscarded => 0x04
  | .keyWanted => 0x05
  | .advanced => 0x06
  | .exception => 0x07
  | .isolated => 0x08
  | .busQuiet => 0x09
  | .busResumed => 0x0a
  | .queueQuiesced => 0x0b
  | .moveDone => 0x0c
  | .commandOverrun => 0x0d
  | .zeroized => 0x0e
  | .halted => 0x0f

/-- The place of a class in the disposition table (R210, R211); its code is one more. -/
def ExcClass.index : ExcClass → Fin 13
  | .settling => 0
  | .noKey => 1
  | .blind => 2
  | .exhausted => 3
  | .starved => 4
  | .rekeyPoint => 5
  | .staleDiscard => 6
  | .claimOverlap => 7
  | .retired => 8
  | .oversize => 9
  | .parkTimeout => 10
  | .keyCheck => 11
  | .double => 12

/-- The code of a role, in a notice (R210) and in an INSTALL-KEY reply (R163). The two other roles are never
reported. -/
def Role.code : Role → Nat
  | .pending => 1
  | .current => 2
  | .standby => 3
  | .empty => 0
  | .retiring => 0

/-- The code of an advance reason (R203, R210). -/
def AdvanceReason.code : AdvanceReason → Nat
  | .rekey => 0
  | .exhausted => 1
  | .blind => 2
  | .overlap => 3
  | .command => 4
  | .implicit => 5
  | .epochEnd => 6

/-- The reason a delivered ADVANCE reports: an unused code reports IMPLICIT (R203, R205). -/
def AdvanceReason.ofBusCode (code : BitVec 3) : AdvanceReason :=
  match code.toNat with
  | 0 => .rekey
  | 1 => .exhausted
  | 2 => .blind
  | 3 => .overlap
  | 4 => .command
  | _ => .implicit

/-- The detail byte of a notice (R210). -/
def NoticeDetail.code : NoticeDetail → Byte
  | .none => 0
  | .role r => BitVec.ofNat 8 r.code
  | .reason r => BitVec.ofNat 8 r.code
  | .cls c => BitVec.ofNat 8 (c.index.val + 1)

/-! ## Frames sent -/

/-- The 12-byte nonce of a lane and of a key unwrap: association, 00h, epoch, counter or λ, 0000h (R140, R162, R206). -/
def frameNonce (assoc epoch counter : Nat) : List Byte :=
  beBytes 1 assoc ++ [0] ++ beBytes 2 epoch ++ beBytes 6 counter ++ [0, 0]

/-- The envelope header: envelope type, association, flags with station number and version 01b, epoch, counter
(R139, R206). -/
def envelopeHeader (img : Image) (station : BitVec 3) (assoc : Fin 64) (epoch counter : Nat) : List Byte :=
  beBytes 2 img.envelopeType.toNat ++ beBytes 1 assoc.val ++ beBytes 1 (8 + station.toNat) ++ beBytes 2 epoch ++
    beBytes 6 counter

/-- The link pause frame the part sends (R101, R206). -/
def pauseFrame (img : Image) (time : Nat) : List Byte :=
  padTo60 (beBytes 6 0x0180c2000001 ++ beBytes 6 img.ownAddress.toNat ++ beBytes 2 linkControlType ++ beBytes 2 1 ++
    beBytes 2 time)

/-- The header of reply and status frames (R210). -/
def agentHeader (destination source : BitVec 48) (type : BitVec 16) (kind : Nat) : List Byte :=
  beBytes 6 destination.toNat ++ beBytes 6 source.toNat ++ beBytes 2 type.toNat ++ beBytes 1 kind

/-- A reply frame (R210). -/
def replyFrame (img : Image) (r : Reply) : List Byte :=
  padTo60 (agentHeader img.agentAddress img.ownAddress img.commandType 1 ++ beBytes 2 r.tag.toNat ++ [r.code] ++
    [r.result.code] ++ beBytes 6 r.value ++ beBytes 1 r.counters.length ++ (r.counters.map (beBytes 6)).flatten)

/-- The 18 bytes of a notice in a status frame (R210). -/
def noticeBytes (n : Notice) : List Byte :=
  [n.kind.code, n.detail.code] ++ beBytes 1 n.assoc ++ [if n.alert then 1 else 0] ++ beBytes 2 n.epoch ++
    beBytes 6 n.value ++ beBytes 2 n.count ++ beBytes 4 n.time.toNat

/-- A status frame with the notices it carries (R210). -/
def statusFrame (destination source : BitVec 48) (type : BitVec 16) (notices : List Notice) : List Byte :=
  padTo60 (agentHeader destination source type 2 ++ beBytes 1 notices.length ++ (notices.map noticeBytes).flatten)

/-! ## Bus messages (R203) -/

/-- The kind of a message. -/
def MsgContent.kind : MsgContent → MsgKind
  | .advance _ _ => .advance
  | .claim _ _ _ => .claim
  | .beacon _ _ => .beacon
  | .join => .join

/-- The kind value, which is the rank in arbitration (R28, R29). -/
def MsgKind.value : MsgKind → Nat
  | .advance => 0
  | .claim => 1
  | .beacon => 2
  | .join => 3

/-- Bits 1 to 11: kind, association, sender (R203). -/
def BusMessage.arbitration (m : BusMessage) : List Bool :=
  msbBits (BitVec.ofNat 2 m.content.kind.value) ++ msbBits m.assoc ++ msbBits m.sender

/-- The content bits (R203). -/
def MsgContent.bits : MsgContent → List Bool
  | .advance epoch reason => msbBits epoch ++ msbBits reason
  | .claim epoch start count => msbBits epoch ++ msbBits start ++ msbBits count
  | .beacon epoch hwm => msbBits epoch ++ msbBits hwm
  | .join => []

/-- The CRC a sender computes: from the first kind bit to the last content bit (R204). -/
def BusMessage.crc (m : BusMessage) : BitVec 16 := crc16 (m.arbitration ++ m.content.bits)

/-- The association a message names. -/
def BusMessage.target (m : BusMessage) : Fin 64 := m.assoc.toFin

end Sys2Proof.Machine
end

