-- ==== Sys2Proof/Machine/Flags.lean ====
section
/-! DEFINITION. Conditions the rules test, computed from the state: nothing here changes it. -/

namespace Sys2Proof.Machine

/-! ## Configuration -/

/-- The image the blocks work with (R191); `Image.absent` while none is taken. -/
def State.cfg (s : State) : Image := s.image.getD Image.absent

/-- The definition of an association (R72). -/
def State.assocDef (s : State) (a : Fin 64) : AssocDef := s.cfg.defs[a]

/-- The association an association byte names, when it is defined; a byte above 63 names none (R73, R161). -/
def State.definedAssoc? (s : State) (byte : Byte) : Option (Fin 64) :=
  if h : byte.toNat < 64 then
    if (s.assocDef ⟨byte.toNat, h⟩).defined then some ⟨byte.toNat, h⟩ else none
  else none

/-- The disposition of a fault class (R117). -/
def State.disposition (s : State) (c : ExcClass) : Disposition := s.cfg.settings[c.index].disposition

/-- Whether a class is reported: fixed yes for KEY-CHECK and DOUBLE, and alert implies notify (R117). -/
def State.notifies (s : State) (c : ExcClass) : Bool :=
  match c with
  | .keyCheck => true
  | .double => true
  | _ => s.cfg.settings[c.index].notify || s.cfg.settings[c.index].alert

/-- Whether a report carries alert: fixed yes for KEY-CHECK (R117). -/
def State.alerts (s : State) (c : ExcClass) : Bool :=
  match c with
  | .keyCheck => true
  | _ => s.cfg.settings[c.index].alert

/-! ## Device state -/

/-- SETTLING or RUNNING: dispatch begins (R108), the bus controller takes part (R26), egress frames are sent (R143). -/
def DeviceState.working : DeviceState → Bool
  | .settling => true
  | .running => true
  | _ => false

/-- Both Ethernet ports are up (R105). -/
def DeviceState.portsUp : DeviceState → Bool
  | .settling => true
  | .running => true
  | .zeroizing => true
  | .zeroized => true
  | _ => false

/-- ZEROIZING or ZEROIZED. -/
def DeviceState.erased : DeviceState → Bool
  | .zeroizing => true
  | .zeroized => true
  | _ => false

/-- The level of ALERT_N: low while the latch is set (R180). -/
def State.alertN (s : State) : Bool := !s.status.alert

/-- The level of CFG_CS_N: low while the serial memory is selected (R212, R213). -/
def State.cfgCsN (s : State) : Bool := s.serial.isNone

/-! ## Counter records and key slots -/

/-- The association with its counter record. -/
def State.assoc (s : State) (a : Fin 64) : Assoc := s.assocs[a]

/-- The four slots of an association (R51). -/
def State.slots (s : State) (a : Fin 64) : Vector KeySlot 4 := s.keys[a]

/-- A key slot. -/
def State.slot (s : State) (r : SlotRef) : KeySlot := (s.slots r.assoc)[r.index]

/-- The first slot of four that meets a test. -/
def findSlot (v : Vector KeySlot 4) (p : KeySlot → Bool) : Option (Fin 4) :=
  (List.finRange 4).find? (fun j => p v[j])

/-- How many of four slots meet a test. -/
def countSlots (v : Vector KeySlot 4) (p : KeySlot → Bool) : Nat :=
  (List.finRange 4).countP (fun j => p v[j])

/-- The first slot with a role. -/
def slotWithRole (v : Vector KeySlot 4) (r : Role) : Option (Fin 4) := findSlot v (fun k => k.role == r)

/-- The RETIRING slot of lowest epoch (R67). -/
def oldestRetiring (v : Vector KeySlot 4) : Option (Fin 4) :=
  (List.finRange 4).foldl (fun best j =>
    if v[j].role = .retiring then
      match best with
      | none => some j
      | some b => if v[j].epoch < v[b].epoch then some j else some b
    else best) none

/-- The counter limit λ: that of the CURRENT slot (R1, R51). Without a CURRENT slot none exists; no rule reads it
there, and 0 stands (log 25). -/
def State.limit (s : State) (a : Fin 64) : Nat :=
  match slotWithRole (s.slots a) .current with
  | some j => (s.slots a)[j].limit
  | none => 0

/-- The current epoch, 0 when it has none (R121). -/
def Assoc.epochOrZero (r : Assoc) : Nat := r.epoch.getD 0

/-- The HWM view; 0 stands where it is unknown. One rule reads it there: R37, for a BEACON entry of an association since
RETIRED (log 31). -/
def Assoc.front (r : Assoc) : Nat := r.hwm.getD 0

/-- The counters of the active range not yet assigned (R1). -/
def ActiveRange.left (r : ActiveRange) : Nat := r.stop + 1 - r.next

/-- The counters of the queued range (R1). -/
def QueuedRange.size (r : QueuedRange) : Nat := r.stop + 1 - r.start

/-- The reservation count (R1). -/
def Assoc.reservationCount (r : Assoc) : Nat :=
  (match r.active with | some x => x.left | none => 0) + (match r.queued with | some x => x.size | none => 0)

/-- W − G of an association (R9, R15). -/
def State.span (s : State) (a : Fin 64) : Nat := (s.assocDef a).window - (s.assocDef a).guard

/-- The claim size s_k at the record's ladder level (R12). -/
def State.claimSize (s : State) (a : Fin 64) : Nat := s.cfg.ladder[(s.assoc a).level]

/-- The active range is stale when h − x ≥ W − G (R9). -/
def State.staleActive (s : State) (a : Fin 64) : Bool :=
  match (s.assoc a).active with
  | some r => decide (r.next + s.span a ≤ (s.assoc a).front)
  | none => false

/-- The claim count n = min(s_k, floor((W − G)/2), λ − h) (R15). -/
def State.claimCount (s : State) (a : Fin 64) : Nat :=
  min (min (s.claimSize a) (s.span a / 2)) (s.limit a - (s.assoc a).front)

/-- The line is exhausted for this station: h ≥ λ (R10). -/
def State.exhausted (s : State) (a : Fin 64) : Bool := decide (s.limit a ≤ (s.assoc a).front)

/-- LIVE, BLIND or KEY-WAIT: the states an advance reaches (R64). -/
def AssocState.inEpoch : AssocState → Bool
  | .live => true
  | .blind => true
  | .keyWait => true
  | _ => false

/-- LIVE or KEY-WAIT: the states in which h is known (R2, R43). -/
def AssocState.frontKnown : AssocState → Bool
  | .live => true
  | .keyWait => true
  | _ => false

/-- SETTLING or DORMANT: messages go into the settle view (R41, R20). -/
def AssocState.listening : AssocState → Bool
  | .settling => true
  | .dormant => true
  | _ => false

/-! ## Status unit -/

/-- The oldest notice is 100 µs old or more (R178). -/
def State.noticeAged (s : State) : Bool :=
  match s.status.notices.head? with
  | some n => decide (100 ≤ (s.time - n.time).toNat)
  | none => false

/-- A status frame is due (R178). -/
def State.statusDue (s : State) : Bool :=
  !s.status.notices.isEmpty &&
    (s.noticeAged || decide (8 ≤ s.status.notices.length) || s.status.heldZeroized ||
      s.status.notices.any (fun n => n.kind == .zeroized))

/-- The rack transmitter is sending a reply, which is then the oldest of the list (R158). -/
def State.sendingReply (s : State) : Bool :=
  match s.rack.sending with
  | some (.reply, _) => true
  | _ => false

/-- A reply is ready: one stands in the list that is not being sent (R179). -/
def State.replyReady (s : State) : Bool :=
  decide ((if s.sendingReply then 1 else 0) < s.status.replies.length)

/-! ## Frames, lanes, queues -/

/-- A lane's frame (R132). -/
def Lane.frame? : Lane → Option Nat
  | .idle => none
  | .keying f _ => some f
  | .enciphering f _ _ => some f
  | .passing f => some f

/-- The key slot a lane's frame references (R132, R136). -/
def Lane.slot? : Lane → Option SlotRef
  | .idle => none
  | .keying _ r => some r
  | .enciphering _ r _ => some r
  | .passing _ => none

/-- A lane. -/
def State.lane (s : State) (l : Fin 4) : Lane := s.lanes.lanes[l]

/-- The first IDLE lane; which idle lane takes a frame cannot be seen (R108, log 6). -/
def State.idleLane? (s : State) : Option (Fin 4) :=
  (List.finRange 4).find? (fun l => s.lane l == .idle)

/-- The bytes held by the inbound FIFO: L + 4 for each frame (R104). -/
def State.fifoBytes (s : State) : Nat := (s.campus.fifo.map (fun f => f.data.length + 4)).sum

/-- The hold limit in µs (R127, R211). -/
def State.holdLimit (s : State) : Nat := 50 * s.cfg.holdLimit

end Sys2Proof.Machine
end

