-- ==== Sys2Proof/Machine/Sparse.lean ====
section
/-! DEFINITION. Tables by number in one canonical form: a list of (key, value) pairs with keys strictly rising. The
descriptor pool is one, by handle; the segment map is one, by index, in which DROP is never listed. -/

namespace Sys2Proof.Machine

variable {α : Type}

/-- The value at a key. -/
def tableGet : List (Nat × α) → Nat → Option α
  | [], _ => none
  | (k, v) :: rest, i => if k = i then some v else tableGet rest i

/-- The table with a value at a key, keys still rising. -/
def tablePut : List (Nat × α) → Nat → α → List (Nat × α)
  | [], i, x => [(i, x)]
  | (k, v) :: rest, i, x =>
    if i < k then (i, x) :: (k, v) :: rest
    else if k = i then (i, x) :: rest
    else (k, v) :: tablePut rest i x

/-- The table without a key. -/
def tableErase (t : List (Nat × α)) (i : Nat) : List (Nat × α) := t.filter (fun p => p.1 != i)

/-- Keys strictly rising. -/
abbrev tableSorted (t : List (Nat × α)) : Prop := t.Pairwise (fun p q => p.1 < q.1)

/-- The segment map at an index; an index that is not listed reads DROP, what a device reset leaves (R76). -/
def SegMap.read (m : List (Nat × SegEntry)) (i : Nat) : SegEntry := (tableGet m i).getD .drop

/-- An entry is written whole (R79); writing DROP removes the listing. -/
def SegMap.write (m : List (Nat × SegEntry)) (i : Nat) (e : SegEntry) : List (Nat × SegEntry) :=
  if e = .drop then tableErase m i else tablePut m i e

/-- The canonical form of the segment map: indices strictly rising and below 4096, DROP never listed (R75, R76). -/
abbrev SegMap.wf (m : List (Nat × SegEntry)) : Prop :=
  tableSorted m ∧ ∀ p ∈ m, p.1 < 4096 ∧ p.2 ≠ .drop

end Sys2Proof.Machine
end

