-- ==== Sys2Proof/Machine/Ops.lean ====
section
/-! DEFINITION. The operations that the blocks share: counts, notices, exception reports, release marks, transmit list
entries, key slots, cells and lanes. -/

namespace Sys2Proof.Machine

/-! ## One association, one slot, one lane -/

/-- The state with one association's record changed. -/
def State.modAssoc (s : State) (a : Fin 64) (f : Assoc → Assoc) : State :=
  { s with assocs := s.assocs.set a (f (s.assoc a)) }

/-- The state with one key slot replaced. -/
def State.setSlot (s : State) (r : SlotRef) (k : KeySlot) : State :=
  { s with keys := s.keys.set r.assoc ((s.slots r.assoc).set r.index k) }

/-- The state with one lane replaced. -/
def State.setLane (s : State) (l : Fin 4) (x : Lane) : State :=
  { s with lanes := { s.lanes with lanes := s.lanes.lanes.set l x } }

/-- The key store wipes a slot (R52). -/
def wipeSlot (r : SlotRef) (s : State) : State := s.setSlot r KeySlot.wiped

/-! ## Counts (R181) -/

/-- A 48-bit count grows and stops at 2^48 − 1 (R7, R181). -/
def satAdd48 (n k : Nat) : Nat := min (n + k) max48

/-- The place of a count in its group, the order of R181. -/
def AssocCount.index : AssocCount → Fin 22
  | .framesEncrypted => 0
  | .octetsEncrypted => 1
  | .retiredInFlight => 2
  | .parks => 3
  | .flushed => 4
  | .dropSettling => 5
  | .dropNoKey => 6
  | .dropBlind => 7
  | .dropExhausted => 8
  | .dropStarved => 9
  | .dropRetired => 10
  | .dropOversize => 11
  | .dropParkTimeout => 12
  | .dropDouble => 13
  | .dropKeyCheck => 14
  | .discardStale => 15
  | .discardOverlap => 16
  | .discardAdvance => 17
  | .discardKeyLoss => 18
  | .discardRetire => 19
  | .claimsWon => 20
  | .claimsLost => 21

/-- The place of a reception drop in group 64 (R181). -/
def ReceptionCount.index : ReceptionCount → Fin 9
  | .fcs => 0
  | .runt => 1
  | .giant => 2
  | .control => 3
  | .commandOverrun => 4
  | .segDrop => 5
  | .queueCap => 6
  | .noRoom => 7
  | .inert => 8

/-- The place of a count in group 65 (R181). -/
def FrameCount.index : FrameCount → Fin 8
  | .clearSent => 0
  | .clearOversize => 1
  | .inboundFcs => 2
  | .inboundLength => 3
  | .inboundFull => 4
  | .inboundControl => 5
  | .commandAuth => 6
  | .noticesLost => 7

/-- The place of a count in group 66 (R181). -/
def BusCount.index : BusCount → Fin 3
  | .busVoids => 0
  | .noAcks => 1
  | .lateMessages => 2

/-- The drop count of a class (R131). The traps have none and never drop a frame (R120). -/
def ExcClass.dropCount? : ExcClass → Option AssocCount
  | .settling => some .dropSettling
  | .noKey => some .dropNoKey
  | .blind => some .dropBlind
  | .exhausted => some .dropExhausted
  | .starved => some .dropStarved
  | .retired => some .dropRetired
  | .oversize => some .dropOversize
  | .parkTimeout => some .dropParkTimeout
  | .keyCheck => some .dropKeyCheck
  | .double => some .dropDouble
  | .rekeyPoint => none
  | .staleDiscard => none
  | .claimOverlap => none

/-- A count of an association grows (R181). -/
def bump (a : Fin 64) (c : AssocCount) (n : Nat) (s : State) : State :=
  { s with counters := { s.counters with
      assoc := s.counters.assoc.set a ((s.counters.assoc[a]).set c.index (satAdd48 (s.counters.assoc[a])[c.index] n)) } }

/-- The count of drops of a class grows by a number of frames (R131). -/
def bumpDrop (a : Fin 64) (c : ExcClass) (n : Nat) (s : State) : State :=
  match c.dropCount? with
  | some k => bump a k n s
  | none => s

/-- A reception drop is counted (R97). -/
def bumpReception (c : ReceptionCount) (s : State) : State :=
  { s with counters := { s.counters with
      reception := s.counters.reception.set c.index (satAdd48 s.counters.reception[c.index] 1) } }

/-- A count of group 65 grows by one. -/
def bumpFrames (c : FrameCount) (s : State) : State :=
  { s with counters := { s.counters with
      frames := s.counters.frames.set c.index (satAdd48 s.counters.frames[c.index] 1) } }

/-- A count of group 66 grows by one. -/
def bumpBus (c : BusCount) (s : State) : State :=
  { s with counters := { s.counters with bus := s.counters.bus.set c.index (satAdd48 s.counters.bus[c.index] 1) } }

/-! ## Notices (R175 to R177) -/

/-- A notice about to be handed over; its time is set when it joins (R175). -/
def newNotice (kind : NoticeKind) (detail : NoticeDetail) (assoc epoch value count : Nat) (alert : Bool) : Notice :=
  { kind := kind, detail := detail, assoc := assoc, epoch := epoch, value := value, count := count, time := 0,
    alert := alert }

/-- Whether a new notice merges into a queued one: EXCEPTION of the same class and association, or COMMAND-OVERRUN
(R176). -/
def Notice.mergesInto (new old : Notice) : Bool :=
  match new.kind with
  | .exception => old.kind == .exception && old.detail == new.detail && old.assoc == new.assoc
  | .commandOverrun => old.kind == .commandOverrun
  | _ => false

/-- A merge adds the counts, saturating at 65535, and sets the alert field; value, epoch and time stay (R176). -/
def Notice.merge (new old : Notice) : Notice :=
  { old with count := min (old.count + new.count) 65535, alert := old.alert || new.alert }

/-- The queue with a notice merged into the first it merges into (R176). -/
def mergeNotice (new : Notice) : List Notice → List Notice
  | [] => []
  | old :: rest => if new.mergesInto old then new.merge old :: rest else old :: mergeNotice new rest

/-- The alert latch is set (R180). -/
def setAlert (s : State) : State := { s with status := { s.status with alert := true } }

/-- A notice joins the queue at its tail, stamped with the time counter (R175, R176, R180). -/
def joinNotice (n : Notice) (s : State) : State :=
  { s with status := { s.status with
      notices := s.status.notices ++ [{ n with time := s.time }], alert := s.status.alert || n.alert } }

/-- A notice handed to the status unit merges, joins, or is lost when the queue holds 32 notices and none it can merge
into (R176, R177). From entry to ZEROIZING on, no notice but ZEROIZED is taken (R183). -/
def postNotice (n : Notice) (s : State) : State :=
  if s.device.erased then s
  else if s.status.notices.any n.mergesInto then
    { s with status := { s.status with
        notices := mergeNotice n s.status.notices, alert := s.status.alert || n.alert } }
  else if s.status.notices.length < 32 then joinNotice n s
  else setAlert (bumpFrames .noticesLost s)

/-- An exception is reported when its class's notify setting is yes, as an EXCEPTION notice with the association's
current epoch; 255 and epoch 0 for a clear frame (R121). -/
def report (c : ExcClass) (a : Option (Fin 64)) (value count : Nat) (s : State) : State :=
  if s.notifies c then
    postNotice (newNotice .exception (.cls c) (match a with | some x => x.val | none => 255)
      (match a with | some x => (s.assoc x).epochOrZero | none => 0) value count (s.alerts c)) s
  else s

/-- KEY-WANTED (R54, R61, R66, R71). -/
def postKeyWanted (a : Fin 64) (epoch : Nat) : State → State :=
  postNotice (newNotice .keyWanted .none a.val epoch 0 1 false)

/-- KEY-DISCARDED (R54, R55, R57, R58, R66, R70). -/
def postKeyDiscarded (a : Fin 64) (epoch : Nat) : State → State :=
  postNotice (newNotice .keyDiscarded .none a.val epoch 0 1 false)

/-- KEY-PLACED (R56, R60). -/
def postKeyPlaced (a : Fin 64) (epoch : Nat) (role : Role) : State → State :=
  postNotice (newNotice .keyPlaced (.role role) a.val epoch 0 1 false)

/-! ## Release marks (R125) -/

/-- A block posts a release mark; the dispatcher applies it at the end of the event (R116). -/
def postMark (a : Fin 64) (c : ExcClass) (s : State) : State :=
  { s with disp := { s.disp with marks := s.disp.marks ++ [{ assoc := a, cls := c }] } }

/-- A mark releases every park list entry of its association and class (R125). -/
def ReleaseMark.apply (m : ReleaseMark) (e : ParkEntry) : ParkEntry :=
  if e.assoc = m.assoc ∧ e.cls = m.cls then { e with released := true } else e

/-- The dispatcher applies the marks posted and keeps none (R116, R125). -/
def applyMarks (s : State) : State :=
  { s with disp := { s.disp with
      park := s.disp.marks.foldl (fun park m => park.map m.apply) s.disp.park, marks := [] } }

/-! ## Transmit list (R35 to R37) -/

/-- The rank of an entry: lowest kind first, then lowest association (R35). -/
def TxEntry.rank (e : TxEntry) : Nat := e.kind.value * 64 + e.assoc.val

/-- An entry joins the list in its rank; a request for a pair already there merges (R36). -/
def txInsert (e : TxEntry) : List TxEntry → List TxEntry
  | [] => [e]
  | x :: rest => if x = e then x :: rest else if e.rank < x.rank then e :: x :: rest else x :: txInsert e rest

/-- An entry is requested (R36). -/
def requestTx (kind : MsgKind) (a : Fin 64) (s : State) : State :=
  { s with bus := { s.bus with txList := txInsert { kind := kind, assoc := a } s.bus.txList } }

/-- An entry leaves the list (R37). -/
def removeTx (kind : MsgKind) (a : Fin 64) (s : State) : State :=
  { s with bus := { s.bus with txList := s.bus.txList.filter (fun e => e != { kind := kind, assoc := a }) } }

/-- This station's message on the bus is a CLAIM for the association: its entry is withdrawn (R19, log 11). -/
def OwnMessage.withdrawClaim (a : Fin 64) (m : OwnMessage) : OwnMessage :=
  if m.message.content.kind = .claim ∧ m.message.target = a then { m with withdrawn := true } else m

/-- The pending claim is cancelled and its CLAIM entry removed (R24, R25, R37, R65). -/
def cancelClaim (a : Fin 64) (s : State) : State :=
  let s1 := removeTx .claim a (s.modAssoc a (fun r => { r with pendingClaim := false }))
  { s1 with bus := { s1.bus with onBus := s1.bus.onBus.map (OwnMessage.withdrawClaim a) } }

/-- The pending advance leaves the record and its ADVANCE entry the list (R37, R62). -/
def cancelAdvance (a : Fin 64) (s : State) : State :=
  removeTx .advance a (s.modAssoc a (fun r => { r with pendingAdvance := none }))

/-! ## Cells and descriptors (R88 to R90, R100) -/

/-- A stored frame's descriptor. -/
def State.frame? (s : State) (h : Nat) : Option Descriptor := tableGet s.buf.pool h

/-- A free descriptor; which one a frame is given cannot be seen (R89, log 6). -/
def State.freeHandle? (s : State) : Option Nat :=
  (List.range 1024).find? (fun h => (s.frame? h).isNone)

/-- The pause test after a change of F (R100); leaving PAUSING stops the repeat timer (R101). -/
def pauseTest (s : State) : State :=
  if s.buf.pausing then
    if s.cfg.pOn + s.cfg.hysteresis ≤ s.buf.freeCells then
      { s with buf := { s.buf with pausing := false, pauseRequest := true, repeatTimer := none } }
    else s
  else if s.buf.freeCells < s.cfg.pOn then
    { s with buf := { s.buf with pausing := true, pauseRequest := true } }
  else s

/-- A stored frame is released: its cells and descriptor return to the pool together, then the pause test. Its bytes are
left in the cells (R90). -/
def releaseFrame (h : Nat) (s : State) : State :=
  match s.frame? h with
  | some d =>
    pauseTest { s with buf := { s.buf with
      pool := tableErase s.buf.pool h, freeCells := s.buf.freeCells + d.cells,
      leftover := inCells d.data ++ s.buf.leftover } }
  | none => s

/-- Frames are released one after another; a handle with no frame left changes nothing (R90, R128, R196). -/
def releaseEach (frames : List Nat) (s : State) : State := frames.foldl (fun s h => releaseFrame h s) s

/-! ## In-flight counts and lane frames (R137, R146, R148) -/

/-- A queue becomes QUIESCED with its notice (R148). -/
def becomeQuiesced (q : Fin 8) (s : State) : State :=
  postNotice (newNotice .queueQuiesced .none 255 0 q.val 1 false)
    { s with disp := { s.disp with queueState := s.disp.queueState.set q .quiesced } }

/-- A queue loses one frame in flight; a QUIESCING queue whose count comes to 0 becomes QUIESCED (R146, R148). -/
def loseInFlight (q : Fin 8) (s : State) : State :=
  let n := s.lanes.inFlight[q]
  let s1 := { s with lanes := { s.lanes with inFlight := s.lanes.inFlight.set q (n - 1) } }
  if n = 1 ∧ s.disp.queueState[q] = .quiescing then becomeQuiesced q s1 else s1

/-- The completion entry of a frame leaves the list; those behind it keep their order (R137, R142). -/
def removeCompletion (h : Nat) (s : State) : State :=
  { s with lanes := { s.lanes with completion := s.lanes.completion.filter (fun e => e.frame != h) } }

/-- A frame leaves its lane unfinished, aborted or abandoned: the lane clears its working store and becomes IDLE, the
completion entry is removed, the queue loses a frame in flight and the frame is released (R137). Ciphertext enters the cells
at LANE_FINISH alone, so the cells of a frame that leaves in WORKING are freed with the bytes it came with. DESIGN CHOICE
(log 35). -/
def removeLaneFrame (l : Fin 4) (s : State) : State :=
  match (s.lane l).frame? with
  | some h =>
    let s1 := removeCompletion h (s.setLane l .idle)
    let s2 := match s.frame? h with
      | some d => loseInFlight d.queue s1
      | none => s1
    releaseFrame h s2
  | none => s

/-- The lanes whose frames reference a slot, by lane number: the order in which their frames are aborted or abandoned in one
event, which no rule gives (log 13). -/
def State.lanesOfSlot (s : State) (r : SlotRef) : List (Fin 4) :=
  (List.finRange 4).filter (fun l => (s.lane l).slot? == some r)

/-- The use count of a slot loses one (R53). -/
def loseUse (r : SlotRef) (s : State) : State := s.setSlot r { s.slot r with uses := (s.slot r).uses - 1 }

end Sys2Proof.Machine
end

