-- ==== Sys2Proof/Machine/Arbiters.lean ====
section
/-! DEFINITION. The arbiters that act at the end of an event without a row of their own: the campus transmitter (R143),
the status unit (R179), the rack transmitter (R106), and the application of release marks (R116). -/

namespace Sys2Proof.Machine

/-! ## Campus transmitter -/

/-- The bytes the campus transmitter sends for a completion entry: the envelope of an ENCRYPT frame, the frame itself
for a CLEAR one (R139). -/
def outputBytes (e : CompletionEntry) (data : List Byte) : List Byte :=
  match e.action with
  | .encrypt _ => data.take 12 ++ e.header ++ data.drop 12 ++ e.tag
  | .clear => data

/-- The campus transmitter begins the head of the completion list when it is IDLE, the device is SETTLING or RUNNING,
the campus pause timer is 0 and the head is FINISHED (R143). -/
def campusBegin (s : State) : State :=
  match s.campus.sending, s.lanes.completion with
  | none, e :: _ =>
    if s.device.working ∧ s.campus.pauseTimer = 0 ∧ e.finished = true then
      match s.frame? e.frame with
      | some d => { s with campus := { s.campus with
          sending := some (withFcs (outputBytes e d.data)), cutShort := false } }
      | none => s
    else s
  | _, _ => s

/-! ## Status unit -/

/-- The status unit offers a frame of a kind (R179). -/
def setOffer (o : Offer) (s : State) : State :=
  { s with status := { s.status with offered := some o, lastOffered := some o } }

/-- A free value is drawn (log 15, log 16). -/
def drawFree (s : State) : State := { s with freeIndex := s.freeIndex + 1 }

/-- The status unit offers one frame at a time: the kind that is ready, and of two that are, the other than it offered
last; before any offer, the one that became ready first, and either if they became ready together (R179, log 15).
`before` is the state before the event, which shows what was ready then. -/
def statusOffer (before s : State) : State :=
  if !s.device.portsUp || s.status.offered.isSome then s
  else
    match s.replyReady, s.statusDue with
    | false, false => s
    | true, false => setOffer .reply s
    | false, true => setOffer .status s
    | true, true =>
      match s.status.lastOffered with
      | some .reply => setOffer .status s
      | some .status => setOffer .reply s
      | none =>
        if before.statusDue && !before.replyReady then setOffer .status s
        else if before.replyReady && !before.statusDue then setOffer .reply s
        else drawFree (setOffer (if Config.freeBit s.freeIndex then .reply else .status) s)

/-- The ZEROIZED notice (R175, R199). -/
def zeroizedNotice : Notice := newNotice .zeroized .none 255 0 0 1 true

/-- The ZEROIZED notice held apart joins at the tail once the queue has room (R177). -/
def joinHeldZeroized (s : State) : State :=
  if s.status.heldZeroized ∧ s.status.notices.length < 32 then
    joinNotice zeroizedNotice { s with status := { s.status with heldZeroized := false } }
  else s

/-! ## Rack transmitter -/

/-- The rack transmitter begins a frame. -/
def rackSend (kind : RackFrameKind) (f : WireFrame) (s : State) : State :=
  { s with rack := { s.rack with sending := some (kind, f), cutShort := false } }

/-- A pause frame begins: time T while PAUSING, which starts the repeat timer at T × 256 bit times, and 0 otherwise;
the request is removed (R101). -/
def beginPauseFrame (s : State) : State :=
  let time := if s.buf.pausing then s.cfg.pauseTime else 0
  rackSend .pause (withFcs (pauseFrame s.cfg time))
    { s with buf := { s.buf with
        pauseRequest := false,
        repeatTimer := if s.buf.pausing then some (s.cfg.pauseTime * 256) else s.buf.repeatTimer } }

/-- The offer is taken by the rack transmitter (R179). -/
def takeOffer (s : State) : State := { s with status := { s.status with offered := none } }

/-- The oldest reply begins (R158, R179). -/
def beginReply (s : State) : State :=
  match s.status.replies with
  | r :: _ => rackSend .reply (withFcs (replyFrame s.cfg r)) (takeOffer s)
  | [] => takeOffer s

/-- A status frame begins: it takes up to 8 of the oldest notices from the queue, and a ZEROIZED notice held apart joins
the room made (R179, R177). -/
def beginStatus (s : State) : State :=
  rackSend .status
    (withFcs (statusFrame s.cfg.agentAddress s.cfg.ownAddress s.cfg.commandType (s.status.notices.take 8)))
    (joinHeldZeroized (takeOffer { s with status := { s.status with notices := s.status.notices.drop 8 } }))

/-- The rack transmitter, when idle, picks the first that is ready: pause request, offered frame, inbound head; the last
two only while the rack pause timer is 0 (R102, R106). -/
def rackPick (s : State) : State :=
  if !s.device.portsUp || s.rack.sending.isSome then s
  else if s.buf.pauseRequest then beginPauseFrame s
  else if s.rack.pauseTimer ≠ 0 then s
  else
    match s.status.offered with
    | some .reply => beginReply s
    | some .status => beginStatus s
    | none =>
      match s.campus.fifo with
      | f :: _ => rackSend .inbound f s
      | [] => s

/-- What follows every event: the marks posted in it are applied, then the arbiters act. The status unit offers, the
rack transmitter picks, and the status unit offers behind it. -/
def finishEvent (before s : State) : State :=
  s |> applyMarks |> campusBegin |> statusOffer before |> rackPick |> statusOffer before

end Sys2Proof.Machine
end

