-- ==== Sys2Proof/Machine/Epochs.lean ====
section
/-! DEFINITION. The epoch controller and the counter unit up to claims: discards, retirement, advance requests, claim
requests (R5 to R7, R14, R25, R61, R67, R70). -/

namespace Sys2Proof.Machine

/-! ## The reservation -/

/-- The reservation is discarded whole and its count goes to a reason of the discarded-counter count (R7). -/
def discardReservation (a : Fin 64) (reason : AssocCount) (s : State) : State :=
  (bump a reason (s.assoc a).reservationCount s).modAssoc a (fun r => { r with active := none, queued := none })

/-- A range becomes active: its next counter is its start, a is 0, and a STARVED mark is posted (R5, R6). -/
def activate (a : Fin 64) (start stop : Nat) (s : State) : State :=
  postMark a .starved (s.modAssoc a (fun r =>
    { r with active := some { start := start, stop := stop, next := start }, acc := 0 }))

/-- The active range has left: the queued range, if present, is promoted (R6). -/
def promote (a : Fin 64) (s : State) : State :=
  match (s.assoc a).queued with
  | some q => activate a q.start q.stop (s.modAssoc a (fun r => { r with queued := none }))
  | none => s.modAssoc a (fun r => { r with active := none })

/-! ## Key slots leaving service -/

/-- The frame of one lane is abandoned for a slot freed by a third retiring key: counted, the slot's use lowered, the
frame dropped (R67, R137). -/
def abandonLane (r : SlotRef) (s : State) (l : Fin 4) : State :=
  removeLaneFrame l (loseUse r (bump r.assoc .retiredInFlight 1 s))

/-- The older of two RETIRING slots is freed: its frames in lanes are abandoned and it is wiped (R67). -/
def freeOldestRetiring (a : Fin 64) (s : State) : State :=
  match oldestRetiring (s.slots a) with
  | some j =>
    let r : SlotRef := { assoc := a, index := j }
    wipeSlot r ((s.lanesOfSlot r).foldl (abandonLane r) s)
  | none => s

/-- The CURRENT slot becomes RETIRING if its use count is above 0, after freeing the older of two RETIRING slots, and
is wiped otherwise (R66 step 1, R67, R70 step 2). -/
def retireCurrent (a : Fin 64) (s : State) : State :=
  match slotWithRole (s.slots a) .current with
  | some j =>
    let r : SlotRef := { assoc := a, index := j }
    if (s.slot r).uses = 0 then wipeSlot r s
    else
      let s1 := if 2 ≤ countSlots (s.slots a) (fun k => k.role == .retiring) then freeOldestRetiring a s else s
      s1.setSlot r { s1.slot r with role := .retiring }
  | none => s

/-- A slot wiped before it served as CURRENT, with notice KEY-DISCARDED (R175). -/
def discardKey (r : SlotRef) (s : State) : State :=
  postKeyDiscarded r.assoc (s.slot r).epoch (wipeSlot r s)

/-- Every slot of the association that meets a test is wiped with notice KEY-DISCARDED, in slot order. -/
def discardKeys (a : Fin 64) (p : KeySlot → Bool) (s : State) : State :=
  (List.finRange 4).foldl (fun s j =>
    if p (s.slot { assoc := a, index := j }) then discardKey { assoc := a, index := j } s else s) s

/-! ## Retirement (R70) -/

/-- The release marks of every fault class (R70 step 5). -/
def postAllMarks (a : Fin 64) (s : State) : State :=
  s |> postMark a .settling |> postMark a .noKey |> postMark a .blind |> postMark a .exhausted |> postMark a .starved

/-- The notice of a retirement at epoch 65535: ADVANCED with reason EPOCH-END and alert (R70 step 4). The initiating
station is this one (log 14). -/
def postEpochEnd (a : Fin 64) (s : State) : State :=
  postNotice (newNotice .advanced (.reason .epochEnd) a.val 65535 s.station.toNat 1 true) s

/-- The counter record takes its RETIRED form: reservation discarded, claim and advance cancelled, h unknown, u and a 0,
the settle view absent (R25, R2, log 12). -/
def retireRecord (a : Fin 64) (s : State) : State :=
  (s |> discardReservation a .discardRetire |> cancelClaim a |> cancelAdvance a).modAssoc a (fun r =>
    { r with state := .retired, hwm := none, assigned := 0, acc := 0, settleView := none })

/-- The association becomes RETIRED (R70). `epochEnd`: the cause was an advance request at epoch 65535. -/
def retire (a : Fin 64) (epochEnd : Bool) (s : State) : State :=
  let s1 := s |> retireRecord a |> retireCurrent a
    |> discardKeys a (fun k => k.role == .standby || k.role == .pending)
  postAllMarks a (if epochEnd then postEpochEnd a s1 else s1)

/-! ## Advance requests (R61) and claim requests (R14) -/

/-- An association holds a STANDBY slot. -/
def State.hasStandby (s : State) (a : Fin 64) : Bool := (slotWithRole (s.slots a) .standby).isSome

/-- An advance request (R61). -/
def requestAdvance (a : Fin 64) (reason : AdvanceReason) (s : State) : State :=
  if !(s.assoc a).state.inEpoch then s
  else if (s.assoc a).epochOrZero = 65535 then retire a true s
  else if (s.assoc a).pendingAdvance.isSome then s
  else
    let target := (s.assoc a).epochOrZero + 1
    if s.hasStandby a then
      requestTx .advance a (s.modAssoc a (fun r =>
        { r with pendingAdvance := some { target := target, reason := reason, condition := .queued } }))
    else
      postKeyWanted a target (s.modAssoc a (fun r =>
        { r with pendingAdvance := some { target := target, reason := reason, condition := .held } }))

/-- An advance of the association is pending in condition QUEUED (R14 test 3). -/
def Assoc.advanceQueued (r : Assoc) : Bool :=
  match r.pendingAdvance with
  | some p => p.condition == .queued
  | none => false

/-- A claim request, by the five tests of R14 in their order. -/
def requestClaim (a : Fin 64) (s : State) : State :=
  if (s.assoc a).pendingClaim then s
  else if (s.assoc a).state ≠ .live then s
  else if (s.assoc a).advanceQueued then s
  else if s.exhausted a then requestAdvance a .exhausted s
  else requestTx .claim a (s.modAssoc a (fun r => { r with pendingClaim := true }))

/-- A pending advance in condition HELD becomes QUEUED when a STANDBY is placed, and its entry joins (R62). -/
def queueHeldAdvance (a : Fin 64) (s : State) : State :=
  match (s.assoc a).pendingAdvance with
  | some p =>
    if p.condition = .held then
      requestTx .advance a (s.modAssoc a (fun r =>
        { r with pendingAdvance := some { p with condition := .queued } }))
    else s
  | none => s

/-! ## Applying an advance (R64 to R69) -/

/-- The counter record in the new epoch (R65). -/
def resetRecordForEpoch (a : Fin 64) (epoch : Nat) (s : State) : State :=
  (s |> discardReservation a .discardAdvance |> cancelClaim a |> cancelAdvance a).modAssoc a (fun r =>
    { r with epoch := some epoch, hwm := some 0, acc := 0, assigned := 0, level := (s.assocDef a).startLevel,
             rekeyRequested := false })

/-- The STANDBY of the new epoch becomes CURRENT and the association LIVE; otherwise a STANDBY of another epoch is wiped
and the association waits for its key (R66 steps 2 to 4). -/
def takeUpStandby (a : Fin 64) (epoch : Nat) (s : State) : State :=
  match findSlot (s.slots a) (fun k => k.role == .standby && k.epoch == epoch) with
  | some j =>
    let r : SlotRef := { assoc := a, index := j }
    postMark a .noKey ((s.setSlot r { s.slot r with role := .current }).modAssoc a (fun x => { x with state := .live }))
  | none =>
    postKeyWanted a epoch
      ((discardKeys a (fun k => k.role == .standby) s).modAssoc a (fun x => { x with state := .keyWait }))

/-- Applying an advance to epoch e' (R65, R66, R68, R69). The notice ADVANCED comes before those of R66 (log 13). -/
def applyAdvance (a : Fin 64) (epoch : Nat) (reason : AdvanceReason) (initiator : Nat) (s : State) : State :=
  let hadClaim := (s.assoc a).pendingClaim
  let s1 := s |> resetRecordForEpoch a epoch
    |> postNotice (newNotice .advanced (.reason reason) a.val epoch initiator 1 false)
    |> retireCurrent a |> takeUpStandby a epoch
    |> postMark a .blind |> postMark a .exhausted |> postMark a .starved
  if hadClaim then requestClaim a s1 else s1

/-- An advance to epoch e' reaches a LIVE, BLIND or KEY-WAIT association and is applied when e' is above its current
epoch; otherwise it is ignored (R64). -/
def advanceReaches (a : Fin 64) (epoch : Nat) (reason : AdvanceReason) (initiator : Nat) (s : State) : State :=
  if (s.assoc a).state.inEpoch ∧ (s.assoc a).epochOrZero < epoch then applyAdvance a epoch reason initiator s else s

/-! ## Placement (R54 to R56) -/

/-- The PENDING keys of an association with their slots, in slot order. -/
def State.pendingKeys (s : State) (a : Fin 64) : List (Fin 4) :=
  (List.finRange 4).filter (fun j => (s.slots a)[j].role == .pending)

/-- The lowest epoch among keys. -/
def State.lowestPending (s : State) (a : Fin 64) : Option Nat :=
  ((s.pendingKeys a).map (fun j => (s.slots a)[j].epoch)).min?

/-- Each PENDING key takes its role in epoch e: CURRENT for e, STANDBY for e + 1, otherwise wiped with notice
KEY-DISCARDED (R54, R55). -/
def assignRoles (a : Fin 64) (e : Nat) (s : State) : State :=
  (s.pendingKeys a).foldl (fun s j =>
    let r : SlotRef := { assoc := a, index := j }
    let k := s.slot r
    if k.epoch = e then s.setSlot r { k with role := .current }
    else if k.epoch = e + 1 then s.setSlot r { k with role := .standby }
    else discardKey r s) s

/-- The record of a placement in epoch e with front h (R54, R55): u and a 0, the reservation empty, the flag clear, k
unchanged. -/
def placeRecord (a : Fin 64) (e : Nat) (h : Option Nat) (state : AssocState) (s : State) : State :=
  s.modAssoc a (fun r =>
    { r with state := state, epoch := some e, hwm := h, assigned := 0, acc := 0, active := none, queued := none,
             rekeyRequested := false })

/-- The KEY-PLACED notices of the keys just given a role, in slot order, and the NO-KEY mark of a CURRENT (R56).
`placed` are the slots as placement left them before any further event. -/
def reportPlaced (a : Fin 64) (placed : Vector KeySlot 4) (slots : List (Fin 4)) (s : State) : State :=
  slots.foldl (fun s j =>
    match placed[j].role with
    | .current => postMark a .noKey (postKeyPlaced a placed[j].epoch .current s)
    | .standby => postKeyPlaced a placed[j].epoch .standby s
    | _ => s) s

/-- Placement with e* > 0 (R54, R56). -/
def placeInEpoch (a : Fin 64) (e v : Nat) (s : State) : State :=
  let keys := s.pendingKeys a
  let s1 := assignRoles a e s
  let s2 :=
    if (slotWithRole (s1.slots a) .current).isSome then placeRecord a e (some v) .live s1
    else postKeyWanted a e (placeRecord a e (some v) .keyWait s1)
  (reportPlaced a (s1.slots a) keys s2).modAssoc a (fun r => { r with settleView := none })

/-- Placement with e* = 0 and lowest key of epoch f: BLIND in f, and an advance request with reason BLIND (R55, R56). -/
def placeBlind (a : Fin 64) (f : Nat) (s : State) : State :=
  let keys := s.pendingKeys a
  let s1 := placeRecord a f none .blind (assignRoles a f s)
  let s2 := requestAdvance a .blind s1
  (reportPlaced a (s1.slots a) keys s2).modAssoc a (fun r => { r with settleView := none })

/-- Placement of an association (R54 to R56). With no front and no key it becomes, or stays, DORMANT, and its settle
view goes on recording. -/
def place (a : Fin 64) (s : State) : State :=
  match (s.assoc a).settleView with
  | some v => placeInEpoch a v.epoch v.hwm s
  | none =>
    match s.lowestPending a with
    | some f => placeBlind a f s
    | none => s.modAssoc a (fun r => { r with state := .dormant })

/-! ## Installs (R57 to R60) -/

/-- An install: epoch f, limit λ, unwrapped key, and whether the unwrap check passed (R163). -/
structure Install where
  epoch : Nat
  limit : Nat
  key : BitVec 256
  unwrapOk : Bool
  deriving DecidableEq, Repr

/-- What an install comes to: the result, and the role the key received (R163). -/
structure InstallOutcome where
  state : State
  result : CommandResult
  role : Role
  deriving DecidableEq, Repr

/-- The slot an install writes, with its check value computed from what is written (R52). -/
def Install.slotFor (i : Install) (a : Fin 64) (role : Role) : KeySlot :=
  { role := role, epoch := i.epoch, key := i.key, limit := i.limit,
    check := slotCheckValue a.val i.epoch i.limit i.key, uses := 0 }

/-- The key is written into an EMPTY slot of the association: of several the one of lowest number, where R57 to R59 say only
'an EMPTY slot' (log 33). One is always free where an install is accepted (R58); if none were, nothing would be written
(log 25). -/
def writeEmptySlot (a : Fin 64) (role : Role) (i : Install) (s : State) : State :=
  match slotWithRole (s.slots a) .empty with
  | some j => s.setSlot { assoc := a, index := j } (i.slotFor a role)
  | none => s

/-- An install refused leaves everything as it was. -/
def refuseInstall (result : CommandResult) (s : State) : InstallOutcome :=
  { state := s, result := result, role := .empty }

/-- An install while the device is SETTLING (R57). -/
def installSettling (a : Fin 64) (i : Install) (s : State) : InstallOutcome :=
  if (s.assoc a).state = .retired then refuseInstall .refusedState s
  else
    match findSlot (s.slots a) (fun k => k.role == .pending && k.epoch == i.epoch) with
    | some j =>
      if i.unwrapOk then
        { state := (discardKey { assoc := a, index := j } s).setSlot { assoc := a, index := j } (i.slotFor a .pending),
          result := .done, role := .pending }
      else refuseInstall .refusedWrap s
    | none =>
      if 2 ≤ countSlots (s.slots a) (fun k => k.role == .pending) then refuseInstall .refusedNoSlot s
      else if i.unwrapOk then { state := writeEmptySlot a .pending i s, result := .done, role := .pending }
      else refuseInstall .refusedWrap s

/-- An install accepted as CURRENT from KEY-WAIT (R58 test 2, R60). -/
def installCurrent (a : Fin 64) (i : Install) (s : State) : State :=
  s |> writeEmptySlot a .current i |> (·.modAssoc a (fun r => { r with state := .live }))
    |> postKeyPlaced a i.epoch .current |> postMark a .noKey

/-- An install accepted as STANDBY: into the slot of a STANDBY already present, first wiped with notice KEY-DISCARDED,
otherwise into an EMPTY slot; a HELD advance becomes QUEUED (R58 test 3, R60). -/
def installStandby (a : Fin 64) (i : Install) (s : State) : State :=
  (match slotWithRole (s.slots a) .standby with
    | some j =>
      (discardKey { assoc := a, index := j } s).setSlot { assoc := a, index := j } (i.slotFor a .standby)
    | none => writeEmptySlot a .standby i s)
    |> postKeyPlaced a i.epoch .standby |> queueHeldAdvance a

/-- An install after settle to an association in an epoch or RETIRED, by the tests of R58 in their order. -/
def installRunning (a : Fin 64) (i : Install) (s : State) : InstallOutcome :=
  let e := (s.assoc a).epochOrZero
  if (s.assoc a).state = .retired then refuseInstall .refusedState s
  else if i.epoch = e ∧ (s.assoc a).state = .keyWait then
    if i.unwrapOk then { state := installCurrent a i s, result := .done, role := .current }
    else refuseInstall .refusedWrap s
  else if i.epoch = e + 1 then
    if i.unwrapOk then { state := installStandby a i s, result := .done, role := .standby }
    else refuseInstall .refusedWrap s
  else if i.epoch ≤ e then refuseInstall .refusedStaleEpoch s
  else refuseInstall .refusedTooFar s

/-- An install after settle to a DORMANT association (R59). -/
def installDormant (a : Fin 64) (i : Install) (s : State) : InstallOutcome :=
  let eStar := match (s.assoc a).settleView with | some v => v.epoch | none => 0
  if 0 < eStar ∧ i.epoch < eStar then refuseInstall .refusedStaleEpoch s
  else if 0 < eStar ∧ eStar + 1 < i.epoch then refuseInstall .refusedTooFar s
  else if i.unwrapOk then
    { state := place a (writeEmptySlot a .pending i s), result := .done,
      role := if 0 < eStar ∧ i.epoch = eStar + 1 then .standby else .current }
  else refuseInstall .refusedWrap s

/-- The epoch controller decides an install (R163): R57 while the device is SETTLING, R58 or R59 after settle. -/
def decideInstall (a : Fin 64) (i : Install) (s : State) : InstallOutcome :=
  if s.device = .settling then installSettling a i s
  else if (s.assoc a).state.listening then installDormant a i s
  else installRunning a i s

end Sys2Proof.Machine
end

