-- ==== Sys2Proof/Machine/CounterUnit.lean ====
section
/-! DEFINITION. The counter unit: serving a dispatch request, own and peer claims, beacons, and the loss of a key
(R8 to R24). -/

namespace Sys2Proof.Machine

/-! ## A dispatch request (R8 to R13) -/

/-- The ladder level one lower, or still 0 (R9, R12). -/
def levelDown (k : Fin 4) : Fin 4 := if k = 0 then 0 else k - 1

/-- The ladder level one higher, at most 3 (R12). -/
def levelUp (k : Fin 4) : Fin 4 := if k = 3 then 3 else k + 1

/-- The stale active range is discarded whole with the trap STALE-DISCARD, k is lowered and the queued range promoted
(R9). -/
def discardStale (a : Fin 64) (s : State) : State :=
  match (s.assoc a).active with
  | some r =>
    (s |> bump a .discardStale r.left |> report .staleDiscard (some a) r.left 1).modAssoc a
      (fun x => { x with level := levelDown x.level })
      |> promote a
  | none => s

/-- The range walk, at most `n` discards; a reservation has at most two ranges (R9). -/
def rangeWalk : Nat → Fin 64 → State → State
  | 0, _, s => s
  | n + 1, a, s => if s.staleActive a then rangeWalk n a (discardStale a s) else s

/-- The ladder test of a range used up by assignment: a < s_k/2 exactly, and k < 3 (R12). -/
def ladderTest (a : Fin 64) (s : State) : State :=
  if 2 * (s.assoc a).acc < s.claimSize a then s.modAssoc a (fun r => { r with level := levelUp r.level }) else s

/-- The frame takes the next counter of the active range; a range used up makes the ladder test and promotes (R11). -/
def takeCounter (a : Fin 64) (s : State) : State :=
  match (s.assoc a).active with
  | some r =>
    let s1 := s.modAssoc a (fun x => { x with assigned := r.next, active := some { r with next := r.next + 1 } })
    if r.stop < r.next + 1 then promote a (ladderTest a s1) else s1
  | none => s

/-- The prefetch test after an assignment (R13). -/
def prefetchTest (a : Fin 64) (s : State) : State :=
  if (s.assoc a).reservationCount ≤ s.claimSize a / 4 ∧ (s.assoc a).queued = none ∧ (s.assoc a).pendingClaim = false
  then requestClaim a s else s

/-! ## Delivered messages on the record -/

/-- h becomes the larger of its value and a message's end or HWM (R4). -/
def raiseFront (a : Fin 64) (v : Nat) (s : State) : State :=
  s.modAssoc a (fun r => { r with hwm := some (max r.front v) })

/-- A won range becomes the queued range (R5). -/
def queueRange (a : Fin 64) (p q : Nat) (s : State) : State :=
  s.modAssoc a (fun r => { r with queued := some { start := p, stop := q } })

/-- A won range joins the reservation at its tail (R5). R5 holds that it always finds a place, but an R21 split may have made
a queued range while the claim was pending, and no rule gives three ranges: the won range then becomes the queued range, as
R5 says, and the split's piece is discarded under OVERLAP with its trap (R7). DESIGN CHOICE (log 30). -/
def addRange (a : Fin 64) (p q : Nat) (s : State) : State :=
  match (s.assoc a).active, (s.assoc a).queued with
  | none, _ => activate a p q s
  | some _, none => queueRange a p q s
  | some _, some y => queueRange a p q (s |> bump a .discardOverlap y.size |> report .claimOverlap (some a) y.size 1)

/-- The rekey-point test on an own delivered claim with end q (R18). -/
def rekeyPointTest (a : Fin 64) (q : Nat) (s : State) : State :=
  if s.limit a ≤ q + (s.assocDef a).margin ∧ (s.assoc a).rekeyRequested = false then
    s.modAssoc a (fun r => { r with rekeyRequested := true })
      |> report .rekeyPoint (some a) q 1 |> requestAdvance a .rekey
  else s

/-- This station's own claim is won (R17). -/
def winClaim (a : Fin 64) (p q : Nat) (s : State) : State :=
  s.modAssoc a (fun r => { r with pendingClaim := false })
    |> raiseFront a q |> addRange a p q |> bump a .claimsWon 1 |> rekeyPointTest a q

/-- A CLAIM or BEACON below the current epoch of an association in an epoch changes nothing and is counted (R41). -/
def countLate (a : Fin 64) (epoch : Nat) (s : State) : State :=
  if (s.assoc a).state.inEpoch ∧ epoch < (s.assoc a).epochOrZero then bumpBus .lateMessages s else s

/-- An own CLAIM delivered (R17, R19). `withdrawn`: its pending claim was cancelled while it was on the bus; it then only
raises the front where that is known (log 11). -/
def ownClaim (a : Fin 64) (p q epoch : Nat) (withdrawn : Bool) (s : State) : State :=
  if (s.assoc a).epoch = some epoch ∧ (s.assoc a).state = .live ∧ withdrawn = false then winClaim a p q s
  else if (s.assoc a).epoch = some epoch ∧ (s.assoc a).state.frontKnown then raiseFront a q s
  else countLate a epoch s

/-- The part of [lo, hi] outside [p, q], in ascending order (R21 step 1). -/
def cutRange (p q lo hi : Nat) : List (Nat × Nat) :=
  (if lo < p ∧ lo ≤ hi then [(lo, min hi (p - 1))] else []) ++
    (if q < hi ∧ lo ≤ hi then [(max lo (q + 1), hi)] else [])

/-- The counters in a list of ranges. -/
def rangesCount (l : List (Nat × Nat)) : Nat := (l.map (fun x => x.2 + 1 - x.1)).sum

/-- The pieces of the reservation left outside a peer claim, in ascending order (R21 steps 1 and 2). -/
def Assoc.piecesOutside (r : Assoc) (p q : Nat) : List (Nat × Nat) :=
  (match r.active with | some x => cutRange p q x.next x.stop | none => []) ++
    (match r.queued with | some x => cutRange p q x.start x.stop | none => [])

/-- The first piece becomes the active range: kept with its x and a when it is the lower part of the former active range,
otherwise active by promotion (R21 step 3). -/
def keepFirstPiece (a : Fin 64) (piece : Nat × Nat) (s : State) : State :=
  match (s.assoc a).active with
  | some x =>
    if x.next = piece.1 then s.modAssoc a (fun r => { r with active := some { x with stop := piece.2 } })
    else activate a piece.1 piece.2 s
  | none => activate a piece.1 piece.2 s

/-- The overlap removal of a delivered peer claim (R21). -/
def overlapRemoval (a : Fin 64) (p q : Nat) (s : State) : State :=
  let before := (s.assoc a).reservationCount
  let pieces := (s.assoc a).piecesOutside p q
  let discarded := before - rangesCount (pieces.take 2)
  if rangesCount pieces = before then s
  else
    (match pieces with
      | [] => s.modAssoc a (fun r => { r with active := none, queued := none })
      | [x] => keepFirstPiece a x (s.modAssoc a (fun r => { r with queued := none }))
      | x :: y :: _ =>
        keepFirstPiece a x (s.modAssoc a (fun r => { r with queued := some { start := y.1, stop := y.2 } })))
      |> bump a .discardOverlap discarded |> report .claimOverlap (some a) discarded 1

/-- The overlap advance test of a delivered peer claim: u ≥ p requests an advance with reason OVERLAP (R22). -/
def overlapAdvanceTest (a : Fin 64) (p : Nat) (s : State) : State :=
  if p ≤ (s.assoc a).assigned then requestAdvance a .overlap s else s

/-- The accumulator grows by a peer claim's count, saturating (R1, R20). -/
def accumulate (a : Fin 64) (c : Nat) (s : State) : State :=
  s.modAssoc a (fun r => { r with acc := satAdd48 r.acc c })

/-- A peer's CLAIM of the record's current epoch (R20). -/
def peerClaimInEpoch (a : Fin 64) (p q : Nat) (s : State) : State :=
  match (s.assoc a).state with
  | .live =>
    s |> raiseFront a q |> accumulate a (q + 1 - p) |> overlapRemoval a p q |> overlapAdvanceTest a p
  | .keyWait => s |> raiseFront a q |> accumulate a (q + 1 - p) |> overlapAdvanceTest a p
  | _ => s

/-- A delivered message goes into the settle view (R45). -/
def recordSettleView (a : Fin 64) (epoch v : Nat) (s : State) : State :=
  s.modAssoc a (fun r =>
    { r with settleView :=
        match r.settleView with
        | none => some { epoch := epoch, hwm := v }
        | some w =>
          if w.epoch < epoch then some { epoch := epoch, hwm := v }
          else if epoch = w.epoch then some { w with hwm := max w.hwm v }
          else some w })

/-- A peer's CLAIM [p, q] of an epoch, delivered, by the association's state (R20). -/
def peerClaim (a : Fin 64) (p q epoch : Nat) (sender : BitVec 3) (s : State) : State :=
  if (s.assoc a).state.listening then recordSettleView a epoch q s
  else
    let s1 := advanceReaches a epoch .implicit sender.toNat s
    if (s1.assoc a).epoch = some epoch then peerClaimInEpoch a p q s1 else countLate a epoch s1

/-- A BEACON delivered, own or a peer's (R23, R42). -/
def beaconDelivered (a : Fin 64) (epoch hwm : Nat) (sender : BitVec 3) (s : State) : State :=
  if (s.assoc a).state.listening then recordSettleView a epoch hwm s
  else
    let s1 := advanceReaches a epoch .implicit sender.toNat s
    if (s1.assoc a).epoch = some epoch then
      if (s1.assoc a).state.frontKnown then raiseFront a hwm s1 else s1
    else countLate a epoch s1

/-- An ADVANCE delivered (R64, R45). -/
def advanceDelivered (a : Fin 64) (epoch : Nat) (reason : AdvanceReason) (sender : BitVec 3) (s : State) : State :=
  if (s.assoc a).state.listening then recordSettleView a epoch 0 s
  else advanceReaches a epoch reason sender.toNat s

/-! ## Key loss (R24) -/

/-- A LIVE association loses its CURRENT key in the same epoch (R24, R71). -/
def loseCurrentKey (a : Fin 64) (s : State) : State :=
  (s |> discardReservation a .discardKeyLoss |> cancelClaim a).modAssoc a (fun r => { r with state := .keyWait })
    |> postKeyWanted a (s.assoc a).epochOrZero

end Sys2Proof.Machine
end

