-- ==== Sys2Proof/Machine/BusController.lean ====
section
/-! DEFINITION. The bus controller: attempts, arbitration, delivery, the error count and the quiet state, and the four
kinds of message (chapter 2). -/

namespace Sys2Proof.Machine

/-! ## An attempt (R34, R35) -/

/-- The message of an attempt is on the bus, and any back-off wait owed is spent (R34, R35). -/
def beginMessage (m : BusMessage) (s : State) : State :=
  { s with bus := { s.bus with onBus := some { message := m, withdrawn := false }, backoff := 0, idleSeen := true } }

/-- A message of this station: its station number stands in the sender field (R28). -/
def State.message (s : State) (a : Fin 64) (content : MsgContent) : BusMessage :=
  { assoc := BitVec.ofFin a, sender := s.station, content := content }

/-- The CLAIM of a record, computed at this moment (R15, R16). -/
def State.claimContent (s : State) (a : Fin 64) : MsgContent :=
  .claim (BitVec.ofNat 16 (s.assoc a).epochOrZero) (BitVec.ofNat 48 ((s.assoc a).front + 1))
    (BitVec.ofNat 24 (s.claimCount a))

/-- The ADVANCE of a pending advance (R35). -/
def PendingAdvance.content (p : PendingAdvance) : MsgContent :=
  .advance (BitVec.ofNat 16 p.target) (BitVec.ofNat 3 p.reason.code)

/-- The lowest-ranked entry is tried; an entry that the content test removes gives way to the entry then lowest (R35,
R16). When every entry is removed no message is sent, and a back-off wait owed is kept: no rule says whether an attempt
that sends nothing spends it (R34, log 32). `fuel` is above the number of entries the list can hold. -/
def attempt : Nat → State → State
  | 0, s => s
  | fuel + 1, s =>
    match s.bus.txList with
    | [] => s
    | e :: _ =>
      match e.kind with
      | .advance =>
        match (s.assoc e.assoc).pendingAdvance with
        | some p => beginMessage (s.message e.assoc p.content) s
        | none => attempt fuel (removeTx .advance e.assoc s)
      | .claim =>
        if s.exhausted e.assoc then
          attempt fuel (requestAdvance e.assoc .exhausted (cancelClaim e.assoc s))
        else beginMessage (s.message e.assoc (s.claimContent e.assoc)) s
      | .beacon =>
        if (s.assoc e.assoc).state.frontKnown then
          beginMessage (s.message e.assoc (.beacon (BitVec.ofNat 16 (s.assoc e.assoc).epochOrZero)
            (BitVec.ofNat 48 (s.assoc e.assoc).front))) s
        else attempt fuel (removeTx .beacon e.assoc s)
      | .join => beginMessage (s.message 0 .join) s

/-- The conditions of an attempt: the station is active, no own message is on the bus, the list is not empty, and the
lines have been high for 16 bit times and any back-off wait owed (R26, R27, R34, R35). -/
def State.mayAttempt (s : State) (idleBits : Nat) : Bool :=
  s.device.working && !s.bus.quiet && s.bus.onBus.isNone && !s.bus.txList.isEmpty &&
    decide (16 + s.bus.backoff ≤ idleBits)

/-- BUS_ATTEMPT_START (R35). -/
def execBusAttemptStart (idleBits : Nat) (s : State) : Host.Outcome State Fault Refusal :=
  .next (if s.mayAttempt idleBits then finishEvent s (attempt 194 s) else s)

/-! ## This station's part in a message that completes (R29, R30) -/

/-- This station's part in a message. -/
inductive BusPart where
  | receiver | lostArbitration | ownBitError | sender
  deriving DecidableEq, Repr

/-- Bits sent against bits sampled: the first that differs decides. A recessive bit sent and a dominant one sampled is
lost arbitration inside the arbitration field; anything else that differs is an own bit error (R29, R30). `left` is how
many bits are left up to the end of the arbitration field. -/
def compareBits : Nat → List Bool → List Bool → BusPart
  | left, sent :: sents, sampled :: samples =>
    if sent = sampled then compareBits (left - 1) sents samples
    else if sent = true ∧ 0 < left then .lostArbitration
    else .ownBitError
  | _, [], [] => .sender
  | _, _, _ => .ownBitError

/-- The part of this station in a message sampled with its start bit and its CRC: a sender's bits, from the dominant start
bit on, are compared with those it sent (R29, R30, R203). -/
def busPart (own : Option OwnMessage) (m : BusMessage) (startRead : Bool) (crc : BitVec 16) : BusPart :=
  match own with
  | none => .receiver
  | some o =>
    compareBits 12 (false :: (o.message.arbitration ++ o.message.content.bits ++ msbBits o.message.crc))
      (startRead :: (m.arbitration ++ m.content.bits ++ msbBits crc))

/-- The outcome of a message (R32). -/
inductive BusOutcome where
  | delivered | voidByError | voidNoAck
  deriving DecidableEq, Repr

/-- The decision of R32 from the slot levels, the kind and the single-station flag; `true` is dominant. -/
def decideOutcome (err ack : Bool) (kind : MsgKind) (singleStation : Bool) : BusOutcome :=
  if err then .voidByError
  else if ack then .delivered
  else if kind = .claim ∧ singleStation = false then .voidNoAck
  else .delivered

/-- Whether this station drives the ack slot and the error slot (R30, R31): `(ack, error)`. -/
def slotsDriven (part : BusPart) (quiet crcOk : Bool) : Bool × Bool :=
  match part with
  | .sender => (false, false)
  | .ownBitError => (false, true)
  | _ => if quiet then (false, false) else (crcOk, !crcOk)

/-! ## Error count and quiet state (R38, R39) -/

/-- The station goes quiet at 128 or more and leaves the quiet state below 96, with the notices (R39). -/
def quietTest (s : State) : State :=
  if s.bus.quiet = false ∧ 128 ≤ s.bus.errorCount then
    postNotice (newNotice .busQuiet .none 255 0 s.bus.errorCount 1 true) { s with bus := { s.bus with quiet := true } }
  else if s.bus.quiet = true ∧ s.bus.errorCount < 96 then
    postNotice (newNotice .busResumed .none 255 0 s.bus.errorCount 1 false)
      { s with bus := { s.bus with quiet := false } }
  else s

/-- The bus error count takes a new value, and the quiet test is made (R38, R39). -/
def setErrorCount (n : Nat) (s : State) : State :=
  quietTest { s with bus := { s.bus with errorCount := n } }

/-- A message delivered: the error count falls by one, not below 0 (R38). -/
def errorDown (s : State) : State := setErrorCount (s.bus.errorCount - 1) s

/-- The error count rises, at most to 255 (R38). -/
def errorUp (n : Nat) (s : State) : State := setErrorCount (min (s.bus.errorCount + n) 255) s

/-- A sender whose message was void owes (station number + 1) × 16 bit times (R34). -/
def oweBackoff (s : State) : State :=
  { s with bus := { s.bus with backoff := (s.station.toNat + 1) * 16 } }

/-- The own message has left the bus. -/
def clearOnBus (s : State) : State := { s with bus := { s.bus with onBus := none } }

/-- An own message void by the error slot or by an own bit error (R33, R38, R48). -/
def ownVoid (s : State) : State := s |> clearOnBus |> oweBackoff |> bumpBus .busVoids |> errorUp 8

/-- An own CLAIM void for want of an ack; the rise from 7 to 8 reports ISOLATED (R33, R40). -/
def ownNoAck (a : Fin 64) (epoch : Nat) (s : State) : State :=
  let n := s.bus.noAck
  let s1 := s |> clearOnBus |> oweBackoff |> bumpBus .noAcks
  let s2 := { s1 with bus := { s1.bus with noAck := min (n + 1) 8 } }
  if n = 7 then postNotice (newNotice .isolated .none a.val epoch 8 1 true) s2 else s2

/-! ## Applying a delivered message (R37, R41, R205) -/

/-- The field values of a message lie within their ranges, so that it is handed on (R205). -/
def MsgContent.valid : MsgContent → Bool
  | .advance epoch _ => epoch != 0
  | .claim epoch start count =>
    epoch != 0 && start != 0 && count != 0 && decide (count.toNat ≤ 8388608) &&
      decide (start.toNat + count.toNat - 1 ≤ max48)
  | .beacon epoch _ => epoch != 0
  | .join => true

/-- The epoch a message brings. -/
def MsgContent.epoch : MsgContent → Nat
  | .advance epoch _ => epoch.toNat
  | .claim epoch _ _ => epoch.toNat
  | .beacon epoch _ => epoch.toNat
  | .join => 0

/-- The entries a delivered message cancels, whatever the device state (R37). R37 compares a peer's BEACON with the HWM view
of this station; for an association since RETIRED, whose epoch is kept and whose h is unknown, the view reads as 0, so the
entry leaves. DESIGN CHOICE (log 31). -/
def cancelByMessage (own : Bool) (m : BusMessage) (s : State) : State :=
  match m.content with
  | .advance epoch _ =>
    match (s.assoc m.target).pendingAdvance with
    | some p => if p.target ≤ epoch.toNat then removeTx .advance m.target s else s
    | none => s
  | .beacon epoch hwm =>
    if own = false ∧ (s.assoc m.target).epoch = some epoch.toNat ∧ (s.assoc m.target).front ≤ hwm.toNat then
      removeTx .beacon m.target s
    else s
  | .claim _ _ _ => s
  | .join => if own = false then removeTx .join 0 s else s

/-- A peer's JOIN delivered while RUNNING requests a BEACON for every LIVE or KEY-WAIT association (R43). -/
def scheduleBeacons (s : State) : State :=
  (List.finRange 64).foldl (fun s a => if (s.assoc a).state.frontKnown then requestTx .beacon a s else s) s

/-- A delivered message is handed to the blocks that act on it (R41, R42, R43). -/
def handMessage (own withdrawn : Bool) (m : BusMessage) (s : State) : State :=
  match m.content with
  | .join => if own = false ∧ s.device = .running then scheduleBeacons s else s
  | .advance epoch reason =>
    if (s.assocDef m.target).defined ∧ m.content.valid then
      advanceDelivered m.target epoch.toNat (AdvanceReason.ofBusCode reason) m.sender s
    else s
  | .beacon epoch hwm =>
    if (s.assocDef m.target).defined ∧ m.content.valid then
      beaconDelivered m.target epoch.toNat hwm.toNat m.sender s
    else s
  | .claim epoch start count =>
    if (s.assocDef m.target).defined ∧ m.content.valid then
      if own then ownClaim m.target start.toNat (start.toNat + count.toNat - 1) epoch.toNat withdrawn s
      else peerClaim m.target start.toNat (start.toNat + count.toNat - 1) epoch.toNat m.sender s
    else s

/-- A delivered message cancels entries and is handed on (R37, R41). -/
def applyMessage (own withdrawn : Bool) (m : BusMessage) (s : State) : State :=
  handMessage own withdrawn m (cancelByMessage own m s)

/-! ## The end of a message -/

/-- The own message was delivered: its entry leaves, unless it was withdrawn and a new entry may stand in its place
(R33, R37), the error count falls, a CLAIM clears the no-ack count, and the station applies it (R33, R40, R41). -/
def ownDelivered (o : OwnMessage) (s : State) : State :=
  let m := o.message
  let s1 := clearOnBus s
  let s2 := if o.withdrawn then s1 else removeTx m.content.kind m.target s1
  let s3 := if m.content.kind = .claim then { s2 with bus := { s2.bus with noAck := 0 } } else s2
  applyMessage true o.withdrawn m (errorDown s3)

/-- This station sent the message that completed (R33). -/
def asSender (o : OwnMessage) (outcome : BusOutcome) (s : State) : State :=
  match outcome with
  | .delivered => ownDelivered o s
  | .voidByError => ownVoid s
  | .voidNoAck => ownNoAck o.message.target o.message.content.epoch s

/-- This station received the message (R31, R32, R38, R48): a wrong CRC raises the error count, a message used lowers it
and is applied, and one void by the error slot is counted. -/
def asReceiver (m : BusMessage) (crcOk : Bool) (outcome : BusOutcome) (s : State) : State :=
  let s1 := if outcome = .voidByError then bumpBus .busVoids s else s
  if crcOk = false then errorUp 1 s1
  else if outcome = .delivered then applyMessage false false m (errorDown s1)
  else s1

/-- A station that is not quiet spends a back-off wait it owes at the start bit of another station's message (R34,
log 10). -/
def spendBackoff (s : State) : State :=
  if s.bus.quiet then s else { s with bus := { s.bus with backoff := 0 } }

/-- An own attempt lost arbitration: the entry stays, and a lost CLAIM is counted (R29, R33). -/
def loseArbitration (o : OwnMessage) (s : State) : State :=
  let s1 := clearOnBus s
  if o.message.content.kind = .claim then bump o.message.target .claimsLost 1 s1 else s1

/-- A message completes at this station (R29 to R34). -/
def messageCompletes (m : BusMessage) (e : BusEnding) (s : State) : State :=
  let crcOk := e.crc == m.crc
  let part := busPart s.bus.onBus m e.startRead e.crc
  let driven := slotsDriven part s.bus.quiet crcOk
  let outcome := decideOutcome (e.peersErr || driven.2) (e.peersAck || driven.1) m.content.kind s.cfg.singleStation
  let s0 := { s with bus := { s.bus with idleSeen := true } }
  match s.bus.onBus, part with
  | some o, .sender => asSender o outcome s0
  | some _, .ownBitError => ownVoid s0
  | some o, _ => asReceiver m crcOk outcome (loseArbitration o s0)
  | none, _ => asReceiver m crcOk outcome (spendBackoff s0)

/-- The station takes part in a message: it is SETTLING or RUNNING, and it had seen the bus idle since it began to listen
(R26, R27). -/
def State.takesPart (s : State) (e : BusEnding) : Bool :=
  s.device.working && (s.bus.idleSeen || e.afterIdle)

/-- The end of a bus message at this station. -/
def busMessage (m : BusMessage) (e : BusEnding) (s : State) : State :=
  if s.takesPart e then finishEvent s (messageCompletes m e s) else s

/-- CLAIM (R20). -/
def execClaim (assoc : BitVec 6) (sender : BitVec 3) (epoch : BitVec 16) (start : BitVec 48) (count : BitVec 24)
    (e : BusEnding) (s : State) : Host.Outcome State Fault Refusal :=
  .next (busMessage { assoc := assoc, sender := sender, content := .claim epoch start count } e s)

/-- BEACON (R23). -/
def execBeacon (assoc : BitVec 6) (sender : BitVec 3) (epoch : BitVec 16) (hwm : BitVec 48) (e : BusEnding)
    (s : State) : Host.Outcome State Fault Refusal :=
  .next (busMessage { assoc := assoc, sender := sender, content := .beacon epoch hwm } e s)

/-- ADVANCE (R64). -/
def execAdvance (assoc : BitVec 6) (sender : BitVec 3) (epoch : BitVec 16) (reason : BitVec 3) (e : BusEnding)
    (s : State) : Host.Outcome State Fault Refusal :=
  .next (busMessage { assoc := assoc, sender := sender, content := .advance epoch reason } e s)

/-- JOIN (R43). -/
def execJoin (assoc : BitVec 6) (sender : BitVec 3) (e : BusEnding) (s : State) : Host.Outcome State Fault Refusal :=
  .next (busMessage { assoc := assoc, sender := sender, content := .join } e s)

end Sys2Proof.Machine
end

