-- ==== Sys2Proof/Machine/CipherLanes.lean ====
section
/-! DEFINITION. Cipher lanes, key take-up, the finish of a frame, and the campus transmitter's end of a frame
(chapter 7). -/

namespace Sys2Proof.Machine

/-! ## Key take-up (R134, R71) -/

/-- The check value recomputed from what the slot holds equals the stored one (R52, R134). -/
def KeySlot.checkHolds (k : KeySlot) (a : Fin 64) : Bool := k.check == slotCheckValue a.val k.epoch k.limit k.key

/-- The slot with the bits that changed since it was written (log 19). -/
def KeySlot.upset (k : KeySlot) (u : SlotUpset) : KeySlot :=
  { k with key := k.key ^^^ u.material, check := k.check ^^^ u.check }

/-- The frame of one lane is aborted with class KEY-CHECK (R134, R137). -/
def abortLane (a : Fin 64) (s : State) (l : Fin 4) : State :=
  removeLaneFrame l (bumpDrop a .keyCheck 1 s)

/-- The association's part in a key check failure: a LIVE one whose CURRENT slot failed becomes KEY-WAIT; any other keeps
its state (R71). -/
def failedKeyState (a : Fin 64) (role : Role) (s : State) : State :=
  if role = .current ∧ (s.assoc a).state = .live then loseCurrentKey a s else s

/-- A key check failure: the slot is wiped, every lane frame that names it is aborted, and one EXCEPTION notice gives
the failed slot's epoch and the number of frames aborted (R71, R134, log 13). -/
def keyCheckFailure (r : SlotRef) (s : State) : State :=
  let k := s.slot r
  let failed := s.lanesOfSlot r
  let s1 := failedKeyState r.assoc k.role (wipeSlot r s)
  report .keyCheck (some r.assoc) k.epoch failed.length (failed.foldl (abortLane r.assoc) s1)

/-- KEY_TAKE_UP (R134). -/
def execKeyTakeUp (l : Fin 4) (u : SlotUpset) (s : State) : Host.Outcome State Fault Refusal :=
  .next (match s.lane l with
    | .keying h r =>
      let k := (s.slot r).upset u
      let s1 := s.setSlot r k
      finishEvent s (if k.checkHolds r.assoc then s1.setLane l (.enciphering h r k.key) else keyCheckFailure r s1)
    | _ => s)

/-! ## The finish of a frame (R135, R136) -/

/-- The completion entry of a frame becomes FINISHED with its tag (R135, R142). -/
def finishEntry (h : Nat) (tag : List Byte) (s : State) : State :=
  { s with lanes := { s.lanes with
      completion := s.lanes.completion.map (fun e => if e.frame = h then { e with finished := true, tag := tag } else e) } }

/-- The envelope header of a frame, from its completion entry (R133). -/
def State.headerOf (s : State) (h : Nat) : List Byte :=
  match s.lanes.completion.find? (fun e => e.frame == h) with
  | some e => e.header
  | none => []

/-- The nonce of a frame: its association, epoch and counter (R140). -/
def Descriptor.nonce (d : Descriptor) : List Byte :=
  match d.assigned with
  | some x => frameNonce x.slot.assoc.val x.epoch x.counter
  | none => []

/-- The ciphertext of bytes 12 to L − 1 (R140). -/
def Descriptor.cipherText (d : Descriptor) (key : BitVec 256) : List Byte := gcmCrypt key d.nonce (d.data.drop 12)

/-- The tag over the 24 bytes of addresses and header and the ciphertext (R140). -/
def Descriptor.cipherTag (d : Descriptor) (key : BitVec 256) (header : List Byte) : List Byte :=
  gcmTag key d.nonce (d.data.take 12 ++ header) (d.cipherText key)

/-- The ciphertext is written back over bytes 12 to L − 1 of the frame's cells (R135). -/
def writeCipherText (h : Nat) (d : Descriptor) (key : BitVec 256) (s : State) : State :=
  { s with buf := { s.buf with
      pool := tablePut s.buf.pool h { d with data := d.data.take 12 ++ d.cipherText key } } }

/-- The key slot's use count goes down by one, and a RETIRING slot that reaches 0 is wiped (R53, R135). -/
def releaseUse (r : SlotRef) (s : State) : State :=
  let s1 := loseUse r s
  if (s1.slot r).role = .retiring ∧ (s1.slot r).uses = 0 then wipeSlot r s1 else s1

/-- A lane finishes an ENCRYPT frame (R135). -/
def finishEncrypt (l : Fin 4) (h : Nat) (r : SlotRef) (key : BitVec 256) (s : State) : State :=
  (match s.frame? h with
    | some d => finishEntry h (d.cipherTag key (s.headerOf h)) (writeCipherText h d key s)
    | none => s)
    |> releaseUse r |> (·.setLane l .idle)

/-- LANE_FINISH (R135). -/
def execLaneFinish (l : Fin 4) (s : State) : Host.Outcome State Fault Refusal :=
  .next (match s.lane l with
    | .enciphering h r key => finishEvent s (finishEncrypt l h r key s)
    | _ => s)

/-- CLEAR_PASS_DONE (R136). -/
def execClearPassDone (l : Fin 4) (s : State) : Host.Outcome State Fault Refusal :=
  .next (match s.lane l with
    | .passing h => finishEvent s ((finishEntry h [] s).setLane l .idle)
    | _ => s)

/-! ## The end of a frame on the campus port (R143) -/

/-- The counts of a frame sent: frames and octets encrypted, or clear frames sent (R143, R152). -/
def countSent (e : CompletionEntry) (length : Nat) (s : State) : State :=
  match e.action with
  | .encrypt a => s |> bump a .framesEncrypted 1 |> bump a .octetsEncrypted (length - 12)
  | .clear => bumpFrames .clearSent s

/-- The length L of a stored frame. -/
def State.lengthOf (s : State) (h : Nat) : Nat := match s.frame? h with | some d => d.length | none => 0

/-- The head leaves the completion list, its frame is released, its queue loses a frame in flight, the counts grow and
the transmitter becomes IDLE (R143). -/
def headSent (e : CompletionEntry) (rest : List CompletionEntry) (s : State) : State :=
  let length := s.lengthOf e.frame
  { s with lanes := { s.lanes with completion := rest }, campus := { s.campus with sending := none } }
    |> releaseFrame e.frame |> loseInFlight e.queue |> countSent e length

/-- CAMPUS_FRAME_SENT (R143). -/
def execCampusFrameSent (s : State) : Host.Outcome State Fault Refusal :=
  .next (match s.campus.sending, s.lanes.completion with
    | some _, e :: rest => finishEvent s (headSent e rest s)
    | _, _ => s)

end Sys2Proof.Machine
end

