-- ==== Sys2Proof/Machine/Dispatcher.lean ====
section
/-! DEFINITION. The dispatcher: candidates, the dispatch checks, parking, the park timeout, and the removal of an
association's frames (chapter 6). -/

namespace Sys2Proof.Machine

/-! ## Candidates (R108, R109) -/

/-- A candidate for dispatch. -/
inductive Candidate where
  | parked (e : ParkEntry)
  | queued (q : Fin 8) (h : Nat) (rest : List Nat)
  deriving DecidableEq, Repr

/-- The head of a queue that is ACTIVE and not empty. -/
def State.queueHead? (s : State) (q : Fin 8) : Option Candidate :=
  match s.disp.queueState[q], s.buf.queues[q] with
  | .active, h :: rest => some (.queued q h rest)
  | _, _ => none

/-- The first candidate: the oldest released entry whose queue is ACTIVE, else the head of the highest-numbered queue
(R109). -/
def State.candidate? (s : State) : Option Candidate :=
  match s.disp.park.find? (fun e => e.released && s.disp.queueState[e.queue] == .active) with
  | some e => some (.parked e)
  | none => (List.finRange 8).reverse.findSome? s.queueHead?

/-- The conditions of a dispatch beside a candidate (R108). -/
def State.mayDispatch (s : State) : Bool :=
  s.device.working && s.idleLane?.isSome && decide (s.lanes.completion.length < 16)

/-! ## The checks (R111, stages 1 to 9) -/

/-- The outcome of the checks. -/
inductive Verdict where
  | passClear
  | assign (a : Fin 64)
  | abort (c : ExcClass)
  | fault (c : ExcClass)
  deriving DecidableEq, Repr

/-- Stages 7 to 9 of a LIVE association: the range walk, then the empty-reservation answer with its request, or a counter
(R10, R115). -/
def serveCounter (a : Fin 64) (s : State) : State × Verdict :=
  let s1 := rangeWalk 2 a s
  if (s1.assoc a).active.isSome then (s1, .assign a)
  else if s1.exhausted a then (requestAdvance a .exhausted s1, .fault .exhausted)
  else (requestClaim a s1, .fault .starved)

/-- Stages 1 to 9 (R111, R113, R114). -/
def checkFrame (d : Descriptor) (s : State) : State × Verdict :=
  match d.action with
  | .clear => (s, if s.cfg.cMax < d.length then .abort .oversize else .passClear)
  | .encrypt a =>
    if (s.assoc a).state = .retired then (s, .abort .retired)
    else if s.cfg.cMax < d.length + 28 then (s, .abort .oversize)
    else
      match (s.assoc a).state with
      | .settling => (s, .fault .settling)
      | .dormant => (s, .fault .noKey)
      | .keyWait => (s, .fault .noKey)
      | .blind => (s, .fault .blind)
      | .retired => (s, .abort .retired)
      | .live => serveCounter a s

/-! ## Outcomes -/

/-- A frame is dropped with a class: counted for its association, or as a clear frame dropped as OVERSIZE, reported, and
released (R113, R118, R119). -/
def dropFrame (h : Nat) (d : Descriptor) (c : ExcClass) (value : Nat) (s : State) : State :=
  match d.action with
  | .encrypt a => s |> bumpDrop a c 1 |> report c (some a) value 1 |> releaseFrame h
  | .clear => s |> bumpFrames .clearOversize |> report c none value 1 |> releaseFrame h

/-- The completion entry of a hand-off, with the envelope header of an ENCRYPT frame (R133, R142). -/
def completionEntry (s : State) (h : Nat) (d : Descriptor) (x : Option Assigned) : CompletionEntry :=
  { frame := h, action := d.action, queue := d.queue, finished := false,
    header := match d.action, x with
      | .encrypt a, some y => envelopeHeader s.cfg s.station a y.epoch y.counter
      | _, _ => [],
    tag := [],
    outLength := match d.action with | .encrypt _ => d.length + 28 | .clear => d.length }

/-- The frame enters an idle lane and its entry joins the completion list; its queue has one more frame in flight (R133,
R146). -/
def handOff (h : Nat) (d : Descriptor) (x : Option Assigned) (s : State) : State :=
  match s.idleLane? with
  | some l =>
    let lane : Lane := match x with | some y => .keying h y.slot | none => .passing h
    let s1 := s.setLane l lane
    { s1 with
      lanes := { s1.lanes with
        completion := s1.lanes.completion ++ [completionEntry s h d x],
        inFlight := s1.lanes.inFlight.set d.queue (s1.lanes.inFlight[d.queue] + 1) },
      buf := { s1.buf with pool := tablePut s1.buf.pool h { d with assigned := x } } }
  | none => s

/-- What the dispatcher records with an ENCRYPT frame: the next counter, the epoch and the CURRENT slot (R115). -/
def State.assignment (s : State) (a : Fin 64) : Assigned :=
  { counter := match (s.assoc a).active with | some r => r.next | none => 0,
    epoch := (s.assoc a).epochOrZero,
    slot := { assoc := a, index := (slotWithRole (s.slots a) .current).getD 0 } }

/-- Stage 9: the counter is taken, the CURRENT slot's use count grows, the frame is handed to a lane, and the prefetch
test is made (R11, R13, R115, log 21). -/
def sendToLane (a : Fin 64) (h : Nat) (d : Descriptor) (s : State) : State :=
  let x := s.assignment a
  let s1 := takeCounter a s
  let s2 := s1.setSlot x.slot { s1.slot x.slot with uses := (s1.slot x.slot).uses + 1 }
  prefetchTest a (handOff h d (some x) s2)

/-! ## Parking (R112, R122 to R124, R126) -/

/-- An entry of the frame's association and queue, when one stands on the park list (R112, R122). -/
def State.parkGroup? (s : State) (d : Descriptor) : Option ParkEntry :=
  match d.action with
  | .encrypt a => s.disp.park.find? (fun e => e.assoc == a && e.queue == d.queue)
  | .clear => none

/-- A frame taken from a queue joins the park list at its tail with a class and a released flag, or is dropped as DOUBLE
for want of an entry or of park cap room (R112, R123, R124). -/
def parkFrame (a : Fin 64) (h : Nat) (d : Descriptor) (c : ExcClass) (released : Bool) (s : State) : State :=
  if 64 ≤ s.disp.park.length ∨ s.cfg.parkCap < s.disp.parkedCells + d.cells then
    dropFrame h d .double s.disp.parkedCells s
  else
    let e : ParkEntry :=
      { frame := h, assoc := a, queue := d.queue, cls := c, released := released, parkTime := s.time, reclassify := 0 }
    let s1 := { s with disp := { s.disp with
      park := s.disp.park ++ [e], parkedCells := s.disp.parkedCells + d.cells } }
    s1 |> bump a .parks 1 |> report c (some a) s1.disp.park.length 1

/-- An entry leaves the park list (R122). -/
def unpark (h : Nat) (cells : Nat) (s : State) : State :=
  { s with disp := { s.disp with
      park := s.disp.park.filter (fun e => e.frame != h), parkedCells := s.disp.parkedCells - cells } }

/-- A re-park sets the class and clears the released flag of the whole group; the leader's reclassify count grows when
the class differs (R126 outcome 4). -/
def ParkEntry.regroup (leader : ParkEntry) (c : ExcClass) (e : ParkEntry) : ParkEntry :=
  if e.assoc = leader.assoc ∧ e.queue = leader.queue then
    { e with cls := c, released := false,
             reclassify := if e.frame = leader.frame ∧ leader.cls ≠ c then min (e.reclassify + 1) 255 else e.reclassify }
  else e

/-- A released entry that faults again with disposition PARK stays in place; a changed class is reported with the new
reclassify count (R126, R121). -/
def repark (e : ParkEntry) (c : ExcClass) (s : State) : State :=
  let s1 := { s with disp := { s.disp with park := s.disp.park.map (e.regroup c) } }
  if e.cls = c then s1 else report c (some e.assoc) (min (e.reclassify + 1) 255) 1 s1

/-! ## A dispatch -/

/-- The head of a queue is taken: it leaves the queue, and its cells no longer count toward Q (R98, R109). -/
def takeHead (q : Fin 8) (rest : List Nat) (cells : Nat) (s : State) : State :=
  { s with buf := { s.buf with
      queues := s.buf.queues.set q rest, queueCells := s.buf.queueCells.set q (s.buf.queueCells[q] - cells) } }

/-- The outcome of a frame taken from a queue (R111 to R115, R118, R119, R123). -/
def settleQueued (h : Nat) (d : Descriptor) (r : State × Verdict) : State :=
  match r.2 with
  | .passClear => handOff h d none r.1
  | .assign a => sendToLane a h d r.1
  | .abort c => dropFrame h d c d.length r.1
  | .fault c =>
    match r.1.disposition c, d.action with
    | .park, .encrypt a => parkFrame a h d c false r.1
    | _, _ => dropFrame h d c d.length r.1

/-- A dispatch of a queue head: stage 0, then the checks (R111, R112). -/
def dispatchQueued (q : Fin 8) (h : Nat) (rest : List Nat) (s : State) : State :=
  match s.frame? h with
  | none => takeHead q rest 0 s
  | some d =>
    let s1 := takeHead q rest d.cells s
    match s1.parkGroup? d with
    | some e => parkFrame e.assoc h d e.cls e.released s1
    | none => settleQueued h d (checkFrame d s1)

/-- The outcome of a released entry (R126). -/
def settleParked (e : ParkEntry) (d : Descriptor) (r : State × Verdict) : State :=
  match r.2 with
  | .passClear => handOff e.frame d none (unpark e.frame d.cells r.1)
  | .assign a => sendToLane a e.frame d (unpark e.frame d.cells r.1)
  | .abort c => dropFrame e.frame d c d.length (unpark e.frame d.cells r.1)
  | .fault c =>
    match r.1.disposition c with
    | .park => repark e c r.1
    | .drop => dropFrame e.frame d c d.length (unpark e.frame d.cells r.1)

/-- A dispatch of a released entry: from stage 1 (R126). -/
def dispatchParked (e : ParkEntry) (s : State) : State :=
  match s.frame? e.frame with
  | none => unpark e.frame 0 s
  | some d => settleParked e d (checkFrame d s)

/-- One dispatch (R108, R109, R111). -/
def dispatchCandidate (c : Candidate) (s : State) : State :=
  match c with
  | .parked e => dispatchParked e s
  | .queued q h rest => dispatchQueued q h rest s

/-- DISPATCH (R111). -/
def execDispatch (s : State) : Host.Outcome State Fault Refusal :=
  .next (if s.mayDispatch then
    match s.candidate? with
    | some c => finishEvent s (dispatchCandidate c s)
    | none => s
  else s)

/-! ## Park timeout (R127) -/

/-- An entry's age: the time counter minus the park time, modulo 2^32 (R127). -/
def State.parkAge (s : State) (e : ParkEntry) : Nat := (s.time - e.parkTime).toNat

/-- The entry of a descriptor whose age has reached the hold limit (R127). -/
def State.expired? (s : State) (h : Nat) : Option ParkEntry :=
  s.disp.park.find? (fun e => e.frame == h && decide (s.holdLimit ≤ s.parkAge e))

/-- The entry is removed and its frame dropped as PARK-TIMEOUT; the report's value is the time the frame spent in the
part (R89, R121, R127). -/
def timeoutEntry (e : ParkEntry) (s : State) : State :=
  match s.frame? e.frame with
  | some d =>
    dropFrame e.frame d .parkTimeout (s.time - d.arrival).toNat (unpark e.frame d.cells s)
  | none => unpark e.frame 0 s

/-- PARK_TIMEOUT (R127). -/
def execParkTimeout (frame : Fin 1024) (s : State) : Host.Outcome State Fault Refusal :=
  .next (match s.expired? frame.val with
    | some e => finishEvent s (timeoutEntry e s)
    | none => s)

/-! ## Removal of an association's frames (R128, R129) -/

/-- A stored frame belongs to an association (R78). -/
def State.frameOf (s : State) (a : Fin 64) (h : Nat) : Bool :=
  match s.frame? h with
  | some d => d.action == .encrypt a
  | none => false

/-- The cells of stored frames. -/
def State.cellsOf (s : State) (hs : List Nat) : Nat :=
  (hs.map (fun h => match s.frame? h with | some d => d.cells | none => 0)).sum

/-- The frames of an association in the queues and on the park list (R128), in the order in which they are released: the queues by
number, each from its head, then the park entries from the oldest; no rule gives one. DESIGN CHOICE (log 36). -/
def State.heldFrames (s : State) (a : Fin 64) : List Nat :=
  (List.finRange 8).flatMap (fun q => s.buf.queues[q].filter (s.frameOf a)) ++
    (s.disp.park.filter (fun e => e.assoc == a)).map (·.frame)

/-- The association's frames leave one queue; those left keep their order (R98). -/
def removeFromQueue (a : Fin 64) (s : State) (q : Fin 8) : State :=
  let gone := s.buf.queues[q].filter (s.frameOf a)
  { s with buf := { s.buf with
      queues := s.buf.queues.set q (s.buf.queues[q].filter (fun h => !s.frameOf a h)),
      queueCells := s.buf.queueCells.set q (s.buf.queueCells[q] - s.cellsOf gone) } }

/-- The association's entries leave the park list (R128). -/
def removeFromPark (a : Fin 64) (s : State) : State :=
  let gone := (s.disp.park.filter (fun e => e.assoc == a)).map (·.frame)
  { s with disp := { s.disp with
      park := s.disp.park.filter (fun e => e.assoc != a), parkedCells := s.disp.parkedCells - s.cellsOf gone } }

/-- Every frame of the association leaves the queues and the park list and is released at once (R128, R129). -/
def removeFrames (a : Fin 64) (s : State) : State :=
  let held := s.heldFrames a
  let s1 := removeFromPark a ((List.finRange 8).foldl (removeFromQueue a) s)
  releaseEach held s1

end Sys2Proof.Machine
end

