-- ==== Sys2Proof/Machine/StartUp.lean ====
section
/-! DEFINITION. Device reset, loading, the image and its checks, and the end of settle (chapter 10, R211, R212). -/

namespace Sys2Proof.Machine

/-! ## Device reset and the start of loading -/

/-- DEVICE_RESET: every block takes its after-reset form, in every device state (R184). A frame being sent on either port
is cut short (R105). The queue of commands and the count of free values drawn are the model's own and stay. -/
def execDeviceReset (s : State) : Host.Outcome State Fault Refusal :=
  .next { State.reset with
    campus := { CampusPort.reset with cutShort := s.campus.sending.isSome },
    rack := { RackTransmitter.reset with cutShort := s.rack.sending.isSome },
    freeIndex := s.freeIndex, pending := s.pending }

/-- What the loader sends to the serial memory: the read command 03h and the address 000000h (R212). -/
def serialReadCommand : List Byte := [0x03, 0x00, 0x00, 0x00]

/-- LOADING_START: the straps are read, the key store is wiped again, and the read of the image begins: the serial memory is
selected and sent the read command (R186, R190, R212). -/
def execLoadingStart (straps : BitVec 3) (s : State) : Host.Outcome State Fault Refusal :=
  .next (if s.device = .heldInReset then
    { s with
      device := .loading, station := straps, readBuffer := [], serial := some serialReadCommand,
      keys := Vector.replicate 64 (Vector.replicate 4 KeySlot.wiped) }
  else s)

/-! ## The serial read (R212) -/

/-- The format marker (R211). -/
def formatMarker : Nat := 0x5a3c0001

/-- A length field in range: 1182 to 65 532, with length − 1182 a multiple of 6 (R211). -/
def lengthInRange (n : Nat) : Bool := decide (1182 ≤ n ∧ n ≤ 65532 ∧ (n - 1182) % 6 = 0)

/-- `count` bytes read from offset 0; a memory that holds fewer gives all ones beyond its end (R212). -/
def readBytes (memory : List Byte) (count : Nat) : List Byte :=
  memory.take count ++ List.replicate (count - memory.length) 0xff

/-- What the loader reads: bytes 0 to 7, and no more when the marker or the length fails; otherwise the whole length
(R212). -/
def serialRead (memory : List Byte) : List Byte :=
  let head := readBytes memory 8
  if field head 0 4 = formatMarker ∧ lengthInRange (field head 4 4) = true then
    readBytes memory (field head 4 4)
  else head

/-! ## The fields of the image (R211) -/

/-- A setting field of two bits is no (00b) or yes (01b); any other value is out of range (R211). -/
def settingInRange (bits : Nat) : Bool := decide (bits < 2)

/-- The disposition byte of a class, in class code order (R211). -/
def dispositionByte (image : List Byte) (i : Fin 13) : Nat := (byteAt image (72 + i.val)).toNat

/-- One entry of the disposition table (R211): disposition in bits 1–0 (01b PARK), notify in 3–2, alert in 5–4. -/
def parseSetting (image : List Byte) (i : Fin 13) : ClassSetting :=
  let b := dispositionByte image i
  { disposition := if b % 4 = 1 then .park else .drop,
    notify := b / 4 % 4 == 1,
    alert := b / 16 % 4 == 1 }

/-- The offset of an association definition (R211). -/
def defOffset (a : Fin 64) : Nat := 88 + 16 * a.val

/-- The start level byte of a definition (R211). -/
def startLevelByte (image : List Byte) (a : Fin 64) : Nat := (byteAt image (defOffset a + 1)).toNat

/-- One association definition; an undefined one has start level 1 and its parameters are not used (R73, R211). -/
def parseDef (image : List Byte) (a : Fin 64) : AssocDef :=
  if (byteAt image (defOffset a)).getLsbD 0 then
    { defined := true, startLevel := Fin.ofNat 4 (startLevelByte image a), window := field image (defOffset a + 2) 4,
      guard := field image (defOffset a + 6) 4, margin := field image (defOffset a + 10) 6 }
  else AssocDef.undefined

/-- The fields of the image (R188, R211). -/
def parseImage (image : List Byte) : Image :=
  { ownAddress := BitVec.ofNat 48 (field image 8 6), agentAddress := BitVec.ofNat 48 (field image 14 6),
    commandType := BitVec.ofNat 16 (field image 20 2), envelopeType := BitVec.ofNat 16 (field image 22 2),
    cMax := field image 24 2, singleStation := (byteAt image 26).getLsbD 0, settleTime := field image 27 1,
    holdLimit := field image 28 2, pOn := field image 30 2, hysteresis := field image 32 2,
    pauseTime := field image 34 2, caps := Vector.ofFn (fun q : Fin 8 => field image (36 + 2 * q.val) 2),
    parkCap := field image 52 2, defaultSegment := field image 54 2,
    ladder := Vector.ofFn (fun k : Fin 4 => field image (56 + 4 * k.val) 4),
    settings := Vector.ofFn (parseSetting image), defs := Vector.ofFn (parseDef image) }

/-- The command key (R211). -/
def imageCommandKey (image : List Byte) : BitVec 256 := BitVec.ofNat 256 (field image 1112 32)

/-- The wrap key (R211). -/
def imageWrapKey (image : List Byte) : BitVec 256 := BitVec.ofNat 256 (field image 1144 32)

/-- A segment run: first index, length, entry (R76, R211). -/
structure SegRun where
  first : Nat
  length : Nat
  entry : Nat
  deriving DecidableEq, Repr

/-- The number of segment runs (R211). -/
def runCount (image : List Byte) : Nat := (image.length - 1182) / 6

/-- The runs in image order (R211). -/
def parseRuns (image : List Byte) : List SegRun :=
  (List.range (runCount image)).map (fun i =>
    { first := field image (1178 + 6 * i) 2, length := field image (1180 + 6 * i) 2,
      entry := field image (1182 + 6 * i) 2 })

/-! ## The nine checks (R187) -/

/-- The reasons of a halt, with their codes (R187). -/
inductive HaltReason where
  | format | length | crc | deviceField | ladder | queueCaps | disposition | association | segment
  deriving DecidableEq, Repr

/-- The halt reason code (R187). -/
def HaltReason.code : HaltReason → Nat
  | .format => 1
  | .length => 2
  | .crc => 3
  | .deviceField => 4
  | .ladder => 5
  | .queueCaps => 6
  | .disposition => 7
  | .association => 8
  | .segment => 9

/-- The own address is an individual address (R188). -/
def ownAddressOk (image : List Byte) : Bool := !(byteAt image 8).getLsbD 0

/-- The CRC-32 over bytes 0 to length − 5 equals the last four (R212). -/
def crcOk (image : List Byte) : Bool :=
  (imageCrc (image.take (image.length - 4))).toNat == field image (image.length - 4) 4

/-- Check 4: every device-wide field lies in its range (R188). -/
def deviceFieldsOk (image : List Byte) : Bool :=
  let i := parseImage image
  ownAddressOk image &&
    decide (i.commandType.toNat ≠ linkControlType ∧ i.commandType.toNat ≠ segmentTagType ∧
      i.envelopeType.toNat ≠ linkControlType) &&
    decide (1518 ≤ i.cMax ∧ i.cMax ≤ 9216) && decide (1 ≤ i.settleTime ∧ i.settleTime ≤ 16) &&
    decide (1 ≤ i.holdLimit ∧ i.holdLimit ≤ 100) && decide (i.pOn ≤ 2047) &&
    decide (1 ≤ i.hysteresis ∧ i.hysteresis + i.pOn ≤ 2048) && decide (1 ≤ i.pauseTime) &&
    i.caps.all (fun c => decide (c ≤ 2048)) && decide (i.parkCap ≤ 2048) && decide (i.defaultSegment ≤ 4095)

/-- Check 5: the ladder (R187). -/
def ladderOk (image : List Byte) : Bool :=
  let l := (parseImage image).ladder
  l.all (fun x => decide (256 ≤ x ∧ x ≤ 4194304)) && decide (l[0] < l[1] ∧ l[1] < l[2] ∧ l[2] < l[3])

/-- Check 6: the queue caps sum to at least 1 (R187). -/
def capsOk (image : List Byte) : Bool := decide (1 ≤ (parseImage image).caps.toList.sum)

/-- Check 7 for one class: the fields that R117 uses (log 20). The first five classes are the faults. -/
def settingOk (image : List Byte) (i : Fin 13) : Bool :=
  let b := dispositionByte image i
  (decide (5 ≤ i.val) || decide (b % 4 = 1 ∨ b % 4 = 2)) &&
    (decide (i = ExcClass.keyCheck.index ∨ i = ExcClass.double.index) || settingInRange (b / 4 % 4)) &&
    (decide (i = ExcClass.keyCheck.index) || settingInRange (b / 16 % 4))

/-- Check 7: the disposition table (R187, R211). -/
def dispositionOk (image : List Byte) : Bool := (List.finRange 13).all (settingOk image)

/-- Check 8 for one association (R72, R74, R187). -/
def assocOk (image : List Byte) (a : Fin 64) : Bool :=
  let d := parseDef image a
  !d.defined ||
    decide (4096 ≤ d.window ∧ d.window ≤ 16777216 ∧ 2 * d.guard ≤ d.window ∧ d.margin ≤ 2 ^ 40 ∧
      startLevelByte image a ≤ 3)

/-- Check 8 (R187). -/
def assocsOk (image : List Byte) : Bool := (List.finRange 64).all (assocOk image)

/-- A decoded entry is valid: an ENCRYPT entry names a defined association (R75). -/
def Image.entryOk (i : Image) (e : SegEntry) : Bool :=
  match e with
  | .encrypt a _ => (i.defs[a]).defined
  | .clear _ => true
  | .drop => true

/-- An entry of 2 bytes, when it is valid (R75, R208). -/
def Image.entry? (i : Image) (word : Nat) : Option SegEntry :=
  match decodeSegEntry word with
  | some e => if i.entryOk e then some e else none
  | none => none

/-- Check 9 for one run (R187). -/
def runOk (i : Image) (r : SegRun) : Bool :=
  decide (1 ≤ r.length ∧ r.first + r.length ≤ 4096) && (i.entry? r.entry).isSome

/-- Check 9 (R187). -/
def segmentsOk (image : List Byte) : Bool :=
  decide (runCount image ≤ 4096) && (parseRuns image).all (runOk (parseImage image))

/-- The first check that fails decides the image invalid; an image that passes all nine is valid (R187). -/
def imageFault (image : List Byte) : Option HaltReason :=
  if field image 0 4 ≠ formatMarker then some .format
  else if lengthInRange (field image 4 4) = false then some .length
  else if crcOk image = false then some .crc
  else if deviceFieldsOk image = false then some .deviceField
  else if ladderOk image = false then some .ladder
  else if capsOk image = false then some .queueCaps
  else if dispositionOk image = false then some .disposition
  else if assocsOk image = false then some .association
  else if segmentsOk image = false then some .segment
  else none

/-! ## Halt (R189) -/

/-- The source address of the HALTED report: the image's own address when checks 1 to 3 passed and that address passed
its test (R189). -/
def haltSource (image : List Byte) (reason : HaltReason) : BitVec 48 :=
  if 4 ≤ reason.code ∧ ownAddressOk image then BitVec.ofNat 48 (field image 8 6) else 0

/-- The HALTED notice (R189, R175). -/
def haltNotice (reason : HaltReason) (time : BitVec 32) : Notice :=
  { newNotice .halted .none 255 0 reason.code 1 true with time := time }

/-- HALTED: the read buffer is cleared, the alert latch set, and the one report begins on the rack port (R189, log 26). -/
def halt (image : List Byte) (reason : HaltReason) (s : State) : State :=
  rackSend .status
    (withFcs (statusFrame (BitVec.allOnes 48) (haltSource image reason) 0 [haltNotice reason s.time]))
    (setAlert { s with device := .halted, readBuffer := [] })

/-! ## Load complete (R191) -/

/-- A run writes its entry at each index from the first through the length (R76). -/
def writeRun (m : List (Nat × SegEntry)) (first : Nat) (e : SegEntry) : Nat → List (Nat × SegEntry)
  | 0 => m
  | n + 1 => SegMap.write (writeRun m first e n) (first + n) e

/-- The runs are applied in image order; a later one overwrites (R76). -/
def writeRuns (i : Image) (runs : List SegRun) (m : List (Nat × SegEntry)) : List (Nat × SegEntry) :=
  runs.foldl (fun m r => match i.entry? r.entry with | some e => writeRun m r.first e r.length | none => m) m

/-- A record at entry to SETTLING: the start level of its definition, and a defined association SETTLING with no settle
view (R3, R50, R191). -/
def Assoc.atSettle (d : AssocDef) (r : Assoc) : Assoc :=
  { r with level := d.startLevel, settleView := none, state := if d.defined then .settling else r.state }

/-- The STARTED notice (R175). -/
def startedNotice (s : State) : Notice := newNotice .started .none 255 0 s.station.toNat 1 false

/-- All checks passed: the blocks take their fields, the map is written, the keys go to the command engine, and the device
enters SETTLING, in which both ports come up (R191, R105). -/
def loadComplete (image : List Byte) (s : State) : State :=
  let i := parseImage image
  let s1 := { s with
    image := some i,
    assocs := Vector.ofFn (fun a : Fin 64 => (s.assoc a).atSettle i.defs[a]),
    segMap := writeRuns i (parseRuns image) s.segMap,
    engine := { s.engine with commandKey := imageCommandKey image, wrapKey := imageWrapKey image },
    readBuffer := [], device := .settling,
    rackRx := { s.rackRx with cameUp := true }, campusRx := { s.campusRx with cameUp := true },
    bus := { s.bus with idleSeen := false, settleTimer := some i.settleTime } }
  s1 |> requestTx .join 0 |> postNotice (startedNotice s1)

/-- The read ends in the loader's read buffer, and the memory is deselected, after a read that stops at the marker or the
length as after a whole one (R212, log 34). -/
def readImage (memory : List Byte) (s : State) : State := { s with readBuffer := serialRead memory, serial := none }

/-- The checks are run on the read buffer (R187). -/
def checkImage (s : State) : State :=
  match imageFault s.readBuffer with
  | some reason => halt s.readBuffer reason s
  | none => loadComplete s.readBuffer s

/-- IMAGE_READ_DONE (R187, R189, R191). -/
def execImageReadDone (memory : List Byte) (s : State) : Host.Outcome State Fault Refusal :=
  .next (if s.device = .loading then finishEvent s (checkImage (readImage memory s)) else s)

/-! ## The end of settle (R192) -/

/-- Placement of every association still SETTLING, in ascending order (R50). -/
def placeAll (s : State) : State :=
  (List.finRange 64).foldl (fun s a => if (s.assoc a).state = .settling then place a s else s) s

/-- Release marks for class SETTLING of every defined association (R50). -/
def postSettlingMarks (s : State) : State :=
  (List.finRange 64).foldl (fun s a => if (s.assocDef a).defined then postMark a .settling s else s) s

/-- The number of LIVE associations (R175). -/
def State.liveCount (s : State) : Nat := s.assocs.toList.countP (fun r => r.state == .live)

/-- The SETTLED notice (R192). -/
def postSettled (s : State) : State := postNotice (newNotice .settled .none 255 0 s.liveCount 1 false) s

/-- The device enters RUNNING with the settle timer stopped and the JOIN entry removed (R46, R192). -/
def enterRunning (s : State) : State :=
  removeTx .join 0 { s with device := .running, bus := { s.bus with settleTimer := none } }

/-- SETTLE_TIMER_EXPIRY (R192). -/
def execSettleTimerExpiry (s : State) : Host.Outcome State Fault Refusal :=
  .next (if s.device = .settling ∧ s.bus.settleTimer.isSome then
    finishEvent s (s |> enterRunning |> placeAll |> postSettlingMarks |> postSettled)
  else s)

end Sys2Proof.Machine
end

