-- ==== Sys2Proof/Machine/Zeroization.lean ====
section
/-! DEFINITION. Zeroization: requests, the sequence and its end (chapter 11). -/

namespace Sys2Proof.Machine

/-- The receivers at entry to ZEROIZING: out of LOADING both ports come up (R201), otherwise a frame may be arriving on the
rack port (R195, R105). -/
def zeroizeReceivers (s : State) : State :=
  if s.device = .loading then
    { s with rackRx := { s.rackRx with cameUp := true }, campusRx := { s.campusRx with cameUp := true } }
  else { s with rackRx := { s.rackRx with zeroizeBegan := true } }

/-- Step 1: ZEROIZING, the alert latch set, the settle timer stopped (R195). That the receiver turns inert and that no
dispatch, message or notice follows is read from the device state (R105, R108, R27, R183). A load under way is ended, its
read buffer cleared and the serial memory deselected (R186, R201, log 34). -/
def zeroizeStep1 (s : State) : State :=
  setAlert { zeroizeReceivers s with
    device := .zeroizing, readBuffer := [], serial := none,
    bus := { s.bus with settleTimer := none } }

/-- The command engine's part of step 2: the command it holds is ended, the list emptied, the unwrap store cleared, and a
running scan abandoned; a WRITE-SEGMENTS ended midway leaves the entries written so far (R173, R87). -/
def zeroizeEngine (s : State) : State :=
  { s with engine := { s.engine with input := [], state := .idle, unwrapStore := 0, scan := none, written := 0 } }

/-- The lanes' part of step 2: frames given up, working stores cleared, the completion list emptied, a frame being sent
cut short, the in-flight counts 0 (R151). What a lane in WORKING had written of its ciphertext is none (log 35). -/
def zeroizeLanes (s : State) : State :=
  { s with
    lanes := { lanes := Vector.replicate 4 .idle, completion := [], inFlight := Vector.replicate 8 0 },
    campus := { s.campus with sending := none, cutShort := s.campus.cutShort || s.campus.sending.isSome } }

/-- The park list's and the queues' part of step 2; the dispatch states stay (R130, R98). -/
def zeroizeLists (s : State) : State :=
  { s with
    disp := { s.disp with park := [], parkedCells := 0, marks := [] },
    buf := { s.buf with queues := Vector.replicate 8 [], queueCells := Vector.replicate 8 0 } }

/-- The stored frames in the order of the blocks that give them up at step 2: completion list, park list, queues (R196). Within
a block no rule gives an order, and the model takes the completion entries from the head, the park entries from the oldest and
the queues by number, each from its head. DESIGN CHOICE (log 36). Every stored frame stands in one of these places (R90); any
other of the pool, which no run reaches, comes behind them. -/
def State.discardOrder (s : State) : List Nat :=
  s.lanes.completion.map (·.frame) ++ s.disp.park.map (·.frame) ++ (List.finRange 8).flatMap (fun q => s.buf.queues[q]) ++
    s.buf.pool.map (·.1)

/-- Step 2 discards all egress traffic and every command held (R196). -/
def zeroizeStep2 (s : State) : State :=
  s |> zeroizeEngine |> zeroizeLanes |> zeroizeLists |> releaseEach s.discardOrder

/-- Step 3: the transmit list is emptied and an own message on the bus is cut short (R197, R47). -/
def zeroizeStep3 (s : State) : State := { s with bus := { s.bus with txList := [], onBus := none } }

/-- The DORMANT form of a record; the ladder level and the accumulator keep their values (R2, R197). -/
def Assoc.toDormant (r : Assoc) : Assoc :=
  { r with state := .dormant, epoch := none, hwm := none, assigned := 0, active := none, queued := none,
           pendingClaim := false, pendingAdvance := none, rekeyRequested := false, settleView := none }

/-- Step 4: every association becomes DORMANT (R197). -/
def zeroizeStep4 (s : State) : State := { s with assocs := s.assocs.map Assoc.toDormant }

/-- Step 5: every key slot is wiped, then the command key and the wrap key are overwritten (R198). -/
def zeroizeStep5 (s : State) : State :=
  { s with
    keys := Vector.replicate 64 (Vector.replicate 4 KeySlot.wiped),
    engine := { s.engine with commandKey := 0, wrapKey := 0 } }

/-- The zeroize latch is set (R193, R194). -/
def setLatch (s : State) : State := { s with zeroizeLatch := true }

/-- Steps 1 to 5 of the sequence (R195 to R198); step 6 is ZEROIZE_COMPLETE (log 22). -/
def zeroizeSequence (s : State) : State :=
  s |> zeroizeStep1 |> zeroizeStep2 |> zeroizeStep3 |> zeroizeStep4 |> zeroizeStep5

/-- A zeroize request, by the device state and the latch (R194). -/
def zeroizeRequest (s : State) : State :=
  if s.zeroizeLatch then s
  else
    match s.device with
    | .heldInReset => s
    | .halted => setLatch s
    | _ => zeroizeSequence (setLatch s)

/-- ZEROIZE_PIN_REQUEST (R193, R194). -/
def execZeroizePinRequest (s : State) : Host.Outcome State Fault Refusal :=
  .next (if s.zeroizeLatch then s else finishEvent s (zeroizeRequest s))

/-- Step 6: the device becomes ZEROIZED and the ZEROIZED notice joins the queue, or is held apart while it is full
(R199, R177). -/
def zeroizeStep6 (s : State) : State :=
  joinHeldZeroized { s with device := .zeroized, status := { s.status with heldZeroized := true } }

/-- ZEROIZE_COMPLETE (R199). -/
def execZeroizeComplete (s : State) : Host.Outcome State Fault Refusal :=
  .next (if s.device = .zeroizing then finishEvent s (zeroizeStep6 s) else s)

end Sys2Proof.Machine
end

