-- ==== Sys2Proof/Machine/Commands.lean ====
section
/-! DEFINITION. The command engine: authentication, replies, and the commands (chapter 8, with the rules of the blocks
each command reaches). -/

namespace Sys2Proof.Machine

/-! ## The engine (R153, R155, R157, R158) -/

/-- The head of the command input list leaves, and the engine takes the next head or becomes IDLE (R153). -/
def leaveHead (s : State) : State :=
  { s with engine := { s.engine with
      input := s.engine.input.drop 1,
      state := if (s.engine.input.drop 1).isEmpty then .idle else .checking } }

/-- A frame that fails authentication is dropped and counted; nothing else changes (R155). -/
def dropUnauthentic (s : State) : State := leaveHead (bumpFrames .commandAuth s)

/-- The frame is a decoded ZEROIZE: code 0Ah with B = 0 (R157, R172). -/
def isZeroizeFrame (data : List Byte) : Bool := commandCode data == 0x0a && bodyLength data == 0

/-- An authenticated head enters EXECUTING when the reply list has a free entry, and WAITING otherwise; a decoded ZEROIZE
enters EXECUTING at once (R157). -/
def admitCommand (data : List Byte) (s : State) : State :=
  { s with engine := { s.engine with
      state := if isZeroizeFrame data ∨ s.status.replies.length < 4 then .executing else .waiting } }

/-- COMMAND_FRAME_CHECK (R155, R157). -/
def execCommandFrameCheck (s : State) : Host.Outcome State Fault Refusal :=
  .next (match s.engine.state, s.engine.input with
    | .checking, data :: _ =>
      finishEvent s (if commandAuthentic s.engine.commandKey s.cfg data then admitCommand data s else dropUnauthentic s)
    | _, _ => s)

/-- What a command comes to: its effects made, its result, its value and its counter block (R158). -/
structure CommandOutcome where
  state : State
  result : CommandResult
  value : Nat
  counters : List Nat
  deriving DecidableEq, Repr

/-- A command refused changes no state outside the engine (R158). -/
def refuseCommand (result : CommandResult) (value : Nat) (s : State) : CommandOutcome :=
  { state := s, result := result, value := value, counters := [] }

/-- A command whose effects are made. -/
def answer (result : CommandResult) (value : Nat) (s : State) : CommandOutcome :=
  { state := s, result := result, value := value, counters := [] }

/-- The reply joins the reply list at its tail and the head leaves (R158). -/
def placeReply (data : List Byte) (o : CommandOutcome) : State :=
  leaveHead { o.state with status := { o.state.status with
    replies := o.state.status.replies ++
      [{ tag := commandTag data, code := commandCode data, result := o.result, value := o.value,
         counters := o.counters }] } }

/-- The head in EXECUTING, when its code is the one asked for (R153, R160). -/
def State.executing? (s : State) (code : Byte) : Option (List Byte) :=
  match s.engine.state, s.engine.input with
  | .executing, data :: _ => if commandCode data = code then some data else none
  | _, _ => none

/-- A command executes: with another body length than its code requires it is refused with REFUSED-FORMAT, else by its
own rule; then its reply is placed (R156, R158). -/
def runCommand (code : Byte) (rule : List Byte → State → CommandOutcome) (s : State) : State :=
  match s.executing? code with
  | some data =>
    finishEvent s (placeReply data
      (if bodyLengthFits code.toNat (bodyLength data) (commandBody data) then rule (commandBody data) s
       else refuseCommand .refusedFormat 0 s))
  | none => s

/-- A command on one association, the first byte of its body: refused with REFUSED-RANGE when it is undefined (R161). -/
def onAssoc (rule : Fin 64 → State → CommandOutcome) (body : List Byte) (s : State) : CommandOutcome :=
  match s.definedAssoc? (byteAt body 0) with
  | some a => rule a s
  | none => refuseCommand .refusedRange 0 s

/-- UNKNOWN_COMMAND: a code outside 01h to 0Ah is answered with REFUSED-UNKNOWN (R156). -/
def execUnknownCommand (s : State) : Host.Outcome State Fault Refusal :=
  .next (match s.engine.state, s.engine.input with
    | .executing, data :: _ =>
      if 1 ≤ (commandCode data).toNat ∧ (commandCode data).toNat ≤ 10 then s
      else finishEvent s (placeReply data (refuseCommand .refusedUnknown 0 s))
    | _, _ => s)

/-! ## INSTALL-KEY (R162, R163) -/

/-- The state code of a reply; RETIRED has none stated and takes a free value (R163, log 16). -/
def AssocState.code (freeIndex : Nat) : AssocState → Nat
  | .dormant => 0
  | .settling => 1
  | .live => 2
  | .blind => 3
  | .keyWait => 4
  | .retired => (Config.freeByte freeIndex).toNat

/-- The install a body asks for, with the key unwrapped and checked under the wrap key copy (R162). -/
def unwrapInstall (wrapKey : BitVec 256) (body : List Byte) : Install :=
  let epoch := field body 1 2
  let limit := field body 3 6
  let cipher := (body.drop 9).take 32
  let nonce := frameNonce (byteAt body 0).toNat epoch limit
  { epoch := epoch, limit := limit, key := BitVec.ofNat 256 (beNat (gcmCrypt wrapKey nonce cipher)),
    unwrapOk := (gcmTag wrapKey nonce [] cipher).take 8 == (body.drop 41).take 8 }

/-- The epoch a refused install reports: the current epoch, else that of the settle view, else 0 (R163). -/
def Assoc.reportedEpoch (r : Assoc) : Nat :=
  match r.epoch with
  | some e => e
  | none => match r.settleView with | some v => v.epoch | none => 0

/-- The value of a DONE reply: the role in its lowest byte, the association's state in the byte above (R163). -/
def installValue (a : Fin 64) (role : Role) (s : State) : Nat :=
  role.code + 256 * (s.assoc a).state.code s.freeIndex

/-- The unwrap store holds the unwrapped key until the install has been decided (R162, R163). -/
def setUnwrapStore (key : BitVec 256) (s : State) : State :=
  { s with engine := { s.engine with unwrapStore := key } }

/-- The decision of an install with its reply; the unwrap store is cleared before the reply is placed (R163). -/
def installDecided (a : Fin 64) (i : Install) (s : State) : CommandOutcome :=
  let o := decideInstall a i (setUnwrapStore i.key s)
  let s1 := setUnwrapStore 0 o.state
  if o.result = .done then
    answer .done (installValue a o.role s1) (if (s1.assoc a).state = .retired then drawFree s1 else s1)
  else refuseCommand o.result (s.assoc a).reportedEpoch s1

/-- INSTALL-KEY for a defined association: an epoch of 0 or a λ of 0 is refused with REFUSED-RANGE (R162). -/
def installRule (body : List Byte) (a : Fin 64) (s : State) : CommandOutcome :=
  let i := unwrapInstall s.engine.wrapKey body
  if i.epoch = 0 ∨ i.limit = 0 then refuseCommand .refusedRange 0 s else installDecided a i s

/-- INSTALL_KEY (R163). -/
def execInstallKey (s : State) : Host.Outcome State Fault Refusal :=
  .next (runCommand 0x01 (fun body s => onAssoc (installRule body) body s) s)

/-! ## The segment map commands (R80 to R85, R164, R165) -/

/-- The entries of a WRITE-SEGMENTS body, each valid or `none` (R75, R208). -/
def bodyEntries (i : Image) (n : Nat) (body : List Byte) : List (Option SegEntry) :=
  (List.range n).map (fun m => i.entry? (field body (4 + 2 * m) 2))

/-- The validation of a WRITE-SEGMENTS: start index, count, every entry (R80). -/
def writeSegmentsValid (i : Image) (body : List Byte) : Bool :=
  decide (field body 0 2 ≤ 4095) && decide (1 ≤ field body 2 2 ∧ field body 2 2 ≤ 256) &&
    (bodyEntries i (field body 2 2) body).all (·.isSome)

/-- The entry at list position `m` is written whole at index (i + m) modulo 4096 (R79, R81). -/
def writeListed (body : List Byte) (m : Nat) (s : State) : State :=
  match s.cfg.entry? (field body (4 + 2 * m) 2) with
  | some e => { s with segMap := SegMap.write s.segMap ((field body 0 2 + m) % 4096) e }
  | none => s

/-- How many entries the WRITE-SEGMENTS in EXECUTING has written. -/
def setWritten (m : Nat) (s : State) : State := { s with engine := { s.engine with written := m } }

/-- The next entry is written; after the last the reply is placed, and before it the command stays in EXECUTING (R81, R164). -/
def writeNext (data : List Byte) (s : State) : State :=
  let body := commandBody data
  let n := field body 2 2
  let s1 := writeListed body s.engine.written s
  if s.engine.written + 1 < n then setWritten (s.engine.written + 1) s1
  else placeReply data (answer .done n (setWritten 0 s1))

/-- WRITE-SEGMENTS: validated whole before its first entry, then written entry by entry, with whatever other events fall
between two writes (R79, R80, R81, R157, R164, log 27). -/
def writeSegmentsRule (data : List Byte) (s : State) : State :=
  if bodyLengthFits 0x02 (bodyLength data) (commandBody data) = false then
    placeReply data (refuseCommand .refusedFormat 0 s)
  else if s.engine.written = 0 ∧ writeSegmentsValid s.cfg (commandBody data) = false then
    placeReply data (refuseCommand .refusedRange 0 s)
  else writeNext data s

/-- WRITE_SEGMENTS (R81). -/
def execWriteSegments (s : State) : Host.Outcome State Fault Refusal :=
  .next (match s.executing? 0x02 with
    | some data => finishEvent s (writeSegmentsRule data s)
    | none => s)

/-- MOVE-SEGMENTS, by the tests of R82; a refusal for a running scan reports its position (R165). -/
def moveSegmentsRule (body : List Byte) (s : State) : CommandOutcome :=
  match s.definedAssoc? (byteAt body 0), s.definedAssoc? (byteAt body 1) with
  | some a, some b =>
    if a = b then refuseCommand .refusedRange 0 s
    else
      match s.engine.scan with
      | some x => refuseCommand .refusedBusy x.position s
      | none =>
        answer .accepted 0 { s with engine := { s.engine with
          scan := some { source := a, target := b, position := 0, moved := 0 } } }
  | _, _ => refuseCommand .refusedRange 0 s

/-- MOVE_SEGMENTS (R82). -/
def execMoveSegments (s : State) : Host.Outcome State Fault Refusal :=
  .next (runCommand 0x03 moveSegmentsRule s)

/-- The entry a scan step leaves: an ENCRYPT entry of the from-association names the to-association, its queue kept; any
other is left (R84). -/
def Scan.rewrite (x : Scan) (e : SegEntry) : SegEntry :=
  match e with
  | .encrypt a q => if a = x.source then .encrypt x.target q else e
  | _ => e

/-- The entry is one the scan rewrites (R84). -/
def Scan.hits (x : Scan) (e : SegEntry) : Bool :=
  match e with
  | .encrypt a _ => a == x.source
  | _ => false

/-- The scan after a step: the next position, or its end (R84, R85). -/
def Scan.next (x : Scan) (moved : Nat) : Option Scan :=
  if x.position < 4095 then some { x with position := x.position + 1, moved := moved } else none

/-- One step of the scan; the step at position 4095 ends it with the notice MOVE-DONE (R84, R85). -/
def scanOnce (x : Scan) (s : State) : State :=
  let e := SegMap.read s.segMap x.position
  let moved := x.moved + (if x.hits e then 1 else 0)
  let s1 := { s with
    segMap := if x.hits e then SegMap.write s.segMap x.position (x.rewrite e) else s.segMap,
    engine := { s.engine with scan := x.next moved } }
  if x.position < 4095 then s1
  else postNotice (newNotice .moveDone .none x.source.val 0 x.target.val moved false) s1

/-- SCAN_STEP (R84). -/
def execScanStep (s : State) : Host.Outcome State Fault Refusal :=
  .next (match s.engine.scan with
    | some x => finishEvent s (scanOnce x s)
    | none => s)

/-! ## The association commands (R166 to R168) -/

/-- ADVANCE-EPOCH: taken when the association is LIVE or BLIND and holds a STANDBY (R63, R166). -/
def advanceEpochRule (a : Fin 64) (s : State) : CommandOutcome :=
  if ((s.assoc a).state = .live ∨ (s.assoc a).state = .blind) ∧ s.hasStandby a then
    let s1 := requestAdvance a .command s
    answer .accepted (match (s1.assoc a).pendingAdvance with | some p => p.target | none => 0) s1
  else refuseCommand .refusedState (s.assoc a).epochOrZero s

/-- ADVANCE_EPOCH (R63). -/
def execAdvanceEpoch (s : State) : Host.Outcome State Fault Refusal :=
  .next (runCommand 0x04 (onAssoc advanceEpochRule) s)

/-- RETIRE-SA: the association is made RETIRED and its queued and parked frames are removed as RETIRED drops, reported
once (R70, R129, R167). -/
def retireSaRule (a : Fin 64) (s : State) : CommandOutcome :=
  if (s.assoc a).state = .retired then refuseCommand .refusedState 0 s
  else
    let n := (s.heldFrames a).length
    answer .done n (s |> retire a false |> removeFrames a |> bumpDrop a .retired n |> report .retired (some a) 0 1)

/-- RETIRE_SA (R167). -/
def execRetireSa (s : State) : Host.Outcome State Fault Refusal :=
  .next (runCommand 0x05 (onAssoc retireSaRule) s)

/-- FLUSH-SA: every frame of the association leaves the queues and the park list and is counted as flushed (R128, R168). -/
def flushSaRule (a : Fin 64) (s : State) : CommandOutcome :=
  let n := (s.heldFrames a).length
  answer .done n (s |> removeFrames a |> bump a .flushed n)

/-- FLUSH_SA (R128). -/
def execFlushSa (s : State) : Host.Outcome State Fault Refusal :=
  .next (runCommand 0x06 (onAssoc flushSaRule) s)

/-! ## The queue commands (R147, R149, R169, R170) -/

/-- One named queue is quiesced (R147). -/
def quiesceOne (mask : Byte) (s : State) (q : Fin 8) : State :=
  if maskNames mask q ∧ s.disp.queueState[q] = .active then
    if s.lanes.inFlight[q] = 0 then becomeQuiesced q s
    else { s with disp := { s.disp with queueState := s.disp.queueState.set q .quiescing } }
  else s

/-- The queues that meet a test, as a mask (R169, R170). -/
def queueMask (p : Fin 8 → Bool) : Nat := ((List.finRange 8).map (fun q => if p q then 2 ^ q.val else 0)).sum

/-- QUIESCE-QUEUE: the reply's value is the mask of all queues QUIESCED at the event (R169). The named queues are taken by
queue number, which is the order of their QUEUE-QUIESCED notices; no rule gives one (R148, log 13). -/
def quiesceRule (body : List Byte) (s : State) : CommandOutcome :=
  let mask := byteAt body 0
  if mask = 0 then refuseCommand .refusedRange 0 s
  else
    let s1 := (List.finRange 8).foldl (quiesceOne mask) s
    answer .done (queueMask (fun q => s1.disp.queueState[q] == .quiesced)) s1

/-- QUIESCE_QUEUE (R147). -/
def execQuiesceQueue (s : State) : Host.Outcome State Fault Refusal :=
  .next (runCommand 0x07 quiesceRule s)

/-- The named queues become ACTIVE (R149). -/
def resumeQueues (mask : Byte) (s : State) : State :=
  { s with disp := { s.disp with
      queueState := Vector.ofFn (fun q : Fin 8 => if maskNames mask q then .active else s.disp.queueState[q]) } }

/-- RESUME-QUEUE: the reply's value is the mask of named queues that were not ACTIVE before (R170). -/
def resumeRule (body : List Byte) (s : State) : CommandOutcome :=
  let mask := byteAt body 0
  if mask = 0 then refuseCommand .refusedRange 0 s
  else
    answer .done (queueMask (fun q => maskNames mask q && s.disp.queueState[q] != .active)) (resumeQueues mask s)

/-- RESUME_QUEUE (R149). -/
def execResumeQueue (s : State) : Host.Outcome State Fault Refusal :=
  .next (runCommand 0x08 resumeRule s)

/-! ## READ-STATUS (R171, R181) -/

/-- The counters of a group in the order of R181. -/
def Counters.group (c : Counters) (g : Nat) : List Nat :=
  if h : g < 64 then (c.assoc[g]).toList
  else if g = 64 then c.reception.toList
  else if g = 65 then c.frames.toList
  else c.bus.toList

/-- A group set to 0, and no other (R181). -/
def Counters.clearGroup (c : Counters) (g : Nat) : Counters :=
  if h : g < 64 then { c with assoc := c.assoc.set g (Vector.replicate 22 0) }
  else if g = 64 then { c with reception := Vector.replicate 9 0 }
  else if g = 65 then { c with frames := Vector.replicate 8 0 }
  else { c with bus := Vector.replicate 3 0 }

/-- The group is read, and cleared when asked, in one event; the alert latch is cleared (R171, R180). -/
def readGroup (g : Nat) (clear : Bool) (s : State) : State :=
  { s with
    counters := if clear then s.counters.clearGroup g else s.counters,
    status := { s.status with alert := false } }

/-- READ-STATUS: a group above 66 or a clear flag other than 00h or 01h is refused (R171). -/
def readStatusRule (body : List Byte) (s : State) : CommandOutcome :=
  let g := (byteAt body 0).toNat
  let flag := (byteAt body 1).toNat
  if 66 < g ∨ 1 < flag then refuseCommand .refusedRange 0 s
  else { state := readGroup g (flag == 1) s, result := .done, value := g, counters := s.counters.group g }

/-- READ_STATUS (R171). -/
def execReadStatus (s : State) : Host.Outcome State Fault Refusal :=
  .next (runCommand 0x09 readStatusRule s)

/-! ## ZEROIZE (R172) -/

/-- A decoded ZEROIZE places its reply when the list has room, and makes a zeroize request (R172). -/
def zeroizeCommand (data : List Byte) (s : State) : State :=
  zeroizeRequest (if s.status.replies.length < 4 then placeReply data (answer .accepted 0 s) else leaveHead s)

/-- ZEROIZE (R172). With B other than 0 it is not decoded, and is refused with REFUSED-FORMAT (R156). -/
def execZeroize (s : State) : Host.Outcome State Fault Refusal :=
  .next (match s.executing? 0x0a with
    | some data =>
      finishEvent s (if isZeroizeFrame data then zeroizeCommand data s
        else placeReply data (refuseCommand .refusedFormat 0 s))
    | none => s)

end Sys2Proof.Machine
end

