-- ==== Sys2Proof/Machine/Reception.lean ====
section
/-! DEFINITION. Rack reception, frame memory, the inbound path and the timers of the two ports (chapter 5, with the
sends of chapters 8 and 9). -/

namespace Sys2Proof.Machine

/-! ## Reception on the rack port (R91 to R97) -/

/-- A link pause frame sets the rack pause timer; another operation code is dropped as CONTROL (R92, R102). -/
def takeLinkControl (data : List Byte) (s : State) : State :=
  if linkOperation data = 1 then { s with rack := { s.rack with pauseTimer := linkPauseTime data } }
  else bumpReception .control s

/-- A command frame joins the command input list, and an IDLE engine enters CHECKING with it; with 4 entries present it
is dropped as COMMAND-OVERRUN with its notice (R93, R153). -/
def divertCommand (data : List Byte) (s : State) : State :=
  if s.engine.input.length < 4 then
    { s with engine := { s.engine with
        input := s.engine.input ++ [data],
        state := if s.engine.state = .idle then .checking else s.engine.state } }
  else postNotice (newNotice .commandOverrun .none 255 0 0 1 false) (bumpReception .commandOverrun s)

/-- A frame that passes the room test takes a descriptor and its cells, joins the tail of its queue, and the pause test
is made (R96). -/
def appendFrame (h : Nat) (action : FrameAction) (q : Fin 8) (data : List Byte) (s : State) : State :=
  let need := cellsFor data.length
  let d : Descriptor :=
    { length := data.length, action := action, queue := q, arrival := s.time, cells := need, data := data,
      assigned := none }
  pauseTest { s with buf := { s.buf with
    pool := tablePut s.buf.pool h d,
    freeCells := s.buf.freeCells - need,
    queues := s.buf.queues.set q (s.buf.queues[q] ++ [h]),
    queueCells := s.buf.queueCells.set q (s.buf.queueCells[q] + need),
    leftover := s.buf.leftover.drop need } }

/-- The bytes of an arriving frame that a reception stores: it stops after byte 9211 (R94). -/
def storedBytes (r : RackReception) : List Byte := r.frame.data.take 9212

/-- The reception was short: it needed a cell when it had written every free one. F only rises during a reception, so it was
short when the bytes it stores need more cells than are free at its end, it was not when F never fell below those cells, and
between the two it is told by `ranShort` (R94, log 8). -/
def State.receptionShort (s : State) (r : RackReception) : Bool :=
  let need := cellsFor (storedBytes r).length
  (r.ranShort.isSome && decide (s.rackRx.leastFree < need)) || decide (s.buf.freeCells < need)

/-- The cells a reception wrote: all its bytes need, or, when it was short, every cell free at the moment it ran short, which
is at least what F was at its first byte, at most F at its end, and fewer than it needed. `ranShort` tells the number, and
without it F was the same from then on (R94, log 8). -/
def State.cellsWritten (s : State) (r : RackReception) : Nat :=
  let need := cellsFor (storedBytes r).length
  if s.receptionShort r then
    min (max (r.ranShort.getD s.buf.freeCells) s.rackRx.leastFree) (min s.buf.freeCells (need - 1))
  else need

/-- Stages 6 and 7: the queue cap, the room test, and the append (R95, R96). -/
def roomTest (action : FrameAction) (q : Fin 8) (r : RackReception) (s : State) : State :=
  if s.cfg.caps[q] < s.buf.queueCells[q] + cellsFor r.frame.data.length then bumpReception .queueCap s
  else if s.receptionShort r then bumpReception .noRoom s
  else
    match s.freeHandle? with
    | some h => appendFrame h action q r.frame.data s
    | none => bumpReception .noRoom s

/-- Stage 5: the segment map is read once, at this moment (R78). -/
def classify (r : RackReception) (s : State) : State :=
  match SegMap.read s.segMap (segmentNumber s.cfg.defaultSegment r.frame.data) with
  | .drop => bumpReception .segDrop s
  | .encrypt a q => roomTest (.encrypt a) q r s
  | .clear q => roomTest .clear q r s

/-- The frame's FCS is right (R91). -/
def fcsRight (f : WireFrame) : Bool := f.fcs == ethernetFcs f.data

/-- How many of the cells now free, the ones released last, a reception left alone: it writes the cells free before its first
byte, and of those released while it lasted only as many as it needed beyond them, the earliest released first. Those released
after it ran short are not among them (R94, log 7). -/
def State.cellsLeftAlone (s : State) (r : RackReception) : Nat :=
  s.buf.freeCells - max (s.cellsWritten r) s.rackRx.leastFree

/-- What free cells hold when some of them are taken out, beyond those released last. -/
def takeCells (skip n : Nat) (leftover : List (List Byte)) : List (List Byte) :=
  leftover.take skip ++ leftover.drop (skip + n)

/-- The bytes of an arriving frame are written into free cells, over what those cells held, as far as there were cells to
write (R90, R94, log 7). -/
def storeBytes (r : RackReception) (s : State) : State :=
  { s with buf := { s.buf with
      leftover := (inCells (storedBytes r)).take (s.cellsWritten r) ++
        takeCells (s.cellsLeftAlone r) (s.cellsWritten r) s.buf.leftover } }

/-- A reception on the rack port has completed: the next one begins after it, with F as it then stands (R94, R105). -/
def rackReceptionEnds (s : State) : State :=
  { s with rackRx := { cameUp := false, zeroizeBegan := false, leastFree := s.buf.freeCells } }

/-- A reception on the campus port has completed: the next one begins after it, with the FIFO as it then stands. -/
def campusReceptionEnds (s : State) : State :=
  { s with campusRx := { cameUp := false, mostHeld := s.fifoBytes } }

/-- The stages of a reception completed in SETTLING or RUNNING (R91). -/
def receiveStages (r : RackReception) (s : State) : State :=
  let data := r.frame.data
  if fcsRight r.frame = false then bumpReception .fcs s
  else if data.length < 60 then bumpReception .runt s
  else if 9212 < data.length then bumpReception .giant s
  else if isLinkControl data then takeLinkControl data s
  else if isCommandFrame s.cfg data then divertCommand data s
  else classify r s

/-- A frame that passes stages 1 and 2 of R91 and holds the link control type (R92). -/
def wholeLinkControl (f : WireFrame) : Bool :=
  fcsRight f && decide (60 ≤ f.data.length ∧ f.data.length ≤ 9212) && isLinkControl f.data

/-- The frame is one that ZEROIZING and ZEROIZED consume: a link control frame in ZEROIZING (R105, R195), a link pause frame
alone in ZEROIZED (R200, log 17). -/
def State.consumesInert (s : State) (f : WireFrame) : Bool :=
  wholeLinkControl f && (s.device == .zeroizing || linkOperation f.data == 1)

/-- In ZEROIZING and ZEROIZED a frame that is not consumed as link control is discarded as INERT, and so is one whose
reception was in progress when the device entered ZEROIZING (R105, R195, R200, log 8). -/
def receiveInert (r : RackReception) (s : State) : State :=
  if (r.begunBeforeZeroize && s.rackRx.zeroizeBegan) = false ∧ s.consumesInert r.frame = true then
    takeLinkControl r.frame.data s
  else bumpReception .inert s

/-- What a whole reception comes to, by the device state (R105). -/
def receiveRack (r : RackReception) (s : State) : State :=
  if s.device.working then receiveStages r (storeBytes r s) else receiveInert r (storeBytes r s)

/-- RACK_FRAME_RECEIVED (R91, R105). A frame that was arriving while the port came up is ignored. -/
def execRackFrameReceived (r : RackReception) (s : State) : Host.Outcome State Fault Refusal :=
  .next (if s.device.portsUp then
    finishEvent s (rackReceptionEnds (if r.begunBeforeUp && s.rackRx.cameUp then s else receiveRack r s))
  else s)

/-! ## Reception on the campus port (R103, R104) -/

/-- An inbound frame did not fit: while it arrived the FIFO had no room for its next byte. The room only grows during a
reception, so a frame too long for the room at its end did not fit, one that had room from the start did, and between the
two it is told by `ranOut` (R104, log 8). -/
def State.inboundShort (s : State) (r : InboundReception) : Bool :=
  let size := r.frame.data.length + 4
  (r.ranOut && decide (32768 < s.campusRx.mostHeld + size)) || decide (32768 < s.fifoBytes + size)

/-- The checks of an inbound frame (R104), with link control consumed as R103 gives. -/
def receiveInbound (r : InboundReception) (s : State) : State :=
  let data := r.frame.data
  if fcsRight r.frame = false then bumpFrames .inboundFcs s
  else if data.length < 60 ∨ 9212 < data.length then bumpFrames .inboundLength s
  else if isLinkControl data then
    if linkOperation data = 1 then { s with campus := { s.campus with pauseTimer := linkPauseTime data } }
    else bumpFrames .inboundControl s
  else if s.inboundShort r then bumpFrames .inboundFull s
  else { s with campus := { s.campus with fifo := s.campus.fifo ++ [r.frame] } }

/-- INBOUND_FRAME_RECEIVED (R104, R105). A frame that was arriving while the port came up is ignored. -/
def execInboundFrameReceived (r : InboundReception) (s : State) : Host.Outcome State Fault Refusal :=
  .next (if s.device.portsUp then
    finishEvent s (campusReceptionEnds (if r.begunBeforeUp && s.campusRx.cameUp then s else receiveInbound r s))
  else s)

/-! ## Timers (R101 to R103, R178) -/

/-- RACK_PAUSE_TIMER_EXPIRY: the timer reaches 0 (R102, log 3). -/
def execRackPauseTimerExpiry (s : State) : Host.Outcome State Fault Refusal :=
  .next (if s.rack.pauseTimer = 0 then s else finishEvent s { s with rack := { s.rack with pauseTimer := 0 } })

/-- CAMPUS_PAUSE_TIMER_EXPIRY: the timer reaches 0 (R103, log 3). -/
def execCampusPauseTimerExpiry (s : State) : Host.Outcome State Fault Refusal :=
  .next (if s.campus.pauseTimer = 0 then s
    else finishEvent s { s with campus := { s.campus with pauseTimer := 0 } })

/-- PAUSE_REPEAT_TIMER_EXPIRY: the timer expires; while PAUSING a new pause request is made (R101). -/
def execPauseRepeatTimerExpiry (s : State) : Host.Outcome State Fault Refusal :=
  .next (match s.buf.repeatTimer with
    | some _ => finishEvent s { s with buf := { s.buf with
        repeatTimer := none, pauseRequest := s.buf.pauseRequest || s.buf.pausing } }
    | none => s)

/-- STATUS_FRAME_DUE: the oldest notice has reached an age of 100 µs, so a status frame is due and offered (R178). -/
def execStatusFrameDue (s : State) : Host.Outcome State Fault Refusal :=
  .next (if s.noticeAged then finishEvent s s else s)

/-! ## The end of a frame on the rack port (R106) -/

/-- A reply whose last byte is sent leaves the list; a command in WAITING then begins to execute (R157, R158). -/
def replySent (s : State) : State :=
  { s with
    status := { s.status with replies := s.status.replies.drop 1 },
    engine := { s.engine with state := if s.engine.state = .waiting then .executing else s.engine.state } }

/-- What the end of a frame of a kind does beside freeing the transmitter (R104, R158). -/
def rackFrameEnds (kind : RackFrameKind) (s : State) : State :=
  match kind with
  | .reply => replySent s
  | .inbound => { s with campus := { s.campus with fifo := s.campus.fifo.drop 1 } }
  | .pause => s
  | .status => s

/-- RACK_TRANSMIT_DONE (R106). -/
def execRackTransmitDone (s : State) : Host.Outcome State Fault Refusal :=
  .next (match s.rack.sending with
    | some (kind, _) => finishEvent s (rackFrameEnds kind { s with rack := { s.rack with sending := none } })
    | none => s)

end Sys2Proof.Machine
end

