-- ==== Sys2Proof/Machine/Dispatch.lean ====
section
/-! DEFINITION. One arm for each command of the table. -/

namespace Sys2Proof.Machine

def exec (i : Instr) (s : State) : Host.Outcome State Fault Refusal :=
  match i with
  | .deviceReset => Sys2Proof.Machine.execDeviceReset s
  | .loadingStart straps => Sys2Proof.Machine.execLoadingStart straps s
  | .imageReadDone memory => Sys2Proof.Machine.execImageReadDone memory s
  | .settleTimerExpiry => Sys2Proof.Machine.execSettleTimerExpiry s
  | .zeroizePinRequest => Sys2Proof.Machine.execZeroizePinRequest s
  | .zeroizeComplete => Sys2Proof.Machine.execZeroizeComplete s
  | .busAttemptStart idleBits => Sys2Proof.Machine.execBusAttemptStart idleBits s
  | .claim assoc sender epoch start count ending => Sys2Proof.Machine.execClaim assoc sender epoch start count ending s
  | .beacon assoc sender epoch hwm ending => Sys2Proof.Machine.execBeacon assoc sender epoch hwm ending s
  | .advance assoc sender epoch reason ending => Sys2Proof.Machine.execAdvance assoc sender epoch reason ending s
  | .join assoc sender ending => Sys2Proof.Machine.execJoin assoc sender ending s
  | .rackFrameReceived r => Sys2Proof.Machine.execRackFrameReceived r s
  | .inboundFrameReceived r => Sys2Proof.Machine.execInboundFrameReceived r s
  | .rackPauseTimerExpiry => Sys2Proof.Machine.execRackPauseTimerExpiry s
  | .campusPauseTimerExpiry => Sys2Proof.Machine.execCampusPauseTimerExpiry s
  | .pauseRepeatTimerExpiry => Sys2Proof.Machine.execPauseRepeatTimerExpiry s
  | .rackTransmitDone => Sys2Proof.Machine.execRackTransmitDone s
  | .statusFrameDue => Sys2Proof.Machine.execStatusFrameDue s
  | .dispatch => Sys2Proof.Machine.execDispatch s
  | .parkTimeout frame => Sys2Proof.Machine.execParkTimeout frame s
  | .keyTakeUp lane upset => Sys2Proof.Machine.execKeyTakeUp lane upset s
  | .laneFinish lane => Sys2Proof.Machine.execLaneFinish lane s
  | .clearPassDone lane => Sys2Proof.Machine.execClearPassDone lane s
  | .campusFrameSent => Sys2Proof.Machine.execCampusFrameSent s
  | .scanStep => Sys2Proof.Machine.execScanStep s
  | .commandFrameCheck => Sys2Proof.Machine.execCommandFrameCheck s
  | .unknownCommand => Sys2Proof.Machine.execUnknownCommand s
  | .installKey => Sys2Proof.Machine.execInstallKey s
  | .writeSegments => Sys2Proof.Machine.execWriteSegments s
  | .moveSegments => Sys2Proof.Machine.execMoveSegments s
  | .advanceEpoch => Sys2Proof.Machine.execAdvanceEpoch s
  | .retireSa => Sys2Proof.Machine.execRetireSa s
  | .flushSa => Sys2Proof.Machine.execFlushSa s
  | .quiesceQueue => Sys2Proof.Machine.execQuiesceQueue s
  | .resumeQueue => Sys2Proof.Machine.execResumeQueue s
  | .readStatus => Sys2Proof.Machine.execReadStatus s
  | .zeroize => Sys2Proof.Machine.execZeroize s

end Sys2Proof.Machine
end

