-- ==== Sys2Proof/Safety.lean ====
section
/-! DEFINITION. What a safe run is, in the terms the statements use: what the arbiters at the end of an event may
change, how a message or a command reaches this station, and the invariants of the part. -/

namespace Sys2Proof.Machine

/-! ## The end of an event -/

/-- A park list entry after the marks posted in an event are applied: released when a mark names its association and
class, else as it was (R125). -/
def ParkEntry.afterMarks (marks : List ReleaseMark) (e : ParkEntry) : ParkEntry :=
  if ∃ m ∈ marks, e.assoc = m.assoc ∧ e.cls = m.cls then { e with released := true } else e

/-- The rack transmitter begins a frame. -/
def RackSends (kind : RackFrameKind) (f : WireFrame) (u t : State) : Prop :=
  u.rack.sending = none ∧ t.rack = { u.rack with sending := some (kind, f), cutShort := false }

/-- The buffer manager's part of the rack transmitter's choice is as it was. -/
def SamePause (u t : State) : Prop :=
  t.buf.pauseRequest = u.buf.pauseRequest ∧ t.buf.repeatTimer = u.buf.repeatTimer

/-- The notices, the ZEROIZED notice held apart and the alert latch are as they were. -/
def SameNotices (u t : State) : Prop :=
  t.status.notices = u.status.notices ∧ t.status.heldZeroized = u.status.heldZeroized ∧ t.status.alert = u.status.alert

/-- The pause frame requested begins: with time T while PAUSING, which starts the repeat timer at T × 256 bit times, and with
time 0 otherwise; the request is removed (R101). -/
def PauseBegins (u t : State) : Prop :=
  RackSends .pause (withFcs (pauseFrame u.cfg (if u.buf.pausing then u.cfg.pauseTime else 0))) u t ∧
  u.buf.pauseRequest = true ∧ t.buf.pauseRequest = false ∧
  t.buf.repeatTimer = (if u.buf.pausing then some (u.cfg.pauseTime * 256) else u.buf.repeatTimer) ∧ SameNotices u t

/-- The oldest reply begins (R158, R179). -/
def ReplyBegins (u t : State) : Prop :=
  (∃ r rest, u.status.replies = r :: rest ∧ RackSends .reply (withFcs (replyFrame u.cfg r)) u t) ∧
  u.buf.pauseRequest = false ∧ SamePause u t ∧ SameNotices u t

/-- A status frame begins with the oldest notices, up to eight, which leave the queue; a ZEROIZED notice held apart joins behind
those left once the queue has room (R177, R179). -/
def StatusBegins (u t : State) : Prop :=
  RackSends .status (withFcs (statusFrame u.cfg.agentAddress u.cfg.ownAddress u.cfg.commandType (u.status.notices.take 8)))
    u t ∧
  u.buf.pauseRequest = false ∧ SamePause u t ∧
  let left := u.status.notices.drop 8
  if u.status.heldZeroized = true ∧ left.length < 32 then
    t.status.notices = left ++ [{ kind := .zeroized, detail := .none, assoc := 255, epoch := 0, value := 0, count := 1,
                                  time := u.time, alert := true }] ∧
    t.status.heldZeroized = false ∧ t.status.alert = true
  else t.status.notices = left ∧ t.status.heldZeroized = u.status.heldZeroized ∧ t.status.alert = u.status.alert

/-- The head of the inbound FIFO begins, unchanged (R106). -/
def InboundBegins (u t : State) : Prop :=
  (∃ f rest, u.campus.fifo = f :: rest ∧ RackSends .inbound f u t) ∧
  u.buf.pauseRequest = false ∧ SamePause u t ∧ SameNotices u t

/-- The campus transmitter begins the head of the completion list, which is FINISHED (R143). -/
def CampusBegins (u t : State) : Prop :=
  u.campus.sending = none ∧ u.campus.pauseTimer = 0 ∧ u.device.working = true ∧
  ∃ e rest d, u.lanes.completion = e :: rest ∧ e.finished = true ∧ u.frame? e.frame = some d ∧
    t.campus = { u.campus with sending := some (withFcs (outputBytes e d.data)), cutShort := false }

/-- `t` is `u` after the arbiters have acted: every field is that of `u` but what the campus transmitter (R143), the status
unit (R179) and the rack transmitter (R106) change when they begin or offer a frame, and the release marks are applied
(R116). -/
structure Settled (u t : State) : Prop where
  device : t.device = u.device
  time : t.time = u.time
  station : t.station = u.station
  readBuffer : t.readBuffer = u.readBuffer
  serial : t.serial = u.serial
  image : t.image = u.image
  zeroizeLatch : t.zeroizeLatch = u.zeroizeLatch
  assocs : t.assocs = u.assocs
  keys : t.keys = u.keys
  segMap : t.segMap = u.segMap
  bus : t.bus = u.bus
  pool : t.buf.pool = u.buf.pool
  freeCells : t.buf.freeCells = u.buf.freeCells
  queues : t.buf.queues = u.buf.queues
  queueCells : t.buf.queueCells = u.buf.queueCells
  pausing : t.buf.pausing = u.buf.pausing
  leftover : t.buf.leftover = u.buf.leftover
  park : t.disp.park = u.disp.park.map (ParkEntry.afterMarks u.disp.marks)
  parkedCells : t.disp.parkedCells = u.disp.parkedCells
  queueState : t.disp.queueState = u.disp.queueState
  marks : t.disp.marks = []
  lanes : t.lanes = u.lanes
  campus : t.campus = u.campus ∨ CampusBegins u t
  rack : (t.rack = u.rack ∧ SamePause u t ∧ SameNotices u t) ∨
    (u.device.portsUp = true ∧ (PauseBegins u t ∨ (u.rack.pauseTimer = 0 ∧
      (ReplyBegins u t ∨ StatusBegins u t ∨ InboundBegins u t))))
  rackRx : t.rackRx = u.rackRx
  campusRx : t.campusRx = u.campusRx
  engine : t.engine = u.engine
  replies : t.status.replies = u.status.replies
  offered : t.status.offered = u.status.offered ∨ u.status.offered = none ∨
    (u.status.offered = some .reply ∧ u.status.replies = []) ∨ ReplyBegins u t ∨ StatusBegins u t
  counters : t.counters = u.counters
  pending : t.pending = u.pending

/-! ## Messages and commands that reach this station -/

/-- The message is delivered to this station, which is not sending (R26, R27, R31, R32): it takes part, the CRC is right, no
station drives the error slot, and the ack slot is dominant (this station drives it itself unless it is quiet) or is not
needed. -/
def State.hears (s : State) (m : BusMessage) (e : BusEnding) : Prop :=
  s.takesPart e = true ∧ s.bus.onBus = none ∧ e.crc = m.crc ∧ e.peersErr = false ∧
    (s.bus.quiet = false ∨ e.peersAck = true ∨ m.content.kind ≠ .claim ∨ s.cfg.singleStation = true)

/-- This station's own message is delivered (R32, R33): it is read back as sent, no station drives the error slot, and
another acknowledges it or no acknowledgement is needed. -/
def State.delivers (s : State) (m : BusMessage) (withdrawn : Bool) (e : BusEnding) : Prop :=
  s.takesPart e = true ∧ s.bus.onBus = some { message := m, withdrawn := withdrawn } ∧ e.crc = m.crc ∧
    e.startRead = false ∧ e.peersErr = false ∧
    (e.peersAck = true ∨ m.content.kind ≠ .claim ∨ s.cfg.singleStation = true)

/-- The bus record after an own message delivered, whose entry leaves the list: the error count falls by one and the bus has been seen
idle; a back-off wait was spent when the message began (R33, R34, R38). -/
def Bus.sent (b : Bus) (kind : MsgKind) (a : Fin 64) : Bus :=
  { b with onBus := none, errorCount := b.errorCount - 1, idleSeen := true,
           txList := b.txList.filter (fun x => x != { kind := kind, assoc := a }) }

/-- The bus record after a message delivered to a station that is not quiet and not near the quiet limits: the error count
falls by one, the back-off wait is spent, the bus has been seen idle (R34, R38). -/
def Bus.heard (b : Bus) : Bus :=
  { b with errorCount := b.errorCount - 1, backoff := 0, idleSeen := true }

/-- A reception on the rack port has ended: its bytes stand in free cells, over what those held (R90, R94), and the next
reception begins after it. -/
def State.received (s : State) (r : RackReception) : State :=
  { s with
    buf := { s.buf with leftover := (storeBytes r s).buf.leftover },
    rackRx := { cameUp := false, zeroizeBegan := false, leastFree := s.buf.freeCells } }

/-- The head command frame, with the code asked for and the body length its code requires, is in EXECUTING (R153, R160). -/
def State.runs (s : State) (code : Byte) (data : List Byte) (rest : List (List Byte)) : Prop :=
  s.engine.state = .executing ∧ s.engine.input = data :: rest ∧ commandCode data = code ∧
    bodyLengthFits code.toNat (bodyLength data) (commandBody data) = true

/-- A command answered: its reply stands at the tail of the reply list, the head has left the command input list, and the
engine takes the next head or is IDLE (R153, R158). -/
def State.answered (s : State) (data : List Byte) (rest : List (List Byte)) (result : CommandResult) (value : Nat)
    (counters : List Nat) : State :=
  { s with
    engine := { s.engine with input := rest, state := if rest = [] then .idle else .checking },
    status := { s.status with replies := s.status.replies ++
      [{ tag := commandTag data, code := commandCode data, result := result, value := value, counters := counters }] } }

/-- A DISPATCH takes the head `h` of queue `q`, with descriptor `d`, and leaves `rest`: a dispatch may begin, no released park
entry stands in an ACTIVE queue, and `q` is the highest-numbered ACTIVE queue that is not empty (R108, R109). -/
def State.takesHead (s : State) (q : Fin 8) (h : Nat) (rest : List Nat) (d : Descriptor) : Prop :=
  s.mayDispatch = true ∧ (∀ e ∈ s.disp.park, e.released = true → s.disp.queueState[e.queue] ≠ .active) ∧
    s.disp.queueState[q] = .active ∧ s.buf.queues[q] = h :: rest ∧ s.frame? h = some d ∧
    ∀ p : Fin 8, q < p → s.disp.queueState[p] = .active → s.buf.queues[p] = []

/-- The range walk leaves no counter: no range is active, or each range of the reservation is stale (R9, R10). -/
def State.noCounter (s : State) (a : Fin 64) : Prop :=
  ∀ x ∈ (s.assoc a).active, x.next + s.span a ≤ (s.assoc a).front ∧
    ∀ y ∈ (s.assoc a).queued, y.start + s.span a ≤ (s.assoc a).front

/-- The record after a range walk that leaves no counter: each range is discarded and k falls at each; the queued one became
active with a = 0 before it (R6, R9). -/
def Assoc.walked (r : Assoc) : Assoc :=
  match r.active, r.queued with
  | none, _ => r
  | some _, none => { r with active := none, level := levelDown r.level }
  | some _, some _ => { r with active := none, queued := none, level := levelDown (levelDown r.level), acc := 0 }

/-- The counters such a walk discards as STALE (R9). -/
def Assoc.walkDiscards (r : Assoc) : Nat :=
  match r.active, r.queued with
  | none, _ => 0
  | some x, none => x.stop + 1 - x.next
  | some x, some y => (x.stop + 1 - x.next) + (y.stop + 1 - y.start)

/-- The release marks such a walk posts: STARVED, when the queued range became active (R6). -/
def State.walkMarks (s : State) (a : Fin 64) : List ReleaseMark :=
  if (s.assoc a).active.isSome ∧ (s.assoc a).queued.isSome then [{ assoc := a, cls := .starved }] else []

/-- A record as retirement leaves it: the epoch, the level and the rekey flag kept (R2, R25, R70), the settle view absent (log
12). -/
def Assoc.whenRetired (r : Assoc) : Assoc :=
  { r with state := .retired, hwm := none, assigned := 0, acc := 0, active := none, queued := none, pendingClaim := false,
           pendingAdvance := none, settleView := none }

/-- What a frame finds requested when no counter is left; `r` is the record after the walk. Below λ: a claim, unless one is pending
or an advance is QUEUED (R10, R14). At λ: an advance with reason EXHAUSTED, unless one is pending, and at epoch 65535 retirement
(R10, R61, R70). -/
def RequestsCounters (s t : State) (a : Fin 64) (r : Assoc) : Prop :=
  ((s.assoc a).front < s.limit a →
    ((s.assoc a).pendingClaim = false → (s.assoc a).advanceQueued = false →
      t.assoc a = { r with pendingClaim := true } ∧ { kind := .claim, assoc := a } ∈ t.bus.txList) ∧
    ((s.assoc a).pendingClaim = true ∨ (s.assoc a).advanceQueued = true → t.assoc a = r ∧ t.bus = s.bus)) ∧
  (s.limit a ≤ (s.assoc a).front → (s.assoc a).epochOrZero ≠ 65535 →
    ((s.assoc a).pendingAdvance = none →
      t.assoc a = { r with
        pendingAdvance := some { target := (s.assoc a).epochOrZero + 1, reason := .exhausted,
                                 condition := if s.hasStandby a then .queued else .held } } ∧
      (s.hasStandby a = true → { kind := .advance, assoc := a } ∈ t.bus.txList)) ∧
    (∀ p, (s.assoc a).pendingAdvance = some p → t.assoc a = r ∧ t.bus = s.bus)) ∧
  (s.limit a ≤ (s.assoc a).front → (s.assoc a).epochOrZero = 65535 →
    t.assoc a = r.whenRetired ∧ ∀ j : Fin 4, (t.slots a)[j].role ≠ .standby ∧ (t.slots a)[j].role ≠ .pending)

/-- The counters left in the reservation once the next one is assigned, when no range is then queued (R11, R13). -/
def Assoc.leftAfterNext (r : Assoc) : Nat :=
  match r.active, r.queued with
  | none, _ => 0
  | some x, none => x.stop - x.next
  | some x, some y => if x.next < x.stop then x.stop - x.next else y.stop + 1 - y.start

/-- The prefetch test after an assignment that leaves `left` counters: with no range queued, floor(s_k/4) or fewer left with the k it
leaves, no claim pending and no advance QUEUED, a claim is requested below λ, and at λ an advance with reason EXHAUSTED, unless one is
pending; otherwise neither changes (R13, R14, R61). -/
def Prefetches (s t : State) (a : Fin 64) (left : Nat) : Prop :=
  let asks := (t.assoc a).queued = none ∧ left ≤ s.cfg.ladder[(t.assoc a).level] / 4 ∧
    (s.assoc a).pendingClaim = false ∧ (s.assoc a).advanceQueued = false
  let claims := asks ∧ (s.assoc a).front < s.limit a
  let advances := asks ∧ s.limit a ≤ (s.assoc a).front ∧ (s.assoc a).pendingAdvance = none
  (claims → (t.assoc a).pendingClaim = true ∧ { kind := .claim, assoc := a } ∈ t.bus.txList) ∧
  (¬ claims → (t.assoc a).pendingClaim = (s.assoc a).pendingClaim) ∧
  (advances → (t.assoc a).pendingAdvance = some
      { target := (s.assoc a).epochOrZero + 1, reason := .exhausted,
        condition := if s.hasStandby a then .queued else .held } ∧
    (s.hasStandby a = true → { kind := .advance, assoc := a } ∈ t.bus.txList)) ∧
  (¬ advances → (t.assoc a).pendingAdvance = (s.assoc a).pendingAdvance)

/-! ## Notices -/

/-- A notice without alert about an association and an epoch, queued now: KEY-PLACED, KEY-DISCARDED or KEY-WANTED (R175). -/
def State.keyNotice (s : State) (kind : NoticeKind) (detail : NoticeDetail) (a : Fin 64) (epoch : Nat) : Notice :=
  { kind := kind, detail := detail, assoc := a.val, epoch := epoch, value := 0, count := 1, time := s.time, alert := false }

/-- The notice of a queue that became QUIESCED, queued now (R148). -/
def State.quiescedNotice (s : State) (q : Fin 8) : Notice :=
  { kind := .queueQuiesced, detail := .none, assoc := 255, epoch := 0, value := q.val, count := 1, time := s.time,
    alert := false }

/-- The notice of an advance applied, or of a retirement at epoch 65535, queued now (R69, R70, R175). -/
def State.advancedNotice (s : State) (reason : AdvanceReason) (a : Fin 64) (epoch initiator : Nat) (alert : Bool) : Notice :=
  { kind := .advanced, detail := .reason reason, assoc := a.val, epoch := epoch, value := initiator, count := 1,
    time := s.time, alert := alert }

/-- The event took no notice out of the queue and lost none: the device takes notices (R183), the rack transmitter is sending, and
the queue was never full (R177). -/
def NoticesKept (s t : State) : Prop :=
  s.device.erased = false ∧ s.rack.sending.isSome = true ∧ t.status.notices.length < 32

/-- The queued notices that name an association (255: none), in their order, but for EXCEPTION ones, which merge (R176). -/
def State.noticesOf (s : State) (a : Nat) : List Notice :=
  s.status.notices.filter (fun n => n.assoc == a && n.kind != .exception)

/-- The event queued exactly the notices `l` of those that name an association, in this order. -/
def Notified (s t : State) (a : Nat) (l : List Notice) : Prop :=
  NoticesKept s t → t.noticesOf a = s.noticesOf a ++ l

/-- KEY-DISCARDED for each slot of an association that meets a test, in slot order (R175, log 13). -/
def State.discardNotices (s : State) (a : Fin 64) (p : KeySlot → Bool) : List Notice :=
  (List.finRange 4).filterMap (fun j =>
    if p (s.slots a)[j] then some (s.keyNotice .keyDiscarded .none a (s.slots a)[j].epoch) else none)

/-- KEY-PLACED for each PENDING key that a placement in epoch `e` makes CURRENT or STANDBY, in slot order (R54, R56, log 13). -/
def State.placementNotices (s : State) (a : Fin 64) (e : Nat) : List Notice :=
  (List.finRange 4).filterMap (fun j =>
    let k := (s.slots a)[j]
    if k.role = .pending ∧ k.epoch = e then some (s.keyNotice .keyPlaced (.role .current) a e)
    else if k.role = .pending ∧ k.epoch = e + 1 then some (s.keyNotice .keyPlaced (.role .standby) a (e + 1))
    else none)

/-- A PENDING key that a placement in epoch `e` wipes (R54, R55). -/
def KeySlot.misplaced (e : Nat) (k : KeySlot) : Bool := k.role == .pending && k.epoch != e && k.epoch != e + 1

/-! ## Exceptions reported -/

/-- The EXCEPTION notice of a class, queued now: the association's current epoch, or 255 and epoch 0 for a clear frame, with alert
as the class's alert setting says, and always for KEY-CHECK (R117, R121, R175). -/
def State.exceptionNotice (s : State) (c : ExcClass) (a : Option (Fin 64)) (value : Nat) : Notice :=
  { kind := .exception, detail := .cls c, assoc := (a.map (·.val)).getD 255,
    epoch := (a.map (fun x => (s.assoc x).epochOrZero)).getD 0, value := value, count := 1, time := s.time,
    alert := decide (c = .keyCheck) || s.cfg.settings[c.index].alert }

/-- What the report of an exception hands over: one notice when the class's notify setting is yes, which its alert setting implies,
and always for DOUBLE and KEY-CHECK; else none (R117, R119, R121, R124). -/
def State.reportOf (s : State) (c : ExcClass) (a : Option (Fin 64)) (value : Nat) : List Notice :=
  if c = .double ∨ c = .keyCheck ∨ s.cfg.settings[c.index].notify = true ∨ s.cfg.settings[c.index].alert = true then
    [s.exceptionNotice c a value]
  else []

/-- A queued EXCEPTION notice of the same class and association, into which `n` merges (R176). -/
def Notice.sameException (n x : Notice) : Bool := x.kind == .exception && x.detail == n.detail && x.assoc == n.assoc

/-- The queued EXCEPTION notices after one more: it merges into the first of its class and association, whose count grows, at most to
65535, and whose alert it sets, value, epoch and time staying; else it joins at the tail (R176). -/
def afterException (l : List Notice) (n : Notice) : List Notice :=
  match l.findIdx? n.sameException with
  | some i => l.modify i (fun x => { x with count := min (x.count + n.count) 65535, alert := x.alert || n.alert })
  | none => l ++ [n]

/-- The queued EXCEPTION notices, in their order. -/
def State.exceptions (s : State) : List Notice := s.status.notices.filter (fun n => n.kind == .exception)

/-- The event reported exactly the exceptions `l`, in this order. One with alert drives ALERT_N low; one that finds the queue full of
others is lost, which is counted and drives ALERT_N low whatever its alert setting (R121, R124, R176, R177, R180). -/
def Reported (s t : State) (l : List Notice) : Prop :=
  (NoticesKept s t → t.exceptions = l.foldl afterException s.exceptions) ∧
  (s.device.erased = false → ∀ n ∈ l, n.alert = true → t.status.alert = true) ∧
  (s.device.erased = false → 32 ≤ s.status.notices.length →
    ∀ n ∈ l, (∀ x ∈ s.status.notices, n.sameException x = false) →
      t.status.alert = true ∧
      min (s.counters.frames[FrameCount.noticesLost.index] + 1) (2 ^ 48 - 1) ≤
        t.counters.frames[FrameCount.noticesLost.index])

/-- The STALE-DISCARD traps of a walk that leaves no counter, one for each range, with the counters discarded (R9, R120, R121). -/
def State.walkReports (s : State) (a : Fin 64) : List Notice :=
  ((s.assoc a).active.map (fun x => s.reportOf .staleDiscard (some a) (x.stop + 1 - x.next) ++
    ((s.assoc a).queued.map (fun y => s.reportOf .staleDiscard (some a) (y.stop + 1 - y.start))).getD [])).getD []

/-! ## Parked frames released -/

/-- The fault classes, which a retirement releases (R70, R125). -/
def ExcClass.isFault (c : ExcClass) : Bool :=
  c == .settling || c == .noKey || c == .blind || c == .exhausted || c == .starved

/-- An entry after the marks of an event that posted those of the associations and classes `frees` names, behind `marks` (R125). -/
def ParkEntry.afterEvent (marks : List ReleaseMark) (frees : Fin 64 → ExcClass → Bool) (e : ParkEntry) : ParkEntry :=
  if frees e.assoc e.cls then { e with released := true } else e.afterMarks marks

/-- The event took no entry from the park list and put none on it, and released those of the associations and classes `frees` names;
every other is as before, but for marks that stood already (R116, R125). -/
def Releases (s t : State) (frees : Fin 64 → ExcClass → Bool) : Prop :=
  t.disp.park = s.disp.park.map (ParkEntry.afterEvent s.disp.marks frees)

/-- A counter of the reservation not yet assigned (R1). -/
def Assoc.reserves (r : Assoc) (n : Nat) : Prop :=
  (∃ x, r.active = some x ∧ x.next ≤ n ∧ n ≤ x.stop) ∨ (∃ x, r.queued = some x ∧ x.start ≤ n ∧ n ≤ x.stop)

/-! ## Invariants -/

/-- The segment map is in its canonical form (R75, R76). -/
def SegMapKept (s : State) : Prop := SegMap.wf s.segMap

/-- The cells a table of descriptors holds. -/
def poolCells (pool : List (Nat × Descriptor)) : Nat := (pool.map (fun p => p.2.cells)).sum

/-- The 2048 cells are the free ones and those of the stored frames, each frame under one handle (R88, R89, R90). -/
def CellsBalance (s : State) : Prop :=
  tableSorted s.buf.pool ∧ s.buf.freeCells + poolCells s.buf.pool = 2048

/-- While the device is neither SETTLING nor RUNNING it holds no key material, no egress frame, no command and no bus
message: every association is DORMANT, every slot is EMPTY, the key copies and the unwrap store are zeros, the lanes are
IDLE and every list is empty (R186, R189, R196, R197, R198, R200). -/
def HoldsNothing (s : State) : Prop :=
  (∀ a : Fin 64, (s.assoc a).state = .dormant) ∧
  (∀ r : SlotRef, s.slot r = KeySlot.wiped) ∧
  s.engine.commandKey = 0 ∧ s.engine.wrapKey = 0 ∧ s.engine.unwrapStore = 0 ∧
  s.engine.state = .idle ∧ s.engine.input = [] ∧ s.engine.scan = none ∧ s.engine.written = 0 ∧
  (∀ l : Fin 4, s.lane l = .idle) ∧ s.lanes.completion = [] ∧ s.campus.sending = none ∧
  s.buf.pool = [] ∧ (∀ q : Fin 8, s.buf.queues[q] = []) ∧ s.disp.park = [] ∧
  s.bus.txList = [] ∧ s.bus.onBus = none ∧ s.bus.settleTimer = none

/-- Whenever the device is neither SETTLING nor RUNNING it holds nothing. -/
def ErasedOutsideWork (s : State) : Prop := s.device.working = false → HoldsNothing s

/-- The lists keep within their sizes: 32 notices (R176), 4 replies (R158), 4 command frames (R93), 64 park entries (R122),
16 completion entries (R142). The transmit list stands in rank order without repeats, JOIN under association 0 (R35, R36). The
engine is IDLE exactly when it holds no frame (R153), a command that is executing has a free reply entry unless it is a decoded
ZEROIZE (R157), and one that has written entries is a WRITE-SEGMENTS with entries left to write (R81, R164). -/
def ListsBounded (s : State) : Prop :=
  s.status.notices.length ≤ 32 ∧ s.status.replies.length ≤ 4 ∧ s.engine.input.length ≤ 4 ∧
  s.disp.park.length ≤ 64 ∧ s.lanes.completion.length ≤ 16 ∧
  s.bus.txList.Pairwise (fun x y => x.rank < y.rank) ∧ (∀ e ∈ s.bus.txList, e.kind = .join → e.assoc = 0) ∧
  (s.engine.written ≠ 0 → ∃ data rest, s.runs 0x02 data rest ∧ s.engine.written < field (commandBody data) 2 2) ∧
  (s.engine.state = .idle ↔ s.engine.input = []) ∧
  (∀ data ∈ s.engine.input.head?, s.engine.state = .executing →
    isZeroizeFrame data = true ∨ s.status.replies.length < 4)

/-- The frames that stand in a queue, on the park list or on the completion list. -/
def State.placed (s : State) : List Nat :=
  (List.finRange 8).flatMap (fun q => s.buf.queues[q]) ++ s.disp.park.map (·.frame) ++ s.lanes.completion.map (·.frame)

/-- A lane's frame, of which `d` is the descriptor and `e` the completion entry: an ENCRYPT frame carries the slot it took at
dispatch, whose association it is of, and a CLEAR frame none (R115, R132). -/
def Lane.holds (x : Lane) (d : Descriptor) (e : CompletionEntry) : Prop :=
  e.finished = false ∧
    match x.slot? with
    | some r => d.action = .encrypt r.assoc ∧ d.assigned.map (·.slot) = some r
    | none => d.action = .clear

/-- Every stored frame stands in exactly one place, with the association and the queue of its descriptor: a queue, the park list
or the completion list (R98, R122, R142). Q is the cells of a queue's frames (R98), the parked cells are those of the parked
frames (R122), and a queue's in-flight count is the completion entries of its frames (R146). A completion entry is unfinished
exactly while one lane holds its frame (R132, R142), and the campus transmitter sends the head, which is FINISHED (R143). -/
def FramesAccounted (s : State) : Prop :=
  s.placed.Nodup ∧ (∀ h, h ∈ s.placed ↔ (s.frame? h).isSome) ∧
  (∀ (q : Fin 8) (h : Nat) (d : Descriptor), h ∈ s.buf.queues[q] → s.frame? h = some d →
    d.queue = q ∧ d.assigned = none) ∧
  (∀ (e : ParkEntry) (d : Descriptor), e ∈ s.disp.park → s.frame? e.frame = some d →
    d.action = .encrypt e.assoc ∧ d.queue = e.queue ∧ d.assigned = none) ∧
  (∀ (e : CompletionEntry) (d : Descriptor), e ∈ s.lanes.completion → s.frame? e.frame = some d →
    d.action = e.action ∧ d.queue = e.queue) ∧
  (∀ q : Fin 8, s.buf.queueCells[q] = s.cellsOf s.buf.queues[q]) ∧
  s.disp.parkedCells = s.cellsOf (s.disp.park.map (·.frame)) ∧
  (∀ q : Fin 8, s.lanes.inFlight[q] = s.lanes.completion.countP (fun e => e.queue == q)) ∧
  (∀ (l : Fin 4) (h : Nat), (s.lane l).frame? = some h →
    (∀ m : Fin 4, (s.lane m).frame? = some h → m = l) ∧
    ∃ e ∈ s.lanes.completion, e.frame = h ∧ ∀ d, s.frame? h = some d → (s.lane l).holds d e) ∧
  (∀ e ∈ s.lanes.completion, e.finished = false → ∃ l : Fin 4, (s.lane l).frame? = some e.frame) ∧
  (∀ f, s.campus.sending = some f → ∃ e rest d, s.lanes.completion = e :: rest ∧ e.finished = true ∧
    s.frame? e.frame = some d ∧ f = withFcs (outputBytes e d.data))

/-- How many of an association's slots have a role. -/
def State.slotsOf (s : State) (a : Fin 64) (r : Role) : Nat := countSlots (s.slots a) (fun k => k.role == r)

/-- The keys an association holds in its state: PENDING ones only while SETTLING, at most two and of different epochs (R51, R57);
one CURRENT when LIVE, none when KEY-WAIT or RETIRED; at most one STANDBY and two RETIRING in an epoch (R66, R67); none when
DORMANT (R2, R59). -/
def State.keysFitState (s : State) (a : Fin 64) : Prop :=
  match (s.assoc a).state with
  | .dormant => ∀ j : Fin 4, (s.slots a)[j] = KeySlot.wiped
  | .settling =>
    s.slotsOf a .current = 0 ∧ s.slotsOf a .standby = 0 ∧ s.slotsOf a .retiring = 0 ∧ s.slotsOf a .pending ≤ 2 ∧
    ∀ i j : Fin 4, (s.slots a)[i].role = .pending → (s.slots a)[j].role = .pending →
      (s.slots a)[i].epoch = (s.slots a)[j].epoch → i = j
  | .live => s.slotsOf a .pending = 0 ∧ s.slotsOf a .current = 1 ∧ s.slotsOf a .standby ≤ 1 ∧ s.slotsOf a .retiring ≤ 2
  | .blind => s.slotsOf a .pending = 0 ∧ s.slotsOf a .current ≤ 1 ∧ s.slotsOf a .standby ≤ 1 ∧ s.slotsOf a .retiring ≤ 2
  | .keyWait => s.slotsOf a .pending = 0 ∧ s.slotsOf a .current = 0 ∧ s.slotsOf a .standby ≤ 1 ∧ s.slotsOf a .retiring ≤ 2
  | .retired => s.slotsOf a .pending = 0 ∧ s.slotsOf a .current = 0 ∧ s.slotsOf a .standby = 0 ∧ s.slotsOf a .retiring ≤ 2

/-- The use count of every slot is the number of frames in lanes that reference it (R53); a slot in use is CURRENT or RETIRING, a
RETIRING one is in use (R53, R66), and an EMPTY one holds zeros (R51). Every association holds the keys its state allows; an
undefined one is DORMANT (R72), a defined one is SETTLING or RETIRED while the device is SETTLING, and none is SETTLING once it is
RUNNING (R50). -/
def KeysAccounted (s : State) : Prop :=
  (∀ r : SlotRef, (s.slot r).uses = (s.lanesOfSlot r).length) ∧
  (∀ r : SlotRef, (s.slot r).uses ≠ 0 → (s.slot r).role = .current ∨ (s.slot r).role = .retiring) ∧
  (∀ r : SlotRef, (s.slot r).role = .retiring → (s.slot r).uses ≠ 0) ∧
  (∀ r : SlotRef, (s.slot r).role = .empty → s.slot r = KeySlot.wiped) ∧
  (∀ a : Fin 64, s.keysFitState a) ∧
  (∀ a : Fin 64, (s.assocDef a).defined = false → (s.assoc a).state = .dormant) ∧
  (∀ a : Fin 64, s.device = .settling → (s.assocDef a).defined = true →
    (s.assoc a).state = .settling ∨ (s.assoc a).state = .retired) ∧
  (∀ a : Fin 64, s.device = .running → (s.assoc a).state ≠ .settling)

/-- The form a record takes in its state (R2). -/
def Assoc.inForm (r : Assoc) : Prop :=
  match r.state with
  | .dormant | .settling =>
    r.epoch = none ∧ r.hwm = none ∧ r.assigned = 0 ∧ r.active = none ∧ r.queued = none ∧ r.pendingClaim = false ∧
      r.pendingAdvance = none
  | .live => r.epoch.isSome ∧ r.hwm.isSome ∧ (r.queued.isSome → r.active.isSome)
  | .blind =>
    r.epoch.isSome ∧ r.hwm = none ∧ r.assigned = 0 ∧ r.active = none ∧ r.queued = none ∧ r.pendingClaim = false
  | .keyWait => r.epoch.isSome ∧ r.hwm.isSome ∧ r.active = none ∧ r.queued = none ∧ r.pendingClaim = false
  | .retired =>
    r.hwm = none ∧ r.assigned = 0 ∧ r.active = none ∧ r.queued = none ∧ r.pendingClaim = false ∧
      r.pendingAdvance = none

/-- Every record has the form of its state (R2). -/
def RecordsInForm (s : State) : Prop := ∀ a : Fin 64, (s.assoc a).inForm

/-- The order of a record's counters (R4, R5): assigned counters, then the active range from its next counter, then the
queued range, all at or below h, which fits 48 bits. -/
def Assoc.ordered (r : Assoc) : Prop :=
  r.assigned ≤ r.front ∧ r.front ≤ max48 ∧
  (∀ x, r.active = some x → r.assigned < x.next ∧ x.next ≤ x.stop ∧ x.stop ≤ r.front) ∧
  (∀ y, r.queued = some y → y.start ≤ y.stop ∧ y.stop ≤ r.front ∧ ∃ x, r.active = some x ∧ x.stop < y.start) ∧
  (∀ v, r.settleView = some v → v.hwm ≤ max48)

/-- An own CLAIM on the bus that is not withdrawn is that of a pending claim of a LIVE association and starts behind its
front (R15, R19); a CLAIM entry belongs to a pending claim (R36, R37). -/
def State.claimsAhead (s : State) : Prop :=
  (∀ o, s.bus.onBus = some o → o.withdrawn = false → ∀ epoch start count, o.message.content = .claim epoch start count →
    (s.assoc o.message.target).state = .live ∧ (s.assoc o.message.target).pendingClaim = true ∧
    start = BitVec.ofNat 48 ((s.assoc o.message.target).front + 1)) ∧
  (∀ a, { kind := .claim, assoc := a } ∈ s.bus.txList → (s.assoc a).pendingClaim = true)

/-- Counters are taken in rising order: every record has the form of its state and its counters in order, and this
station's claims start behind the front. It is what keeps a counter from being assigned twice in an epoch (R5, R11). -/
def CountersOrdered (s : State) : Prop :=
  RecordsInForm s ∧ (∀ a : Fin 64, (s.assoc a).ordered) ∧ s.claimsAhead

end Sys2Proof.Machine
end

