-- ==== Sys2Proof/Certificates/Slice0/Obligations.lean ====
section
/-! DEFINITION. The statements for the provers, from the numbered rules of the spec. `Settled u t` (Safety.lean) says that
`t` is `u` after the arbiters at the end of an event have acted; with `u` written out it is the frame of a command. -/

open Sys2Proof Sys2Proof.Machine

/-! ## The machine -/

/-- One step runs the command at the front of the queue with the queue's rest. On an empty queue it is one microsecond: the time
counter counts, wrapping past 2^32 − 1, and is held at 0 while the part is held in reset (R185); that a step on an empty queue
is the clock is the model's choice (log 2). -/
def Obligations.StepRunsFrontCommand : Prop :=
  ∀ s : State,
    (∀ (c : Instr) (rest : List Instr), s.pending = c :: rest → step s = exec c { s with pending := rest }) ∧
    (s.pending = [] → s.device ≠ .heldInReset →
      step s = .next { s with time := BitVec.ofNat 32 ((s.time.toNat + 1) % 2 ^ 32) }) ∧
    (s.pending = [] → s.device = .heldInReset → step s = .next { s with time := 0 })

/-! ## Device reset and start-up -/

/-- DEVICE_RESET is taken in every state: every block takes its after-reset form, and a frame being sent on a port is cut
short (R184). The after-reset form: records and slots (R3, R51), map (R76), bus controller (R47), buffer manager, ports and
receivers (R107), dispatcher (R130), lanes (R150), engine (R153), status unit and counters (R182, R183), zeroize latch (R193),
time counter (R185). The model's choice: the station number 0, the empty read buffer, the free cells not written and the
cut-short marks (log 18), and that the queue of commands (log 1) and the count of free values drawn (log 15) stay. -/
def Obligations.DeviceResetTakesAfterResetForm : Prop :=
  (∀ s : State, exec .deviceReset s = .next
    { State.reset with
      campus := { sending := none, cutShort := s.campus.sending.isSome, pauseTimer := 0, fifo := [] },
      rack := { sending := none, cutShort := s.rack.sending.isSome, pauseTimer := 0 },
      freeIndex := s.freeIndex, pending := s.pending }) ∧
  let s := State.reset
  (∀ a : Fin 64, s.assoc a =
    { state := .dormant, epoch := none, hwm := none, assigned := 0, active := none, queued := none, level := 1, acc := 0,
      pendingClaim := false, pendingAdvance := none, rekeyRequested := false, settleView := none }) ∧
  (∀ r : SlotRef, s.slot r = { role := .empty, epoch := 0, key := 0, limit := 0, check := 0, uses := 0 }) ∧
  (∀ i, SegMap.read s.segMap i = .drop) ∧
  s.bus = { txList := [], errorCount := 0, quiet := false, noAck := 0, backoff := 0, settleTimer := none, idleSeen := false,
            onBus := none } ∧
  s.buf.pool = [] ∧ s.buf.freeCells = 2048 ∧ (∀ q : Fin 8, s.buf.queues[q] = [] ∧ s.buf.queueCells[q] = 0) ∧
  s.buf.pausing = false ∧ s.buf.pauseRequest = false ∧ s.buf.repeatTimer = none ∧ s.buf.leftover = [] ∧
  s.campus.sending = none ∧ s.campus.pauseTimer = 0 ∧ s.campus.fifo = [] ∧
  s.rack.sending = none ∧ s.rack.pauseTimer = 0 ∧
  s.rackRx = { cameUp := false, zeroizeBegan := false, leastFree := 2048 } ∧ s.campusRx = { cameUp := false, mostHeld := 0 } ∧
  s.disp.park = [] ∧ s.disp.parkedCells = 0 ∧ s.disp.marks = [] ∧ (∀ q : Fin 8, s.disp.queueState[q] = .active) ∧
  (∀ l : Fin 4, s.lane l = .idle) ∧ s.lanes.completion = [] ∧ (∀ q : Fin 8, s.lanes.inFlight[q] = 0) ∧
  s.engine.state = .idle ∧ s.engine.input = [] ∧ s.engine.commandKey = 0 ∧ s.engine.wrapKey = 0 ∧
  s.engine.unwrapStore = 0 ∧ s.engine.scan = none ∧ s.engine.written = 0 ∧
  s.status.notices = [] ∧ s.status.heldZeroized = false ∧ s.status.replies = [] ∧ s.status.offered = none ∧
  s.status.lastOffered = none ∧ s.status.alert = false ∧
  (∀ g, g ≤ 66 → ∀ n ∈ s.counters.group g, n = 0) ∧ s.zeroizeLatch = false ∧ s.image = none ∧ s.time = 0 ∧
  s.serial = none

/-- LOADING_START in a part held in reset reads the station number from the straps, wipes every key slot, selects the serial
memory and sends it the read command 03h with address 000000h, and enters LOADING; nothing else changes (R186, R190, R212). In
another state it does not occur (log 1). -/
def Obligations.LoadingStartReadsStraps : Prop :=
  ∀ (s : State) (straps : BitVec 3),
    (s.device = .heldInReset → ∃ t, exec (.loadingStart straps) s = .next t ∧
      t = { s with device := .loading, station := straps, readBuffer := [], serial := some [0x03, 0x00, 0x00, 0x00],
                   keys := t.keys } ∧
      ∀ r, t.slot r = KeySlot.wiped) ∧
    (s.device ≠ .heldInReset → exec (.loadingStart straps) s = .next s)

/-- IMAGE_READ_DONE with an invalid image halts the device with ALERT_N low: no field is handed to any block, and one
broadcast status frame begins, with the halt reason in its one notice; its source is the image's own address when checks 1 to
3 passed and that address is an individual one, else 0 (R187, R189). That the frame begins within the event (log 26), and that
the memory is deselected after a read that ended at its header (log 34), are the model's inferences. -/
def Obligations.InvalidImageHalts : Prop :=
  ∀ (s : State) (memory : List Byte) (reason : HaltReason),
    s.device = .loading → imageFault (serialRead memory) = some reason →
    ∃ t, exec (.imageReadDone memory) s = .next t ∧
      Settled { s with
        device := .halted, readBuffer := [], serial := none, status := { s.status with alert := true },
        rack := { s.rack with cutShort := false, sending := some (.status, withFcs (statusFrame (BitVec.allOnes 48)
          (if 4 ≤ reason.code ∧ ¬ (byteAt (serialRead memory) 8).getLsbD 0 then
            BitVec.ofNat 48 (field (serialRead memory) 8 6) else 0) 0
          [{ kind := .halted, detail := .none, assoc := 255, epoch := 0, value := reason.code, count := 1, time := s.time,
             alert := true }])) } } t

/-- IMAGE_READ_DONE with a valid image hands its fields to the blocks and enters SETTLING: the key copies are taken, the read
buffer is cleared, the serial memory is deselected, both ports come up, every defined association becomes SETTLING at its start
level with no settle view, undefined ones keep their state, the settle timer starts, a JOIN is requested and STARTED is queued.
The map reads at each index the entry of the last run of the image that covers it, and an index that no run covers keeps its
entry, DROP after a device reset (R50, R76, R105, R191, R212). -/
def Obligations.ValidImageEntersSettling : Prop :=
  ∀ (s : State) (memory : List Byte),
    s.device = .loading → imageFault (serialRead memory) = none →
    let bytes := serialRead memory
    let img := parseImage bytes
    ∃ t, exec (.imageReadDone memory) s = .next t ∧
      Settled (postNotice { kind := .started, detail := .none, assoc := 255, epoch := 0, value := s.station.toNat, count := 1,
                            time := 0, alert := false }
        { s with
          device := .settling, image := some img, readBuffer := [], serial := none, assocs := t.assocs, segMap := t.segMap,
          rackRx := { s.rackRx with cameUp := true }, campusRx := { s.campusRx with cameUp := true },
          engine := { s.engine with
            commandKey := BitVec.ofNat 256 (field bytes 1112 32), wrapKey := BitVec.ofNat 256 (field bytes 1144 32) },
          bus := { s.bus with idleSeen := false, settleTimer := some (field bytes 27 1), txList := t.bus.txList } }) t ∧
      (∀ e, e ∈ t.bus.txList ↔ e = { kind := .join, assoc := 0 } ∨ e ∈ s.bus.txList) ∧
      (∀ a : Fin 64, t.assoc a =
        if img.defs[a].defined then
          { s.assoc a with state := .settling, level := img.defs[a].startLevel, settleView := none }
        else { s.assoc a with level := 1, settleView := none }) ∧
      (SegMapKept s → SegMapKept t ∧ ∀ i, SegMap.read t.segMap i =
        match (parseRuns bytes).reverse.find? (fun r => decide (r.first ≤ i ∧ i < r.first + r.length)) with
        | some r => (img.entry? r.entry).getD .drop
        | none => SegMap.read s.segMap i)

/-- SETTLE_TIMER_EXPIRY runs placement on every association still SETTLING: with a settle view it takes that epoch and front, LIVE
with a CURRENT key and KEY-WAIT without; with no view and no key it becomes DORMANT; with no view, BLIND in the epoch of its lowest
key, which below 65535 requests an advance. In an association placed in epoch e each PENDING key of e is CURRENT, of e + 1 STANDBY,
and any other is wiped. Other associations keep record and slots, and the queues are untouched. On the park list the SETTLING
entries of every defined association are released, with the NO-KEY ones where a CURRENT was placed and those of all five classes
where the BLIND request at epoch 65535 retired it, and no other. Each wiped key is reported KEY-DISCARDED, a KEY-WAIT or HELD
advance KEY-WANTED, each key placed KEY-PLACED, in that order (log 13), and at the end SETTLED with the number of LIVE associations
(R46, R50, R54, R55, R56, R70, R125, R175, R192). -/
def Obligations.SettleExpiryPlacesKeys : Prop :=
  ∀ s : State, s.device = .settling → s.bus.settleTimer.isSome →
    ∃ t, exec .settleTimerExpiry s = .next t ∧
      t.device = .running ∧ t.bus.settleTimer = none ∧ { kind := .join, assoc := 0 } ∉ t.bus.txList ∧
      t.segMap = s.segMap ∧ t.image = s.image ∧ t.engine = s.engine ∧ t.buf.queues = s.buf.queues ∧
      t.disp.marks = [] ∧ t.pending = s.pending ∧
      Releases s t (fun b c =>
        (c == .settling && (s.assocDef b).defined) ||
        decide ((s.assoc b).state = .settling) &&
          match (s.assoc b).settleView, s.lowestPending b with
          | some v, _ =>
            c == .noKey && (s.slots b).any (fun k => k.role == .pending && k.epoch == v.epoch)
          | none, some f => c == .noKey || decide (f = 65535) && c.isFault
          | none, none => false) ∧
      (NoticesKept s t → t.status.notices.getLast? = some
        { kind := .settled, detail := .none, assoc := 255, epoch := 0,
          value := (List.finRange 64).countP (fun a => (t.assoc a).state == .live), count := 1, time := s.time,
          alert := false }) ∧
      ∀ a : Fin 64,
        ((s.assoc a).state ≠ .settling →
          t.assoc a = s.assoc a ∧ t.slots a = s.slots a ∧ Notified s t a.val []) ∧
        ((s.assoc a).state = .settling →
          match (s.assoc a).settleView, s.lowestPending a with
          | some v, _ =>
            t.assoc a = { s.assoc a with
              state := if ∃ j : Fin 4, (s.slots a)[j].role = .current ∨
                           ((s.slots a)[j].role = .pending ∧ (s.slots a)[j].epoch = v.epoch) then .live
                       else .keyWait,
              epoch := some v.epoch, hwm := some v.hwm, assigned := 0, acc := 0, active := none, queued := none,
              rekeyRequested := false, settleView := none } ∧
            Notified s t a.val (s.discardNotices a (KeySlot.misplaced v.epoch) ++
              (if (t.assoc a).state = .live then [] else [s.keyNotice .keyWanted .none a v.epoch]) ++
              s.placementNotices a v.epoch)
          | none, none => t.assoc a = { s.assoc a with state := .dormant } ∧ Notified s t a.val []
          | none, some f =>
            (t.assoc a).epoch = some f ∧ (t.assoc a).hwm = none ∧ (t.assoc a).active = none ∧
            (t.assoc a).queued = none ∧ (t.assoc a).settleView = none ∧
            (f ≠ 65535 → (t.assoc a).state = .blind ∧
              ((s.assoc a).pendingAdvance = none → (t.assoc a).pendingAdvance = some
                { target := f + 1, reason := .blind,
                  condition := if (slotWithRole (t.slots a) .standby).isSome then .queued else .held } ∧
                Notified s t a.val (s.discardNotices a (KeySlot.misplaced f) ++
                  (if (slotWithRole (t.slots a) .standby).isSome then []
                   else [s.keyNotice .keyWanted .none a (f + 1)]) ++
                  s.placementNotices a f)))) ∧
        (∀ e, (s.assoc a).state = .settling →
          ((s.assoc a).settleView.map (·.epoch) = some e ∨
            ((s.assoc a).settleView = none ∧ s.lowestPending a = some e ∧ e ≠ 65535)) →
          ∀ j : Fin 4, (t.slots a)[j] =
            let k := (s.slots a)[j]
            if k.role ≠ .pending then k
            else if k.epoch = e then { k with role := .current }
            else if k.epoch = e + 1 then { k with role := .standby }
            else KeySlot.wiped)

/-! ## Zeroization -/

/-- ZEROIZE_PIN_REQUEST with the latch clear, in LOADING, SETTLING or RUNNING: the latch and the alert latch are set, the device
is ZEROIZING and holds no key material, frame, command or bus message, every record has its DORMANT form with its ladder level
and accumulator kept, and F is 2048. The image, the map, the inbound FIFO, the replies, the counters, the dispatch states, the
bus counts and the pause timers are kept. Out of LOADING both ports come up and the serial memory is deselected (log 34). With
the latch set nothing changes, in HALTED only the latch is set, and in a part held in reset a request has no effect (R194 to
R198, R201). -/
def Obligations.ZeroizeRequestErases : Prop :=
  ∀ s : State,
    (s.zeroizeLatch = true → exec .zeroizePinRequest s = .next s) ∧
    (s.zeroizeLatch = false → s.device = .heldInReset → ∃ t, exec .zeroizePinRequest s = .next t ∧ Settled s t) ∧
    (s.zeroizeLatch = false → s.device = .halted →
      ∃ t, exec .zeroizePinRequest s = .next t ∧ Settled { s with zeroizeLatch := true } t) ∧
    (s.zeroizeLatch = false → s.device = .loading ∨ s.device = .settling ∨ s.device = .running →
    ∃ t, exec .zeroizePinRequest s = .next t ∧
      t.device = .zeroizing ∧ t.zeroizeLatch = true ∧ t.status.alert = true ∧ HoldsNothing t ∧ t.readBuffer = [] ∧
      t.serial = none ∧
      t.disp.parkedCells = 0 ∧ (∀ q : Fin 8, t.lanes.inFlight[q] = 0 ∧ t.buf.queueCells[q] = 0) ∧
      (CellsBalance s → t.buf.freeCells = 2048) ∧
      (∀ a, t.assoc a =
        { state := .dormant, epoch := none, hwm := none, assigned := 0, active := none, queued := none,
          level := (s.assoc a).level, acc := (s.assoc a).acc, pendingClaim := false, pendingAdvance := none,
          rekeyRequested := false, settleView := none }) ∧
      t.image = s.image ∧ t.segMap = s.segMap ∧ t.campus.fifo = s.campus.fifo ∧ t.status.replies = s.status.replies ∧
      t.counters = s.counters ∧ t.disp.queueState = s.disp.queueState ∧ t.bus.errorCount = s.bus.errorCount ∧
      t.bus.noAck = s.bus.noAck ∧ t.bus.quiet = s.bus.quiet ∧ t.campus.pauseTimer = s.campus.pauseTimer ∧
      t.rack.pauseTimer = s.rack.pauseTimer ∧ t.time = s.time ∧ t.station = s.station ∧ t.pending = s.pending ∧
      t.rackRx = (if s.device = .loading then { s.rackRx with cameUp := true }
                  else { s.rackRx with zeroizeBegan := true }) ∧
      t.campusRx = (if s.device = .loading then { s.campusRx with cameUp := true } else s.campusRx))

/-- ZEROIZE_COMPLETE: the device is ZEROIZED and the ZEROIZED notice joins the queue at its tail with alert, or is held apart
while 32 notices are queued, from where it joins as soon as a status frame has made room; nothing else changes (R199, R177). -/
def Obligations.ZeroizeCompleteReports : Prop :=
  ∀ s : State, s.device = .zeroizing →
    let notice : Notice := { kind := .zeroized, detail := .none, assoc := 255, epoch := 0, value := 0, count := 1,
                             time := s.time, alert := true }
    ∃ t, exec .zeroizeComplete s = .next t ∧
      (s.status.notices.length < 32 → Settled { s with device := .zeroized, status := { s.status with
        heldZeroized := false, alert := true, notices := s.status.notices ++ [notice] } } t) ∧
      (32 ≤ s.status.notices.length →
        Settled { s with device := .zeroized, status := { s.status with heldZeroized := true } } t ∧
        ((t.status.heldZeroized = true ∧ (s.rack.sending.isSome → t.status.notices = s.status.notices)) ∨
          (t.status.heldZeroized = false ∧ t.status.alert = true ∧
            t.status.notices = s.status.notices.drop 8 ++ [notice])))

/-! ## The coordination bus -/

/-- BUS_ATTEMPT_START sends the first entry of the transmit list when the station may begin: 16 bit times of idle and any
back-off wait owed have passed. A CLAIM covers h + 1 onward with n = min(s_k, floor((W − G)/2), λ − h) counters; an ADVANCE
carries its pending target and reason, a BEACON the epoch and h; the back-off wait is spent and the entry stays (R15, R16,
R34, R35). -/
def Obligations.AttemptSendsFirstEntry : Prop :=
  ∀ (s : State) (idleBits : Nat) (e : TxEntry) (rest : List TxEntry),
    s.device.working = true → s.bus.quiet = false → s.bus.onBus = none → s.bus.txList = e :: rest →
    16 + s.bus.backoff ≤ idleBits →
    ∀ content : MsgContent,
      ((e.kind = .claim ∧ (s.assoc e.assoc).front < s.limit e.assoc ∧
          content = .claim (BitVec.ofNat 16 (s.assoc e.assoc).epochOrZero)
            (BitVec.ofNat 48 ((s.assoc e.assoc).front + 1))
            (BitVec.ofNat 24 (min (min (s.cfg.ladder[(s.assoc e.assoc).level])
              (((s.assocDef e.assoc).window - (s.assocDef e.assoc).guard) / 2))
              (s.limit e.assoc - (s.assoc e.assoc).front)))) ∨
       (e.kind = .advance ∧ ∃ p, (s.assoc e.assoc).pendingAdvance = some p ∧
          content = .advance (BitVec.ofNat 16 p.target) (BitVec.ofNat 3 p.reason.code)) ∨
       (e.kind = .beacon ∧ (s.assoc e.assoc).state.frontKnown = true ∧
          content = .beacon (BitVec.ofNat 16 (s.assoc e.assoc).epochOrZero) (BitVec.ofNat 48 (s.assoc e.assoc).front)) ∨
       (e = { kind := .join, assoc := 0 } ∧ content = .join)) →
      ∃ t, exec (.busAttemptStart idleBits) s = .next t ∧
        Settled { s with bus := { s.bus with
          onBus := some { message := { assoc := BitVec.ofFin e.assoc, sender := s.station, content := content },
                          withdrawn := false },
          backoff := 0, idleSeen := true } } t

/-- At an attempt with h ≥ λ no CLAIM is sent: the pending claim leaves the record and the transmit list, and with a STANDBY
and no advance pending below epoch 65535 an ADVANCE with reason EXHAUSTED is queued (R16, R61). -/
def Obligations.ExhaustedClaimIsNotSent : Prop :=
  ∀ (s : State) (idleBits : Nat) (a : Fin 64) (rest : List TxEntry),
    s.device.working = true → s.bus.quiet = false → s.bus.onBus = none →
    s.bus.txList = { kind := .claim, assoc := a } :: rest → 16 + s.bus.backoff ≤ idleBits →
    s.limit a ≤ (s.assoc a).front →
    ∃ t, exec (.busAttemptStart idleBits) s = .next t ∧
      (t.assoc a).pendingClaim = false ∧ { kind := .claim, assoc := a } ∉ t.bus.txList ∧
      (∀ o, t.bus.onBus = some o → o.message.content.kind = .claim → o.message.target ≠ a) ∧
      (((s.assoc a).state = .live ∧ (s.assoc a).epochOrZero < 65535 ∧ (s.assoc a).pendingAdvance = none ∧
          s.hasStandby a = true) →
        { kind := .advance, assoc := a } ∈ t.bus.txList ∧
        (t.assoc a).pendingAdvance =
          some { target := (s.assoc a).epochOrZero + 1, reason := .exhausted, condition := .queued })

/-- A delivered peer CLAIM [p, q], with nothing changed but what is said and what every delivered message changes on the bus. Of
the current epoch of an association that is LIVE, with a reservation it does not meet, or KEY-WAIT, and whose assigned counters
lie below p, it raises h to the larger of h and q and the accumulator by its count. At a RETIRED association, or of the current
epoch of a BLIND one, it changes nothing. Below the current epoch of a LIVE, KEY-WAIT or BLIND one it counts as a late message
(R20, R21, R22, R38, R41, R48). -/
def Obligations.PeerClaimRaisesFront : Prop :=
  ∀ (s : State) (assoc : BitVec 6) (sender : BitVec 3) (epoch : BitVec 16) (start : BitVec 48) (count : BitVec 24)
      (e : BusEnding),
    let m : BusMessage := { assoc := assoc, sender := sender, content := .claim epoch start count }
    let a := m.target
    let q := start.toNat + count.toNat - 1
    s.hears m e → s.bus.quiet = false → s.bus.errorCount < 128 → (s.assocDef a).defined = true → m.content.valid = true →
    ∃ t, exec (.claim assoc sender epoch start count e) s = .next t ∧
      (((s.assoc a).state = .live ∧ ∀ n, (s.assoc a).reserves n → n < start.toNat ∨ q < n) ∨ (s.assoc a).state = .keyWait →
        (s.assoc a).epoch = some epoch.toNat → (s.assoc a).assigned < start.toNat →
        Settled { s with bus := s.bus.heard, assocs := s.assocs.set a { s.assoc a with
          hwm := some (max (s.assoc a).front q),
          acc := min ((s.assoc a).acc + count.toNat) (2 ^ 48 - 1) } } t) ∧
      ((s.assoc a).state = .retired ∨ ((s.assoc a).state = .blind ∧ (s.assoc a).epoch = some epoch.toNat) →
        Settled { s with bus := s.bus.heard } t) ∧
      ((s.assoc a).state.inEpoch = true → epoch.toNat < (s.assoc a).epochOrZero →
        Settled { s with bus := s.bus.heard, counters := { s.counters with
          bus := s.counters.bus.set BusCount.lateMessages.index
            (min (s.counters.bus[BusCount.lateMessages.index] + 1) (2 ^ 48 - 1)) } } t)

/-- After a delivered peer CLAIM [p, q] of the current epoch, no counter of [p, q] is left in the reservation of a LIVE
association, and the reservation gains none. Unless the association is retired by R22 at epoch 65535, what stays is the first two
of the pieces outside [p, q] that the counters not yet assigned leave, in ascending order. Where [p, q] meets any of them, the
first piece is the active range and the second the queued one, all counters lost are counted as discarded under OVERLAP, and a,
grown by the claim's count, stays when the first piece begins at the next counter or none is left, and is 0 when another piece has
become active, which releases the STARVED entries on the park list; the trap CLAIM-OVERLAP is reported with the counters discarded,
as the class's settings say. Where it meets none, nothing is counted and nothing reported. No other park entry is released, but all
five classes where R22 retires the association (R6, R7, R20, R21, R22, R70, R120, R121, R125). -/
def Obligations.PeerClaimLeavesNoOverlap : Prop :=
  ∀ (s : State) (assoc : BitVec 6) (sender : BitVec 3) (epoch : BitVec 16) (start : BitVec 48) (count : BitVec 24)
      (e : BusEnding),
    let m : BusMessage := { assoc := assoc, sender := sender, content := .claim epoch start count }
    let a := m.target
    s.hears m e → (s.assocDef a).defined = true → m.content.valid = true →
    (s.assoc a).state = .live → (s.assoc a).epoch = some epoch.toNat →
    let q := start.toNat + count.toNat - 1
    let ranges := ((s.assoc a).active.map (fun x => (x.next, x.stop))).toList ++
      ((s.assoc a).queued.map (fun y => (y.start, y.stop))).toList
    let pieces := ranges.flatMap (fun r =>
      [(r.1, min r.2 (start.toNat - 1)), (max r.1 (q + 1), r.2)].filter (fun x => decide (x.1 ≤ x.2)))
    let size := fun (l : List (Nat × Nat)) => (l.map (fun x => x.2 + 1 - x.1)).sum
    let grown := min ((s.assoc a).acc + count.toNat) (2 ^ 48 - 1)
    ∃ t, exec (.claim assoc sender epoch start count e) s = .next t ∧
      (∀ n, (t.assoc a).reserves n → (s.assoc a).reserves n ∧ ¬ (start.toNat ≤ n ∧ n ≤ q)) ∧
      Reported s t (if size pieces = size ranges then []
        else s.reportOf .claimOverlap (some a) (size ranges - size (pieces.take 2))) ∧
      Releases s t (fun b c => b == a &&
        (c == .starved && decide (size pieces ≠ size ranges ∧ pieces ≠ [] ∧
          (s.assoc a).active.map (·.next) ≠ pieces.head?.map (·.1)) ||
         c.isFault && decide (start.toNat ≤ (s.assoc a).assigned ∧ epoch.toNat = 65535))) ∧
      ((s.assoc a).assigned < start.toNat ∨ epoch.toNat < 65535 →
        (∀ n, (t.assoc a).reserves n ↔ ∃ x ∈ pieces.take 2, x.1 ≤ n ∧ n ≤ x.2) ∧
        (t.assoc a).level = (s.assoc a).level ∧
        (size pieces = size ranges → (t.assoc a).acc = grown ∧
          (t.assoc a).active = (s.assoc a).active ∧ (t.assoc a).queued = (s.assoc a).queued ∧
          (t.counters.assoc[a])[AssocCount.discardOverlap.index] = (s.counters.assoc[a])[AssocCount.discardOverlap.index]) ∧
        (size pieces ≠ size ranges →
          (t.assoc a).active = pieces[0]?.map (fun p =>
            { start := match (s.assoc a).active with | some x => if x.next = p.1 then x.start else p.1 | none => p.1,
              stop := p.2, next := p.1 }) ∧
          (t.assoc a).queued = pieces[1]?.map (fun p => { start := p.1, stop := p.2 }) ∧
          (t.assoc a).acc =
            (if pieces = [] ∨ (s.assoc a).active.map (·.next) = pieces.head?.map (·.1) then grown else 0) ∧
          (t.counters.assoc[a])[AssocCount.discardOverlap.index] =
            min ((s.counters.assoc[a])[AssocCount.discardOverlap.index] + (size ranges - size (pieces.take 2)))
              (2 ^ 48 - 1)))

/-- A delivered peer CLAIM that starts at or below a counter already assigned in the epoch requests an advance with reason
OVERLAP, in LIVE and in KEY-WAIT; with none pending below epoch 65535 it is created, QUEUED with a STANDBY and HELD, with
KEY-WANTED for the next epoch, without (R175, R22, R61). -/
def Obligations.OverlapRequestsAdvance : Prop :=
  ∀ (s : State) (assoc : BitVec 6) (sender : BitVec 3) (epoch : BitVec 16) (start : BitVec 48) (count : BitVec 24)
      (e : BusEnding),
    let m : BusMessage := { assoc := assoc, sender := sender, content := .claim epoch start count }
    let a := m.target
    s.hears m e → (s.assocDef a).defined = true → m.content.valid = true →
    (s.assoc a).state = .live ∨ (s.assoc a).state = .keyWait → (s.assoc a).epoch = some epoch.toNat →
    start.toNat ≤ (s.assoc a).assigned → epoch.toNat < 65535 → (s.assoc a).pendingAdvance = none →
    ∃ t, exec (.claim assoc sender epoch start count e) s = .next t ∧
      (t.assoc a).pendingAdvance = some
        { target := epoch.toNat + 1, reason := .overlap,
          condition := if s.hasStandby a then .queued else .held } ∧
      (s.hasStandby a = true → { kind := .advance, assoc := a } ∈ t.bus.txList) ∧
      Notified s t a.val (if s.hasStandby a then [] else [s.keyNotice .keyWanted .none a (epoch.toNat + 1)]) ∧
      (t.assoc a).hwm = some (max (s.assoc a).front (start.toNat + count.toNat - 1))

/-- This station's own CLAIM [p, q] delivered to a LIVE association in its epoch: the pending claim and its entry leave, h is
raised, the range joins the reservation (active with a = 0 when it was empty, else queued), a claim won is counted and the no-ack
count is 0; with a range already queued, that one is discarded under OVERLAP and reported as CLAIM-OVERLAP, the model's choice (log
30). A range that becomes active releases the STARVED park entries. The rekey-point test then: below λ − M, or with the rekey flag
already set, nothing more changes in the record; else the flag is set, REKEY-POINT is reported with q, behind that CLAIM-OVERLAP
(log 13), and an advance with reason REKEY is requested, which merges into one pending, is created HELD or QUEUED, or at epoch
65535 retires the association, whose park entries are then released (R5, R17, R18, R33, R40, R61, R70, R120, R121, R125), its
settle view then absent (log 12). Delivered late, it wins nothing: at a KEY-WAIT association in its epoch it raises h alone, as it
does, the model's choice (log 11), at one LIVE again after its pending claim was cancelled; at a RETIRED one it changes no record;
below the current epoch it counts as a late message. A withdrawn message takes no entry with it (R19, R41, log 11). -/
def Obligations.OwnClaimIsWon : Prop :=
  (∀ (s : State) (m : BusMessage) (epoch : BitVec 16) (start : BitVec 48) (count : BitVec 24) (e : BusEnding),
    let a := m.target
    let q := start.toNat + count.toNat - 1
    m.content = .claim epoch start count → s.delivers m false e → (s.assocDef a).defined = true → m.content.valid = true →
    (s.assoc a).state = .live → (s.assoc a).epoch = some epoch.toNat →
    let won : Assoc := { s.assoc a with
      pendingClaim := false, hwm := some (max (s.assoc a).front q),
      active := match (s.assoc a).active with
        | none => some { start := start.toNat, stop := q, next := start.toNat }
        | some x => some x,
      queued := match (s.assoc a).active with
        | none => (s.assoc a).queued
        | some _ => some { start := start.toNat, stop := q },
      acc := match (s.assoc a).active with | none => 0 | some _ => (s.assoc a).acc }
    let atPoint := s.limit a ≤ q + (s.assocDef a).margin ∧ (s.assoc a).rekeyRequested = false
    ∃ t, exec (.claim m.assoc m.sender epoch start count e) s = .next t ∧
      (t.assoc a).pendingClaim = false ∧ { kind := .claim, assoc := a } ∉ t.bus.txList ∧
      t.bus.onBus = none ∧ t.bus.noAck = 0 ∧ (∀ b, b ≠ a → t.assoc b = s.assoc b) ∧
      ((t.counters.assoc[a])[AssocCount.claimsWon.index] =
        min ((s.counters.assoc[a])[AssocCount.claimsWon.index] + 1) (2 ^ 48 - 1)) ∧
      ((t.assoc a).rekeyRequested =
        ((s.assoc a).rekeyRequested || decide (s.limit a ≤ q + (s.assocDef a).margin))) ∧
      (∀ y, (s.assoc a).active.isSome → (s.assoc a).queued = some y →
        (t.counters.assoc[a])[AssocCount.discardOverlap.index] =
          min ((s.counters.assoc[a])[AssocCount.discardOverlap.index] + (y.stop + 1 - y.start)) (2 ^ 48 - 1)) ∧
      Reported s t ((match (s.assoc a).active, (s.assoc a).queued with
        | some _, some y => s.reportOf .claimOverlap (some a) (y.stop + 1 - y.start)
        | _, _ => []) ++ (if atPoint then s.reportOf .rekeyPoint (some a) q else [])) ∧
      Releases s t (fun b c => b == a &&
        (c == .starved && (s.assoc a).active.isNone || c.isFault && decide (atPoint ∧ epoch.toNat = 65535))) ∧
      (¬ atPoint → t.assoc a = won ∧ t.keys = s.keys) ∧
      (atPoint → epoch.toNat < 65535 →
        t.keys = s.keys ∧
        (∀ p, (s.assoc a).pendingAdvance = some p → t.assoc a = { won with rekeyRequested := true }) ∧
        ((s.assoc a).pendingAdvance = none →
          t.assoc a = { won with
            rekeyRequested := true,
            pendingAdvance := some { target := epoch.toNat + 1, reason := .rekey,
                                     condition := if s.hasStandby a then .queued else .held } } ∧
          (s.hasStandby a = true → { kind := .advance, assoc := a } ∈ t.bus.txList))) ∧
      (atPoint → epoch.toNat = 65535 →
        t.assoc a = { won with
          rekeyRequested := true, state := .retired, hwm := none, assigned := 0, acc := 0, active := none, queued := none,
          pendingAdvance := none, settleView := none } ∧
        ∀ j : Fin 4, (t.slots a)[j].role ≠ .standby ∧ (t.slots a)[j].role ≠ .pending)) ∧
  (∀ (s : State) (m : BusMessage) (w : Bool) (epoch : BitVec 16) (start : BitVec 48) (count : BitVec 24) (e : BusEnding),
    let a := m.target
    m.content = .claim epoch start count → s.delivers m w e → s.bus.quiet = false → s.bus.errorCount < 128 →
    (s.assocDef a).defined = true → m.content.valid = true →
    let u := { s with bus := { s.bus.sent .claim a with
      noAck := 0, txList := if w then s.bus.txList else (s.bus.sent .claim a).txList } }
    ∃ t, exec (.claim m.assoc m.sender epoch start count e) s = .next t ∧
      (((s.assoc a).state = .keyWait ∨ ((s.assoc a).state = .live ∧ w = true)) → (s.assoc a).epoch = some epoch.toNat →
        Settled { u with assocs := s.assocs.set a { s.assoc a with
          hwm := some (max (s.assoc a).front (start.toNat + count.toNat - 1)) } } t) ∧
      ((s.assoc a).state = .retired → Settled u t) ∧
      ((s.assoc a).state.inEpoch = true → epoch.toNat < (s.assoc a).epochOrZero →
        Settled { u with counters := { s.counters with
          bus := s.counters.bus.set BusCount.lateMessages.index
            (min (s.counters.bus[BusCount.lateMessages.index] + 1) (2 ^ 48 - 1)) } } t))

/-- A delivered BEACON of the current epoch of a LIVE or KEY-WAIT association raises h to the larger of h and its HWM; one below
the current epoch changes no record and counts as a late message; one for a BLIND or RETIRED association of the current epoch
changes no record (R23, R41). A BEACON entry of this station for the same association and epoch leaves when the HWM is at least
the h it held (R37). This station's own BEACON, delivered, does the same, and its entry leaves (R33, R41). -/
def Obligations.BeaconRaisesFront : Prop :=
  (∀ (s : State) (assoc : BitVec 6) (sender : BitVec 3) (epoch : BitVec 16) (hwm : BitVec 48) (e : BusEnding),
    let m : BusMessage := { assoc := assoc, sender := sender, content := .beacon epoch hwm }
    let a := m.target
    s.hears m e → s.bus.quiet = false → s.bus.errorCount < 128 → (s.assocDef a).defined = true → epoch ≠ 0 →
    ∃ t, exec (.beacon assoc sender epoch hwm e) s = .next t ∧
      ((s.assoc a).state.frontKnown = true → (s.assoc a).epoch = some epoch.toNat →
        Settled { s with
          bus := { s.bus.heard with txList :=
            if (s.assoc a).front ≤ hwm.toNat then s.bus.txList.filter (fun x => x != { kind := .beacon, assoc := a })
            else s.bus.txList },
          assocs := s.assocs.set a { s.assoc a with hwm := some (max (s.assoc a).front hwm.toNat) } } t) ∧
      ((s.assoc a).state.inEpoch = true → epoch.toNat < (s.assoc a).epochOrZero →
        t.assocs = s.assocs ∧ t.keys = s.keys ∧ t.bus.txList = s.bus.txList ∧
        t.counters.bus[BusCount.lateMessages.index] =
          min (s.counters.bus[BusCount.lateMessages.index] + 1) (2 ^ 48 - 1)) ∧
      (((s.assoc a).state = .retired ∨ ((s.assoc a).state = .blind ∧ (s.assoc a).epoch = some epoch.toNat)) →
        t.assocs = s.assocs ∧ t.keys = s.keys)) ∧
  (∀ (s : State) (assoc : BitVec 6) (sender : BitVec 3) (epoch : BitVec 16) (hwm : BitVec 48) (e : BusEnding),
    let m : BusMessage := { assoc := assoc, sender := sender, content := .beacon epoch hwm }
    let a := m.target
    s.delivers m false e → s.bus.quiet = false → s.bus.errorCount < 128 → (s.assocDef a).defined = true → epoch ≠ 0 →
    let u := { s with bus := s.bus.sent .beacon a }
    ∃ t, exec (.beacon assoc sender epoch hwm e) s = .next t ∧
      ((s.assoc a).state.frontKnown = true → (s.assoc a).epoch = some epoch.toNat →
        Settled { u with assocs := s.assocs.set a { s.assoc a with hwm := some (max (s.assoc a).front hwm.toNat) } } t) ∧
      ((s.assoc a).state.inEpoch = true → epoch.toNat < (s.assoc a).epochOrZero →
        Settled { u with counters := { s.counters with
          bus := s.counters.bus.set BusCount.lateMessages.index
            (min (s.counters.bus[BusCount.lateMessages.index] + 1) (2 ^ 48 - 1)) } } t) ∧
      ((s.assoc a).state = .retired ∨ ((s.assoc a).state = .blind ∧ (s.assoc a).epoch = some epoch.toNat) →
        Settled u t))

/-- A CLAIM, BEACON or ADVANCE delivered for a SETTLING or DORMANT association goes into its settle view: a first or higher
epoch replaces it, the same epoch keeps the larger value, a lower one changes nothing; the value is the claim's end, the
beacon's HWM, or 0. No other field of the record, no other record and no key changes (R41, R45). -/
def Obligations.SettleViewRecords : Prop :=
  ∀ (s : State) (assoc : BitVec 6) (sender : BitVec 3) (content : MsgContent) (e : BusEnding) (E V : Nat) (c : Instr),
    let m : BusMessage := { assoc := assoc, sender := sender, content := content }
    let a := m.target
    ((∃ epoch start count, content = .claim epoch start count ∧ c = .claim assoc sender epoch start count e ∧
        E = epoch.toNat ∧ V = start.toNat + count.toNat - 1) ∨
     (∃ epoch hwm, content = .beacon epoch hwm ∧ c = .beacon assoc sender epoch hwm e ∧
        E = epoch.toNat ∧ V = hwm.toNat) ∨
     (∃ epoch reason, content = .advance epoch reason ∧ c = .advance assoc sender epoch reason e ∧
        E = epoch.toNat ∧ V = 0)) →
    s.hears m e → (s.assocDef a).defined = true → content.valid = true →
    (s.assoc a).state = .settling ∨ (s.assoc a).state = .dormant →
    ∃ t, exec c s = .next t ∧ t.keys = s.keys ∧ t.segMap = s.segMap ∧ t.lanes = s.lanes ∧ t.engine = s.engine ∧
      (∀ b, b ≠ a → t.assoc b = s.assoc b) ∧
      t.assoc a = { s.assoc a with settleView :=
        match (s.assoc a).settleView with
        | none => some { epoch := E, hwm := V }
        | some v =>
          if v.epoch < E then some { epoch := E, hwm := V }
          else if E = v.epoch then some { epoch := E, hwm := max v.hwm V }
          else some v }

/-- An advance that reaches a LIVE, BLIND or KEY-WAIT association is applied when its epoch is above the current one, be it an
ADVANCE, a peer's or this station's own delivered, or, with reason IMPLICIT, a peer's CLAIM or a BEACON of that epoch: the record
enters the epoch with h, u and a 0, its start level, an empty reservation, no advance pending and the rekey flag clear; it is LIVE
with a STANDBY of that epoch and KEY-WAIT without. Its reservation counts as discarded under ADVANCE, its ADVANCE entry leaves, and
ADVANCED is reported; without that STANDBY, KEY-DISCARDED for each other one and KEY-WANTED follow (log 13). Its park entries of
the classes BLIND, EXHAUSTED and STARVED are released, with the STANDBY those of NO-KEY too, and no other. The CLAIM or BEACON then
counts in the new epoch. A claim that was pending is made again when the association is LIVE, and is gone when it waits for a key.
An ADVANCE at or below the epoch changes no record and no key, and releases nothing. The own message's entry leaves (R20, R23, R33,
R41, R42, R64, R65, R66, R68, R69, R125, R175). -/
def Obligations.AdvanceIsApplied : Prop :=
  ∀ (s : State) (assoc : BitVec 6) (sender : BitVec 3) (content : MsgContent) (e : BusEnding) (E V C : Nat)
      (reason : AdvanceReason) (c : Instr),
    let m : BusMessage := { assoc := assoc, sender := sender, content := content }
    let a := m.target
    ((∃ epoch code, content = .advance epoch code ∧ c = .advance assoc sender epoch code e ∧
        E = epoch.toNat ∧ V = 0 ∧ C = 0 ∧ reason = AdvanceReason.ofBusCode code) ∨
     (∃ epoch start count, content = .claim epoch start count ∧ c = .claim assoc sender epoch start count e ∧
        E = epoch.toNat ∧ V = start.toNat + count.toNat - 1 ∧ C = count.toNat ∧ reason = .implicit) ∨
     (∃ epoch hwm, content = .beacon epoch hwm ∧ c = .beacon assoc sender epoch hwm e ∧
        E = epoch.toNat ∧ V = hwm.toNat ∧ C = 0 ∧ reason = .implicit)) →
    s.hears m e ∨ (content.kind ≠ .claim ∧ s.delivers m false e) →
    (s.assocDef a).defined = true → content.valid = true → (s.assoc a).state.inEpoch = true →
    let standby := ∃ j : Fin 4, (s.slots a)[j].role = .standby ∧ (s.slots a)[j].epoch = E
    ∃ t, exec c s = .next t ∧
      (content.kind = .advance → E ≤ (s.assoc a).epochOrZero → t.assocs = s.assocs ∧ t.keys = s.keys ∧
        Notified s t a.val [] ∧ Releases s t (fun _ _ => false) ∧
        (s.delivers m false e → t.bus.onBus = none ∧
          t.bus.txList = s.bus.txList.filter (fun x => x != { kind := .advance, assoc := a }))) ∧
      ((s.assoc a).epochOrZero < E →
        (s.assoc a).pendingClaim = false ∨
          (countSlots (s.slots a) (fun k => k.role == .current) ≤ 1 ∧
            ∀ j : Fin 4, (s.slots a)[j].role = .standby → (s.slots a)[j].epoch = E → 0 < (s.slots a)[j].limit) →
        t.assoc a =
          { state := if standby then .live else .keyWait,
            epoch := some E, hwm := some V, assigned := 0, active := none, queued := none,
            level := (s.assocDef a).startLevel, acc := C,
            pendingClaim := if standby then (s.assoc a).pendingClaim else false, pendingAdvance := none,
            rekeyRequested := false, settleView := (s.assoc a).settleView } ∧
        ({ kind := .claim, assoc := a } ∈ t.bus.txList ↔ (s.assoc a).pendingClaim = true ∧ standby) ∧
        (∀ b, b ≠ a → t.assoc b = s.assoc b ∧ t.slots b = s.slots b) ∧
        { kind := .advance, assoc := a } ∉ t.bus.txList ∧
        Releases s t (fun b c => b == a &&
          (c == .blind || c == .exhausted || c == .starved || c == .noKey && decide standby)) ∧
        (s.delivers m false e → t.bus.onBus = none ∧ { kind := content.kind, assoc := a } ∉ t.bus.txList) ∧
        (t.counters.assoc[a])[AssocCount.discardAdvance.index] =
          min ((s.counters.assoc[a])[AssocCount.discardAdvance.index] + (s.assoc a).reservationCount) (2 ^ 48 - 1) ∧
        (s.rack.sending.isSome → s.status.notices.length < 31 →
          { kind := .advanced, detail := .reason reason, assoc := a.val, epoch := E, value := sender.toNat, count := 1,
            time := s.time, alert := false } ∈ t.status.notices) ∧
        Notified s t a.val (s.advancedNotice reason a E sender.toNat false ::
          (if standby then []
           else s.discardNotices a (fun k => k.role == .standby) ++ [s.keyNotice .keyWanted .none a E])))

/-- The key slots at an advance, by a peer's ADVANCE or this station's own delivered: the old CURRENT becomes RETIRING while
frames in lanes use it and is wiped when none does, a STANDBY of the new epoch becomes CURRENT, and a STANDBY of another epoch
is wiped when none of the new epoch is present; no other slot changes (R66). With two RETIRING slots present and the old CURRENT
in use, the RETIRING slot of lower epoch is freed first: it is wiped, and each frame in a lane that references it is abandoned:
its lane is IDLE, its completion entry gone, the frame released and counted as retired in flight (R67, R137). -/
def Obligations.AdvanceMovesKeys : Prop :=
  ∀ (s : State) (assoc : BitVec 6) (sender : BitVec 3) (epoch : BitVec 16) (reason : BitVec 3) (e : BusEnding),
    let m : BusMessage := { assoc := assoc, sender := sender, content := .advance epoch reason }
    let a := m.target
    s.hears m e ∨ s.delivers m false e → (s.assocDef a).defined = true → (s.assoc a).state.inEpoch = true →
    (s.assoc a).epochOrZero < epoch.toNat → (s.assoc a).pendingClaim = false →
    countSlots (s.slots a) (fun k => k.role == .current) ≤ 1 →
    countSlots (s.slots a) (fun k => k.role == .standby) ≤ 1 →
    (countSlots (s.slots a) (fun k => k.role == .retiring) < 2 →
      ∃ t, exec (.advance assoc sender epoch reason e) s = .next t ∧
        ∀ j : Fin 4, (t.slots a)[j] =
          let k := (s.slots a)[j]
          match k.role with
          | .current => if k.uses = 0 then KeySlot.wiped else { k with role := .retiring }
          | .standby => if k.epoch = epoch.toNat then { k with role := .current } else KeySlot.wiped
          | _ => k) ∧
    (∀ i j k : Fin 4, (s.slots a)[i].role = .retiring → (s.slots a)[j].role = .retiring →
      (s.slots a)[i].epoch < (s.slots a)[j].epoch → countSlots (s.slots a) (fun k => k.role == .retiring) = 2 →
      (s.slots a)[k].role = .current → (s.slots a)[k].uses ≠ 0 →
      let gone := (List.finRange 4).filter (fun l => (s.lane l).slot? == some { assoc := a, index := i })
      ∃ t, exec (.advance assoc sender epoch reason e) s = .next t ∧
        (t.slots a)[i] = KeySlot.wiped ∧ (t.slots a)[j] = (s.slots a)[j] ∧
        (t.slots a)[k] = { (s.slots a)[k] with role := .retiring } ∧
        (∀ l : Fin 4, t.lane l = if l ∈ gone then .idle else s.lane l) ∧
        t.lanes.completion = s.lanes.completion.filter (fun y => gone.all (fun l => (s.lane l).frame? != some y.frame)) ∧
        (∀ l ∈ gone, ∀ h, (s.lane l).frame? = some h → t.frame? h = none) ∧
        (gone ≠ [] → (t.counters.assoc[a])[AssocCount.retiredInFlight.index] =
          min ((s.counters.assoc[a])[AssocCount.retiredInFlight.index] + gone.length) (2 ^ 48 - 1)))

/-- A peer's JOIN delivered while RUNNING requests a BEACON for every LIVE or KEY-WAIT association and cancels an own JOIN entry;
while SETTLING it requests none. This station's own JOIN, delivered, leaves the list and requests none. No record, key or frame
changes (R33, R37, R41, R43). -/
def Obligations.JoinSchedulesBeacons : Prop :=
  (∀ (s : State) (assoc : BitVec 6) (sender : BitVec 3) (e : BusEnding),
    s.hears { assoc := assoc, sender := sender, content := .join } e → s.bus.quiet = false → s.bus.errorCount < 128 →
    ∃ t, exec (.join assoc sender e) s = .next t ∧
      Settled { s with bus := { s.bus.heard with txList := t.bus.txList } } t ∧
      ∀ x : TxEntry, x ∈ t.bus.txList ↔
        (x ∈ s.bus.txList ∧ x ≠ { kind := .join, assoc := 0 }) ∨
        (s.device = .running ∧ x.kind = .beacon ∧ (s.assoc x.assoc).state.frontKnown = true)) ∧
  (∀ (s : State) (sender : BitVec 3) (e : BusEnding),
    s.delivers { assoc := 0, sender := sender, content := .join } false e → s.bus.quiet = false → s.bus.errorCount < 128 →
    ∃ t, exec (.join 0 sender e) s = .next t ∧ Settled { s with bus := s.bus.sent .join 0 } t)

/-- Messages that change nothing but counts at a station that receives them: no record, key, transmit list entry or frame. One
that ends with the error slot dominant, by another station or by this one, which drives it for a wrong CRC unless it is quiet,
is void and counted as a bus void; a wrong CRC that no station reports, at a quiet one, is not. With a right CRC a void message
leaves the bus error count, and a wrong CRC raises it by one, to at most 255. One delivered of an association that is undefined
or with a field out of range lowers it by one and cancels no entry. At each delivered message, of whatever content, the bus
error count falls by one, not below 0, and a quiet station whose count is then below 96 leaves the quiet state with BUS-RESUMED
(R31, R32, R38, R39, R41, R48, R205). -/
def Obligations.VoidMessageIsDiscarded : Prop :=
  ∀ (s : State) (m : BusMessage) (e : BusEnding) (c : Instr),
    (match m.content with
      | .claim epoch start count => c = .claim m.assoc m.sender epoch start count e
      | .beacon epoch hwm => c = .beacon m.assoc m.sender epoch hwm e
      | .advance epoch reason => c = .advance m.assoc m.sender epoch reason e
      | .join => c = .join m.assoc m.sender e) →
    s.takesPart e = true → s.bus.onBus = none →
    let nothing := fun (t : State) => t.assocs = s.assocs ∧ t.keys = s.keys ∧ t.segMap = s.segMap ∧ t.lanes = s.lanes ∧
      t.buf.pool = s.buf.pool ∧ t.engine = s.engine
    ∃ t, exec c s = .next t ∧
      (e.peersErr = true ∨ (s.bus.quiet = false ∧ e.crc ≠ m.crc) → nothing t ∧ t.bus.txList = s.bus.txList ∧
        t.counters.bus[BusCount.busVoids.index] = min (s.counters.bus[BusCount.busVoids.index] + 1) (2 ^ 48 - 1)) ∧
      (e.peersErr = false → s.bus.quiet = true → e.crc ≠ m.crc →
        nothing t ∧ t.bus.txList = s.bus.txList ∧ t.counters.bus = s.counters.bus) ∧
      (e.peersErr = true → e.crc = m.crc → t.bus.errorCount = s.bus.errorCount ∧ t.bus.quiet = s.bus.quiet) ∧
      (e.crc ≠ m.crc → t.bus.errorCount = min (s.bus.errorCount + 1) 255 ∧
        (s.bus.quiet = false → (t.bus.quiet = true ↔ 128 ≤ t.bus.errorCount))) ∧
      (s.hears m e →
        t.bus.errorCount = s.bus.errorCount - 1 ∧
        (s.bus.quiet = true → (t.bus.quiet = true ↔ 96 ≤ t.bus.errorCount) ∧
          (t.bus.quiet = false → s.rack.sending.isSome → s.status.notices.length < 32 →
            { kind := .busResumed, detail := .none, assoc := 255, epoch := 0, value := t.bus.errorCount, count := 1,
              time := s.time, alert := false } ∈ t.status.notices)) ∧
        (m.content.kind ≠ .join → (s.assocDef m.target).defined = false ∨ m.content.valid = false →
          nothing t ∧ t.counters.bus = s.counters.bus ∧
          (m.content.kind = .claim ∨ ((s.assoc m.target).epoch ≠ some m.content.epoch ∧
              ∀ p, (s.assoc m.target).pendingAdvance = some p → m.content.epoch < p.target) →
            t.bus.txList = s.bus.txList)))

/-- The outcomes of this station's own message that is not delivered. A CLAIM that no station acknowledges, with the
single-station flag clear, is void: the no-ack count rises to at most 8, a no-ack is counted, and the bus error count stays; the
rise from 7 to 8 is reported ISOLATED, with alert, and no other is. Any message that another station voids by the error slot, or
in which a bit from the start bit to the CRC is read back other than sent (but for a recessive bit of the arbitration field,
bits 1 to 11, read dominant), is void: the bus error count rises by 8 to at most 255 and a bus void is counted. After each,
entry, pending claim and reservation stay and a back-off wait of (station number + 1) × 16 bit times is owed. A recessive bit of
the arbitration field read dominant loses arbitration: no back-off, the entry stays, a lost CLAIM is counted, and the station
goes on as any receiver of the message that won (R29, R30, R32, R33, R34, R38, R40, R203). -/
def Obligations.UnacknowledgedClaimIsVoid : Prop :=
  (∀ (s : State) (m : BusMessage) (w : Bool) (epoch : BitVec 16) (start : BitVec 48) (count : BitVec 24) (e : BusEnding),
    m.content = .claim epoch start count → s.takesPart e = true →
    s.bus.onBus = some { message := m, withdrawn := w } → e.crc = m.crc → e.startRead = false → e.peersErr = false →
    e.peersAck = false →
    s.cfg.singleStation = false →
    ∃ t, exec (.claim m.assoc m.sender epoch start count e) s = .next t ∧
      t.assocs = s.assocs ∧ t.keys = s.keys ∧
      t.bus = { s.bus with onBus := none, backoff := (s.station.toNat + 1) * 16, noAck := min (s.bus.noAck + 1) 8,
                           idleSeen := true } ∧
      t.counters.bus[BusCount.noAcks.index] = min (s.counters.bus[BusCount.noAcks.index] + 1) (2 ^ 48 - 1) ∧
      (s.bus.noAck = 7 → t.status.alert = true) ∧
      Notified s t m.target.val (if s.bus.noAck = 7 then
        [{ kind := .isolated, detail := .none, assoc := m.target.val, epoch := epoch.toNat, value := 8, count := 1,
           time := s.time, alert := true }] else [])) ∧
  (∀ (s : State) (o : OwnMessage) (m : BusMessage) (e : BusEnding) (c : Instr),
    (match m.content with
      | .claim epoch start count => c = .claim m.assoc m.sender epoch start count e
      | .beacon epoch hwm => c = .beacon m.assoc m.sender epoch hwm e
      | .advance epoch reason => c = .advance m.assoc m.sender epoch reason e
      | .join => c = .join m.assoc m.sender e) →
    s.takesPart e = true → s.bus.onBus = some o →
    let sent := false :: (o.message.arbitration ++ o.message.content.bits ++ msbBits o.message.crc)
    let sampled := e.startRead :: (m.arbitration ++ m.content.bits ++ msbBits e.crc)
    let differ := fun (i : Nat) (x : Bool) => i < sent.length ∧ i < sampled.length ∧ sent.take i = sampled.take i ∧
      sent[i]? = some x ∧ sampled[i]? = some (!x)
    ((m = o.message ∧ e.crc = m.crc ∧ e.startRead = false ∧ e.peersErr = true) ∨
        (∃ i x, differ i x ∧ (12 ≤ i ∨ x = false)) →
      ∃ t, exec c s = .next t ∧ t.assocs = s.assocs ∧ t.keys = s.keys ∧
        t.bus = { s.bus with onBus := none, backoff := (s.station.toNat + 1) * 16,
                             errorCount := min (s.bus.errorCount + 8) 255, quiet := t.bus.quiet, idleSeen := true } ∧
        (s.bus.quiet = false → (t.bus.quiet = true ↔ 128 ≤ min (s.bus.errorCount + 8) 255)) ∧
        t.counters.bus[BusCount.busVoids.index] = min (s.counters.bus[BusCount.busVoids.index] + 1) (2 ^ 48 - 1)) ∧
    (let own := o.message.target
      let counts := s.counters.assoc[own]
      let lost := counts.set AssocCount.claimsLost.index (min (counts[AssocCount.claimsLost.index] + 1) (2 ^ 48 - 1))
      (∃ i, differ i true ∧ i < 12) → s.bus.backoff = 0 →
      exec c s = exec c { s with
        bus := { s.bus with onBus := none },
        counters := if o.message.content.kind = .claim then
          { s.counters with assoc := s.counters.assoc.set own lost } else s.counters }))

/-! ## The two ports -/

/-- The reception drops before the lookup. In SETTLING or RUNNING a frame with a wrong FCS, or below 60 bytes, or above 9212, is
dropped for that reason. In ZEROIZING and ZEROIZED every frame whose reception was in progress at the request, and every frame
that is not a whole link control frame, is discarded as INERT, and in ZEROIZED also one of another operation code than 0001h
(log 17). The count of the reason grows by one; its bytes stand in free cells, and nothing else changes. A frame that was
arriving while the port came up is ignored, and in the other device states the port is down and receives nothing (R90, R91, R97,
R105, R195, R200). -/
def Obligations.BadReceptionIsDropped : Prop :=
  (∀ (s : State) (r : RackReception) (reason : ReceptionCount),
    (r.begunBeforeUp && s.rackRx.cameUp) = false →
    (s.device.working = true ∧
      ((r.frame.fcs ≠ ethernetFcs r.frame.data ∧ reason = .fcs) ∨
       (r.frame.fcs = ethernetFcs r.frame.data ∧ r.frame.data.length < 60 ∧ reason = .runt) ∨
       (r.frame.fcs = ethernetFcs r.frame.data ∧ 9212 < r.frame.data.length ∧ reason = .giant))) ∨
    ((s.device = .zeroizing ∨ s.device = .zeroized) ∧ reason = .inert ∧
      ((r.begunBeforeZeroize = true ∧ s.rackRx.zeroizeBegan = true) ∨
        ¬ (r.frame.fcs = ethernetFcs r.frame.data ∧ 60 ≤ r.frame.data.length ∧ r.frame.data.length ≤ 9212 ∧
          field r.frame.data 12 2 = 0x8808) ∨
        (s.device = .zeroized ∧ field r.frame.data 14 2 ≠ 1))) →
    ∃ t, exec (.rackFrameReceived r) s = .next t ∧
      Settled { s.received r with counters := { s.counters with
        reception := s.counters.reception.set reason.index
          (min (s.counters.reception[reason.index] + 1) (2 ^ 48 - 1)) } } t) ∧
  (∀ (s : State) (r : RackReception), s.device.portsUp = true → r.begunBeforeUp = true → s.rackRx.cameUp = true →
    ∃ t, exec (.rackFrameReceived r) s = .next t ∧
      Settled { s with rackRx := { cameUp := false, zeroizeBegan := false, leastFree := s.buf.freeCells } } t) ∧
  (∀ (s : State) (r : RackReception), s.device.portsUp = false → exec (.rackFrameReceived r) s = .next s)

/-- A link control frame received whole on the rack port, with the ports up, is consumed: operation code 0001h sets the rack
pause timer from bytes 16 and 17, and another code is dropped as CONTROL. Nothing else changes (R92, R102). In ZEROIZING and
ZEROIZED this holds for a reception begun there (R105), but that ZEROIZED discards another code as INERT (R200, log 17). -/
def Obligations.LinkPauseSetsRackTimer : Prop :=
  ∀ (s : State) (r : RackReception),
    s.device.portsUp = true → (r.begunBeforeUp && s.rackRx.cameUp) = false →
    (s.device.erased = true → (r.begunBeforeZeroize && s.rackRx.zeroizeBegan) = false) →
    r.frame.fcs = ethernetFcs r.frame.data → 60 ≤ r.frame.data.length → r.frame.data.length ≤ 9212 →
    field r.frame.data 12 2 = 0x8808 →
    ∃ t, exec (.rackFrameReceived r) s = .next t ∧
      (field r.frame.data 14 2 = 1 →
        Settled { s.received r with rack := { s.rack with pauseTimer := field r.frame.data 16 2 } } t) ∧
      (field r.frame.data 14 2 ≠ 1 →
        let reason := if s.device = .zeroized then ReceptionCount.inert else .control
        Settled { s.received r with counters := { s.counters with
          reception := s.counters.reception.set reason.index
            (min (s.counters.reception[reason.index] + 1) (2 ^ 48 - 1)) } } t)

/-- A good frame of the command type addressed to the part joins the command input list at its tail while it holds fewer than
four, and an IDLE engine enters CHECKING; with four it is dropped as COMMAND-OVERRUN with that notice (R93, R153). -/
def Obligations.CommandFrameIsDiverted : Prop :=
  ∀ (s : State) (r : RackReception),
    let data := r.frame.data
    s.device.working = true → (r.begunBeforeUp && s.rackRx.cameUp) = false →
    r.frame.fcs = ethernetFcs data → 60 ≤ data.length → data.length ≤ 9212 →
    field data 12 2 ≠ 0x8808 → field data 12 2 = s.cfg.commandType.toNat → field data 0 6 = s.cfg.ownAddress.toNat →
    ∃ t, exec (.rackFrameReceived r) s = .next t ∧
      (s.engine.input.length < 4 → Settled { s.received r with engine := { s.engine with
        input := s.engine.input ++ [data],
        state := if s.engine.state = .idle then .checking else s.engine.state } } t) ∧
      (4 ≤ s.engine.input.length → Settled
        (postNotice { kind := .commandOverrun, detail := .none, assoc := 255, epoch := 0, value := 0, count := 1, time := 0,
                      alert := false }
          { s.received r with counters := { s.counters with
            reception := s.counters.reception.set ReceptionCount.commandOverrun.index
              (min (s.counters.reception[ReceptionCount.commandOverrun.index] + 1) (2 ^ 48 - 1)) } }) t)

/-- A good egress frame is classified by its segment and kept or dropped: a DROP entry as SEG-DROP; over the cap of its queue as
QUEUE-CAP; short, or with no free descriptor, as NO-ROOM; else it takes one free descriptor and ceil(L/128) cells, whose old bytes
it overwrites (which cells: log 7), F goes down and Q up by them, it joins the tail of its queue, and the pause test is made: below
P_on a side not pausing enters PAUSING, and one that is PAUSING stays so below P_on + H. A pause frame asked for, now or before,
begins at once on an idle rack transmitter, with time T while PAUSING, which starts the repeat timer at T × 256 bit times; else the
request stands. It was short when its cells exceed F, and it may have been when they exceed what F was least while it arrived (log
8) (R77, R78, R90, R91, R94, R95, R96, R100, R101). -/
def Obligations.EgressFrameIsKeptOrDropped : Prop :=
  ∀ (s : State) (r : RackReception) (entry : SegEntry),
    let data := r.frame.data
    let need := (data.length + 127) / 128
    s.device.working = true → (r.begunBeforeUp && s.rackRx.cameUp) = false →
    r.frame.fcs = ethernetFcs data → 60 ≤ data.length → data.length ≤ 9212 →
    field data 12 2 ≠ 0x8808 → ¬ (field data 12 2 = s.cfg.commandType.toNat ∧ field data 0 6 = s.cfg.ownAddress.toNat) →
    SegMap.read s.segMap (if field data 12 2 = 0x8100 then field data 14 2 % 4096 else s.cfg.defaultSegment) = entry →
    let short := s.buf.freeCells < need ∨ (r.ranShort.isSome ∧ s.rackRx.leastFree < need)
    ∃ t, exec (.rackFrameReceived r) s = .next t ∧
      let dropped := fun (c : ReceptionCount) => Settled { s.received r with counters := { s.counters with
        reception := s.counters.reception.set c.index (min (s.counters.reception[c.index] + 1) (2 ^ 48 - 1)) } } t
      match (match entry with
        | .drop => none
        | .encrypt a q => some (FrameAction.encrypt a, q)
        | .clear q => some (FrameAction.clear, q)) with
      | none => dropped .segDrop
      | some (action, q) =>
        if s.cfg.caps[q] < s.buf.queueCells[q] + need then dropped .queueCap
        else if short ∨ (List.range 1024).all (fun h => (s.frame? h).isSome) = true then dropped .noRoom
        else ∃ h, h < 1024 ∧ s.frame? h = none ∧
          t.buf.pool = tablePut s.buf.pool h
            { length := data.length, action := action, queue := q, arrival := s.time, cells := need, data := data,
              assigned := none } ∧
          t.buf.freeCells = s.buf.freeCells - need ∧
          (let skip := s.buf.freeCells - max need s.rackRx.leastFree
           t.buf.leftover = s.buf.leftover.take skip ++ s.buf.leftover.drop (skip + need)) ∧
          t.rackRx = { cameUp := false, zeroizeBegan := false, leastFree := s.buf.freeCells - need } ∧
          t.buf.queues = s.buf.queues.set q (s.buf.queues[q] ++ [h]) ∧
          t.buf.queueCells = s.buf.queueCells.set q (s.buf.queueCells[q] + need) ∧
          t.buf.pausing = (if s.buf.pausing then decide (s.buf.freeCells - need < s.cfg.pOn + s.cfg.hysteresis)
            else decide (s.buf.freeCells - need < s.cfg.pOn)) ∧
          (let timer := if s.buf.pausing = true ∧ t.buf.pausing = false then none else s.buf.repeatTimer
           let asked := s.buf.pauseRequest = true ∨ t.buf.pausing ≠ s.buf.pausing
           let time := if t.buf.pausing then s.cfg.pauseTime else 0
           (¬ asked → t.buf.pauseRequest = false ∧ t.buf.repeatTimer = timer) ∧
           (asked → s.rack.sending.isSome → t.rack = s.rack ∧ t.buf.pauseRequest = true ∧ t.buf.repeatTimer = timer) ∧
           (asked → s.rack.sending = none →
             t.rack = { s.rack with sending := some (.pause, withFcs (pauseFrame s.cfg time)), cutShort := false } ∧
             t.buf.pauseRequest = false ∧
             t.buf.repeatTimer = (if t.buf.pausing then some (s.cfg.pauseTime * 256) else timer))) ∧
          t.counters = s.counters ∧ t.assocs = s.assocs ∧ t.keys = s.keys ∧ t.segMap = s.segMap ∧ t.bus = s.bus ∧
          t.disp.park = s.disp.park.map (ParkEntry.afterMarks s.disp.marks) ∧ t.lanes = s.lanes ∧ t.engine = s.engine ∧
          t.campus.fifo = s.campus.fifo ∧ t.status.replies = s.status.replies

/-- An inbound frame with the ports up is dropped with its reason (wrong FCS, length, no room), consumed as link control (setting
the campus pause timer, or counted as CONTROL), or kept whole at the tail of the inbound FIFO; nothing else changes. There was no
room when its L + 4 bytes exceed what the FIFO has left, and there may have been none when they exceed what it had least while the
frame arrived (log 8). A frame that was arriving while the port came up is ignored, and a port that is down receives nothing (R103,
R104, R105). -/
def Obligations.InboundFrameIsKeptOrDropped : Prop :=
  (∀ (s : State) (r : InboundReception),
    let data := r.frame.data
    let held := (s.campus.fifo.map (fun f => f.data.length + 4)).sum
    s.device.portsUp = true → (r.begunBeforeUp && s.campusRx.cameUp) = false →
    ∃ t, exec (.inboundFrameReceived r) s = .next t ∧
      let ended := { s with campusRx := { cameUp := false, mostHeld := held } }
      let dropped := fun (c : FrameCount) => Settled { ended with counters := { s.counters with
        frames := s.counters.frames.set c.index (min (s.counters.frames[c.index] + 1) (2 ^ 48 - 1)) } } t
      if r.frame.fcs ≠ ethernetFcs data then dropped .inboundFcs
      else if data.length < 60 ∨ 9212 < data.length then dropped .inboundLength
      else if field data 12 2 = 0x8808 then
        if field data 14 2 = 1 then Settled { ended with campus := { s.campus with pauseTimer := field data 16 2 } } t
        else dropped .inboundControl
      else if 32768 < held + (data.length + 4) ∨
          (r.ranOut = true ∧ 32768 < s.campusRx.mostHeld + (data.length + 4)) then dropped .inboundFull
      else Settled { s with
        campus := { s.campus with fifo := s.campus.fifo ++ [r.frame] },
        campusRx := { cameUp := false, mostHeld := held + (data.length + 4) } } t) ∧
  (∀ (s : State) (r : InboundReception), s.device.portsUp = true → r.begunBeforeUp = true → s.campusRx.cameUp = true →
    ∃ t, exec (.inboundFrameReceived r) s = .next t ∧
      Settled { s with campusRx := { cameUp := false,
                                     mostHeld := (s.campus.fifo.map (fun f => f.data.length + 4)).sum } } t) ∧
  (∀ (s : State) (r : InboundReception), s.device.portsUp = false → exec (.inboundFrameReceived r) s = .next s)

/-- The timers that run out: a rack or campus pause timer above 0 becomes 0 (R102, R103), and a running repeat timer stops, with
a new pause request while PAUSING: an idle rack transmitter begins the pause frame with time T at once, which starts the repeat
timer again, and one that is sending leaves the request standing (R101). When the oldest notice is 100 µs old a status frame is
offered: it begins at once with the oldest notices, up to eight, when the rack transmitter is idle with no pause request and its
pause timer at 0, and else the offer stands; with a reply ready too, the kind other than the one offered last is offered, and an
offer standing stays (R178, R179). Nothing else changes. -/
def Obligations.TimersRunOut : Prop :=
  ∀ s : State,
    (s.rack.pauseTimer ≠ 0 → ∃ t, exec .rackPauseTimerExpiry s = .next t ∧
      Settled { s with rack := { s.rack with pauseTimer := 0 } } t) ∧
    (s.campus.pauseTimer ≠ 0 → ∃ t, exec .campusPauseTimerExpiry s = .next t ∧
      Settled { s with campus := { s.campus with pauseTimer := 0 } } t) ∧
    (s.buf.repeatTimer.isSome → ∃ t, exec .pauseRepeatTimerExpiry s = .next t ∧
      Settled { s with buf := { s.buf with
        repeatTimer := none, pauseRequest := s.buf.pauseRequest || s.buf.pausing } } t ∧
      (s.buf.pausing = false → t.buf.repeatTimer = none) ∧
      (s.buf.pausing = true → s.device.portsUp = true → s.rack.sending = none →
        t.rack.sending = some (.pause, withFcs (pauseFrame s.cfg s.cfg.pauseTime)) ∧ t.buf.pauseRequest = false ∧
        t.buf.repeatTimer = some (s.cfg.pauseTime * 256)) ∧
      (s.buf.pausing = true → s.device.portsUp = false ∨ s.rack.sending.isSome →
        t.rack = s.rack ∧ t.buf.pauseRequest = true ∧ t.buf.repeatTimer = none)) ∧
    (∀ n rest, s.status.notices = n :: rest → 100 ≤ (s.time - n.time).toNat →
      ∃ t, exec .statusFrameDue s = .next t ∧ Settled s t ∧
        let free := s.rack.sending = none ∧ s.buf.pauseRequest = false ∧ s.rack.pauseTimer = 0
        (s.device.portsUp = true → free → s.status.offered = none → s.status.replies = [] → StatusBegins s t) ∧
        (s.device.portsUp = true → free → s.status.offered = some .status → StatusBegins s t) ∧
        (s.device.portsUp = true → ¬ free →
          t.status.notices = s.status.notices ∧
          (∀ o, s.status.offered = some o → t.status.offered = some o) ∧
          (s.status.offered = none → s.replyReady = false ∨ s.status.lastOffered = some .reply →
            t.status.offered = some .status) ∧
          (s.status.offered = none → s.replyReady = true → s.status.lastOffered = some .status →
            t.status.offered = some .reply)))

/-- RACK_TRANSMIT_DONE frees the rack transmitter; a reply sent leaves the reply list and a command in WAITING begins to
execute; an inbound frame sent leaves the FIFO; nothing else changes but what begins next (R104, R157, R158). What begins next,
as at the end of every event with the ports up and the transmitter idle: the pause frame when one is requested, with time T
while PAUSING and 0 otherwise; else, with the pause timer 0, the frame offered: the oldest reply, or a status frame with the
oldest notices, up to eight; else the head of the inbound FIFO, unchanged. With reply and status frame both ready and no offer
standing, the kind other than the one offered last is offered, and before any offer the one that became ready first (R101, R106,
R179); either of two that became ready together (log 15). A transmitter that is sending, or a port that is down, begins
nothing. -/
def Obligations.RackTransmitterOrder : Prop :=
  (∀ (s : State) (kind : RackFrameKind) (f : WireFrame), s.rack.sending = some (kind, f) →
    let u := match kind with
      | .reply => { s with
          rack := { s.rack with sending := none },
          status := { s.status with replies := s.status.replies.drop 1 },
          engine := { s.engine with state := if s.engine.state = .waiting then .executing else s.engine.state } }
      | .inbound => { s with
          rack := { s.rack with sending := none }, campus := { s.campus with fifo := s.campus.fifo.drop 1 } }
      | .pause => { s with rack := { s.rack with sending := none } }
      | .status => { s with rack := { s.rack with sending := none } }
    exec .rackTransmitDone s = .next (finishEvent s u) ∧ Settled u (finishEvent s u)) ∧
  (∀ before u : State, u.device.portsUp = false ∨ u.rack.sending.isSome → (finishEvent before u).rack = u.rack) ∧
  ∀ before u : State, u.device.portsUp = true → u.rack.sending = none →
    let t := finishEvent before u
    (u.buf.pauseRequest = true →
      t.rack.sending = some (.pause, withFcs (padTo60 (beBytes 6 0x0180c2000001 ++ beBytes 6 u.cfg.ownAddress.toNat ++
        beBytes 2 0x8808 ++ beBytes 2 1 ++ beBytes 2 (if u.buf.pausing then u.cfg.pauseTime else 0)))) ∧
      t.buf.pauseRequest = false ∧
      (u.buf.pausing = true → t.buf.repeatTimer = some (u.cfg.pauseTime * 256))) ∧
    (u.buf.pauseRequest = false → u.rack.pauseTimer ≠ 0 → t.rack.sending = none) ∧
    (u.buf.pauseRequest = false → u.rack.pauseTimer = 0 →
      (u.status.offered = none → u.replyReady = false → u.statusDue = false →
        t.rack.sending = u.campus.fifo.head?.map (fun f => (.inbound, f))) ∧
      (∀ x rest, u.status.replies = x :: rest →
        let begins := t.rack.sending = some (.reply, withFcs (replyFrame u.cfg x))
        (u.status.offered = some .reply → begins) ∧
        (u.status.offered = none → u.statusDue = false → begins) ∧
        (u.status.offered = none → u.statusDue = true → u.status.lastOffered = some .status → begins) ∧
        (u.status.offered = none → u.statusDue = true → u.status.lastOffered = none →
          before.replyReady = true → before.statusDue = false → begins) ∧
        (u.status.offered = none → u.statusDue = true → u.status.lastOffered = none → begins ∨ StatusBegins u t)) ∧
      (u.status.offered = some .status → StatusBegins u t) ∧
      (u.status.offered = none → u.statusDue = true →
        u.replyReady = false ∨ u.status.lastOffered = some .reply ∨
          (u.status.lastOffered = none ∧ before.statusDue = true ∧ before.replyReady = false) → StatusBegins u t))

/-- The campus transmitter begins the head of the completion list at the end of an event exactly when it is IDLE, the device is
SETTLING or RUNNING, the campus pause timer is 0 and the head is FINISHED: the envelope for an ENCRYPT entry (addresses, header,
ciphertext, tag), the frame itself for a CLEAR one, with its FCS (R139, R143, R144). -/
def Obligations.CampusTransmitterBegins : Prop :=
  ∀ (before u : State) (e : CompletionEntry) (rest : List CompletionEntry) (d : Descriptor),
    u.campus.sending = none → u.lanes.completion = e :: rest → u.frame? e.frame = some d →
    ((u.device = .settling ∨ u.device = .running) ∧ u.campus.pauseTimer = 0 ∧ e.finished = true →
      (finishEvent before u).campus.sending = some (withFcs (match e.action with
        | .encrypt _ => d.data.take 12 ++ e.header ++ d.data.drop 12 ++ e.tag
        | .clear => d.data))) ∧
    (¬ ((u.device = .settling ∨ u.device = .running) ∧ u.campus.pauseTimer = 0 ∧ e.finished = true) →
      (finishEvent before u).campus.sending = none)

/-- The pause state follows F with hysteresis: a release that takes F to P_on + H or more ends PAUSING, requests a pause frame and
stops the repeat timer, and any other leaves pause state, request and timer as they were or enters PAUSING below P_on (R90, R100,
R101). -/
def Obligations.PauseStateHasHysteresis : Prop :=
  ∀ (s : State) (h : Nat) (d : Descriptor), s.frame? h = some d →
    let t := releaseFrame h s
    t.buf.freeCells = s.buf.freeCells + d.cells ∧
    (t.buf.pausing = true ↔
      if s.buf.pausing then s.buf.freeCells + d.cells < s.cfg.pOn + s.cfg.hysteresis
      else s.buf.freeCells + d.cells < s.cfg.pOn) ∧
    (t.buf.pauseRequest = true ↔ s.buf.pauseRequest = true ∨ t.buf.pausing ≠ s.buf.pausing) ∧
    t.buf.repeatTimer = (if s.buf.pausing = true ∧ t.buf.pausing = false then none else s.buf.repeatTimer)

/-! ## Dispatch and the park list -/

/-- A DISPATCH takes the head of the highest ACTIVE queue that is not empty when no released entry stands in an ACTIVE queue; an
ENCRYPT frame that fits C_max, of a LIVE association with no park entry of its association and queue, and whose active range is not
stale, takes the range's next counter x: u becomes x, the CURRENT slot's use count grows, the frame leaves its queue and enters an
IDLE lane in KEYING with x, the epoch and the slot, and its completion entry with the envelope header joins the tail. The range
advances, or the queued one is promoted with a = 0 when it is used up, k rising first when a is below s_k/2, which releases the
STARVED park entries, and the prefetch test follows: it requests a claim, or an advance at h ≥ λ. A stale active range before a
queued one that is not is discarded, which the trap STALE-DISCARD reports with the counters discarded, k falls, the STARVED entries
are released, and the frame takes the queued range's first counter. At h ≥ λ in epoch 65535 the test's request retires the
association, after the hand-off (log 21): the frame is in its lane, its slot RETIRING, and what is left of the reservation
discarded, the settle view absent (log 12), its park entries released. No other exception is reported and no other entry released
(R9, R11, R12, R13, R14, R53, R61, R70, R98, R109, R115, R120, R121, R125, R133, R139, R146). -/
def Obligations.DispatchAssignsCounter : Prop :=
  (∀ (s : State) (q : Fin 8) (h : Nat) (rest : List Nat) (d : Descriptor) (a : Fin 64) (x : ActiveRange) (j : Fin 4),
    s.takesHead q h rest d → d.action = .encrypt a → d.queue = q →
    (∀ e ∈ s.disp.park, ¬ (e.assoc = a ∧ e.queue = q)) →
    (s.assoc a).state = .live → d.length + 28 ≤ s.cfg.cMax →
    (s.assoc a).epochOrZero < 65535 ∨ (s.assoc a).front < s.limit a →
    (s.assoc a).active = some x →
    (s.assoc a).front < x.next + ((s.assocDef a).window - (s.assocDef a).guard) →
    slotWithRole (s.slots a) .current = some j →
    ∃ t l, exec .dispatch s = .next t ∧ s.lane l = .idle ∧
      t.lane l = .keying h { assoc := a, index := j } ∧ (∀ m, m ≠ l → t.lane m = s.lane m) ∧
      t.lanes.completion = s.lanes.completion ++
        [{ frame := h, action := .encrypt a, queue := q, finished := false,
           header := beBytes 2 s.cfg.envelopeType.toNat ++ beBytes 1 a.val ++ beBytes 1 (8 + s.station.toNat) ++
             beBytes 2 (s.assoc a).epochOrZero ++ beBytes 6 x.next,
           tag := [], outLength := d.length + 28 }] ∧
      t.lanes.inFlight = s.lanes.inFlight.set q (s.lanes.inFlight[q] + 1) ∧
      t.buf.pool = tablePut s.buf.pool h { d with
        assigned := some { counter := x.next, epoch := (s.assoc a).epochOrZero, slot := { assoc := a, index := j } } } ∧
      t.buf.queues = s.buf.queues.set q rest ∧
      t.buf.queueCells = s.buf.queueCells.set q (s.buf.queueCells[q] - d.cells) ∧ t.buf.freeCells = s.buf.freeCells ∧
      (t.assoc a).assigned = x.next ∧ (t.assoc a).hwm = (s.assoc a).hwm ∧ (t.assoc a).epoch = (s.assoc a).epoch ∧
      (x.next < x.stop → (t.assoc a).active = some { x with next := x.next + 1 } ∧
        (t.assoc a).queued = (s.assoc a).queued ∧ (t.assoc a).level = (s.assoc a).level ∧
        (t.assoc a).acc = (s.assoc a).acc) ∧
      Prefetches s t a (s.assoc a).leftAfterNext ∧ Reported s t [] ∧
      Releases s t (fun b c => b == a && c == .starved && decide (x.stop ≤ x.next ∧ (s.assoc a).queued.isSome = true)) ∧
      (x.stop ≤ x.next → (t.assoc a).queued = none ∧
        (t.assoc a).active = (s.assoc a).queued.map (fun y => { start := y.start, stop := y.stop, next := y.start }) ∧
        (t.assoc a).level.val = (if 2 * (s.assoc a).acc < s.cfg.ladder[(s.assoc a).level]
          then min ((s.assoc a).level.val + 1) 3 else (s.assoc a).level.val) ∧
        (t.assoc a).acc = if (s.assoc a).queued.isSome then 0 else (s.assoc a).acc) ∧
      t.slot { assoc := a, index := j } =
        { s.slot { assoc := a, index := j } with uses := (s.slot { assoc := a, index := j }).uses + 1 } ∧
      (∀ r : SlotRef, r ≠ { assoc := a, index := j } → t.slot r = s.slot r) ∧
      (∀ b, b ≠ a → t.assoc b = s.assoc b) ∧
      t.segMap = s.segMap ∧ t.engine = s.engine ∧ t.disp.parkedCells = s.disp.parkedCells ∧
      t.disp.queueState = s.disp.queueState ∧ t.campus.fifo = s.campus.fifo ∧ t.status.replies = s.status.replies) ∧
  (∀ (s : State) (q : Fin 8) (h : Nat) (rest : List Nat) (d : Descriptor) (a : Fin 64) (x : ActiveRange) (y : QueuedRange)
      (j : Fin 4),
    s.takesHead q h rest d → d.action = .encrypt a → d.queue = q →
    (∀ e ∈ s.disp.park, ¬ (e.assoc = a ∧ e.queue = q)) →
    (s.assoc a).state = .live → d.length + 28 ≤ s.cfg.cMax →
    (s.assoc a).epochOrZero < 65535 ∨ (s.assoc a).front < s.limit a →
    (s.assoc a).active = some x → (s.assoc a).queued = some y →
    x.next + ((s.assocDef a).window - (s.assocDef a).guard) ≤ (s.assoc a).front →
    (s.assoc a).front < y.start + ((s.assocDef a).window - (s.assocDef a).guard) →
    slotWithRole (s.slots a) .current = some j →
    ∃ t l, exec .dispatch s = .next t ∧ s.lane l = .idle ∧
      t.lane l = .keying h { assoc := a, index := j } ∧ (∀ m, m ≠ l → t.lane m = s.lane m) ∧
      t.buf.queues = s.buf.queues.set q rest ∧ t.buf.pool = tablePut s.buf.pool h { d with
        assigned := some { counter := y.start, epoch := (s.assoc a).epochOrZero, slot := { assoc := a, index := j } } } ∧
      (t.assoc a).assigned = y.start ∧ (t.assoc a).queued = none ∧
      Reported s t (s.reportOf .staleDiscard (some a) (x.stop + 1 - x.next)) ∧
      Releases s t (fun b c => b == a && c == .starved) ∧
      (y.start < y.stop →
        (t.assoc a).active = some { start := y.start, stop := y.stop, next := y.start + 1 } ∧
        (t.assoc a).level.val = (s.assoc a).level.val - 1) ∧
      (y.stop ≤ y.start → (t.assoc a).active = none) ∧ (t.assoc a).acc = 0 ∧ Prefetches s t a (y.stop - y.start) ∧
      (t.assoc a).hwm = (s.assoc a).hwm ∧ (t.assoc a).epoch = (s.assoc a).epoch ∧
      (∀ b, b ≠ a → t.assoc b = s.assoc b) ∧
      (t.counters.assoc[a])[AssocCount.discardStale.index] =
        min ((s.counters.assoc[a])[AssocCount.discardStale.index] + (x.stop + 1 - x.next)) (2 ^ 48 - 1)) ∧
  (∀ (s : State) (q : Fin 8) (h : Nat) (rest : List Nat) (d : Descriptor) (a : Fin 64) (x : ActiveRange) (j : Fin 4),
    s.takesHead q h rest d → d.action = .encrypt a → d.queue = q →
    (∀ e ∈ s.disp.park, ¬ (e.assoc = a ∧ e.queue = q)) →
    (s.assoc a).state = .live → d.length + 28 ≤ s.cfg.cMax → (s.assoc a).epochOrZero = 65535 →
    s.limit a ≤ (s.assoc a).front → (s.assoc a).active = some x → (s.assoc a).queued = none →
    (s.assoc a).front < x.next + ((s.assocDef a).window - (s.assocDef a).guard) →
    x.stop ≤ x.next ∨ x.stop - x.next ≤ s.cfg.ladder[(s.assoc a).level] / 4 →
    (s.assoc a).pendingClaim = false → (s.assoc a).advanceQueued = false →
    slotWithRole (s.slots a) .current = some j → countSlots (s.slots a) (fun k => k.role == .retiring) < 2 →
    ∃ t l, exec .dispatch s = .next t ∧ s.lane l = .idle ∧
      t.lane l = .keying h { assoc := a, index := j } ∧ (∀ m, m ≠ l → t.lane m = s.lane m) ∧
      t.buf.queues = s.buf.queues.set q rest ∧ t.buf.pool = tablePut s.buf.pool h { d with
        assigned := some { counter := x.next, epoch := 65535, slot := { assoc := a, index := j } } } ∧
      t.slot { assoc := a, index := j } = { s.slot { assoc := a, index := j } with
        role := .retiring, uses := (s.slot { assoc := a, index := j }).uses + 1 } ∧
      Reported s t [] ∧ Releases s t (fun b c => b == a && c.isFault) ∧
      (∃ k, t.assoc a = { (s.assoc a).whenRetired with level := k }) ∧ (∀ b, b ≠ a → t.assoc b = s.assoc b) ∧
      (t.counters.assoc[a])[AssocCount.discardRetire.index] =
        min ((s.counters.assoc[a])[AssocCount.discardRetire.index] + (x.stop - x.next)) (2 ^ 48 - 1))

/-- A counter that a dispatch assigns was reserved by this station in the association's epoch, lies above every counter it has
assigned in that epoch, and is less than W − G below h (R5, R9, R11). -/
def Obligations.AssignedCounterIsFresh : Prop :=
  ∀ (s t : State) (h : Nat) (d : Descriptor) (x : Assigned),
    CountersOrdered s → exec .dispatch s = .next t →
    s.frame? h = some d → d.assigned = none → t.frame? h = some { d with assigned := some x } →
    (s.assoc x.slot.assoc).state = .live ∧ (s.assoc x.slot.assoc).epoch = some x.epoch ∧
    (s.assoc x.slot.assoc).reserves x.counter ∧ (s.assoc x.slot.assoc).assigned < x.counter ∧
    (s.assoc x.slot.assoc).front - x.counter <
      (s.assocDef x.slot.assoc).window - (s.assocDef x.slot.assoc).guard

/-- A frame taken from a queue whose association is LIVE with an empty reservation, or with one or two ranges that are all stale,
gets no counter and makes its request. The stale ranges are discarded, counted, each reported as STALE-DISCARD with its counters,
and k falls for each; the second, active between, posts a STARVED mark, which releases what parks in the same event. With h < λ the
fault is STARVED: a CLAIM is requested when neither a claim is pending nor an advance QUEUED. With h ≥ λ it is EXHAUSTED: with no
advance pending one with reason EXHAUSTED is requested, QUEUED with a STANDBY and HELD without, and at epoch 65535 the association
is RETIRED (its settle view absent: log 12) and its park entries, this one too, released. The frame leaves its queue and enters no
lane: by the disposition of the class it joins the tail of the park list, or is dropped and counted, as DOUBLE when PARK finds no
room, and the class is reported as its settings say, DOUBLE always. Nothing more changes in the record, and no other record does
(R6, R9, R10, R14, R61, R70, R115, R118, R121, R123, R124, R125). -/
def Obligations.EmptyReservationRequests : Prop :=
  ∀ (s : State) (q : Fin 8) (h : Nat) (rest : List Nat) (d : Descriptor) (a : Fin 64),
    s.takesHead q h rest d → d.action = .encrypt a → d.queue = q →
    (∀ e ∈ s.disp.park, ¬ (e.assoc = a ∧ e.queue = q)) →
    (s.assoc a).state = .live → d.length + 28 ≤ s.cfg.cMax →
    s.noCounter a →
    let marks := s.disp.marks ++ s.walkMarks a
    let c : ExcClass := if s.limit a ≤ (s.assoc a).front then .exhausted else .starved
    let room := s.disp.park.length < 64 ∧ s.disp.parkedCells + d.cells ≤ s.cfg.parkCap
    let entry : ParkEntry := { frame := h, assoc := a, queue := q, cls := c, released := false, parkTime := s.time,
                               reclassify := 0 }
    ∃ t, exec .dispatch s = .next t ∧ (∀ b, b ≠ a → t.assoc b = s.assoc b) ∧ t.segMap = s.segMap ∧ t.engine = s.engine ∧
      t.buf.queues = s.buf.queues.set q rest ∧
      t.buf.queueCells = s.buf.queueCells.set q (s.buf.queueCells[q] - d.cells) ∧
      ((s.assoc a).active.isSome → (t.counters.assoc[a])[AssocCount.discardStale.index] =
        min ((s.counters.assoc[a])[AssocCount.discardStale.index] + (s.assoc a).walkDiscards) (2 ^ 48 - 1)) ∧
      RequestsCounters s t a (s.assoc a).walked ∧
      Reported s t (s.walkReports a ++
        (if s.disposition c = .park ∧ ¬ room then s.reportOf .double (some a) s.disp.parkedCells
         else s.reportOf c (some a) (if s.disposition c = .park then s.disp.park.length + 1 else d.length))) ∧
      ((s.assoc a).front < s.limit a ∨ (s.assoc a).epochOrZero ≠ 65535 →
        t.lanes = s.lanes ∧ t.keys = s.keys ∧
        (s.disposition c = .park → room →
          t.disp.park = (s.disp.park ++ [entry]).map (ParkEntry.afterMarks marks) ∧
          t.disp.parkedCells = s.disp.parkedCells + d.cells ∧ t.buf.pool = s.buf.pool ∧
          t.buf.freeCells = s.buf.freeCells ∧
          (t.counters.assoc[a])[AssocCount.parks.index] =
            min ((s.counters.assoc[a])[AssocCount.parks.index] + 1) (2 ^ 48 - 1)) ∧
        (¬ (s.disposition c = .park ∧ room) →
          t.disp.park = s.disp.park.map (ParkEntry.afterMarks marks) ∧
          t.disp.parkedCells = s.disp.parkedCells ∧
          t.buf.pool = tableErase s.buf.pool h ∧ t.buf.freeCells = s.buf.freeCells + d.cells ∧
          ∀ k, (if s.disposition c = .park then ExcClass.double else c).dropCount? = some k →
            (t.counters.assoc[a])[k.index] = min ((s.counters.assoc[a])[k.index] + 1) (2 ^ 48 - 1))) ∧
      (s.limit a ≤ (s.assoc a).front → (s.assoc a).epochOrZero = 65535 →
        (countSlots (s.slots a) (fun k => k.role == .retiring) < 2 → t.lanes = s.lanes) ∧
        (s.disposition c = .park → room →
          t.disp.park = (s.disp.park ++ [entry]).map (ParkEntry.afterEvent s.disp.marks (fun b k => b == a && k.isFault)) ∧
          t.disp.parkedCells = s.disp.parkedCells + d.cells) ∧
        (¬ (s.disposition c = .park ∧ room) → t.frame? h = none ∧ Releases s t (fun b k => b == a && k.isFault) ∧
          t.disp.parkedCells = s.disp.parkedCells))

/-- A CLEAR frame taken from a queue that fits C_max enters an IDLE lane at once, with no counter, epoch or slot, and its
completion entry joins the tail; one above C_max is dropped as OVERSIZE, counted, and its cells return. An ENCRYPT frame with no
park entry of its association and queue is aborted when its association is RETIRED, as RETIRED, or else when its envelope would
pass C_max, as OVERSIZE, whatever the association's state: it is dropped, counted for the association, and its cells return. Each
abort is reported with L as its class's settings say, that of a CLEAR frame under association 255. No record and no key changes
(R111, R113, R119, R121, R133). -/
def Obligations.DispatchPassesClearFrame : Prop :=
  (∀ (s : State) (q : Fin 8) (h : Nat) (rest : List Nat) (d : Descriptor),
    s.takesHead q h rest d → d.action = .clear → d.queue = q →
    ∃ t, exec .dispatch s = .next t ∧
      t.assocs = s.assocs ∧ t.keys = s.keys ∧ t.bus = s.bus ∧ t.buf.queues = s.buf.queues.set q rest ∧
      (d.length ≤ s.cfg.cMax → ∃ l, s.lane l = .idle ∧ t.lanes = { s.lanes with
        lanes := s.lanes.lanes.set l (.passing h),
        completion := s.lanes.completion ++ [{ frame := h, action := .clear, queue := q, finished := false, header := [],
                                               tag := [], outLength := d.length }],
        inFlight := s.lanes.inFlight.set q (s.lanes.inFlight[q] + 1) } ∧
        t.buf.freeCells = s.buf.freeCells ∧ t.counters = s.counters ∧ Reported s t []) ∧
      (s.cfg.cMax < d.length → t.lanes = s.lanes ∧ t.buf.pool = tableErase s.buf.pool h ∧
        t.buf.freeCells = s.buf.freeCells + d.cells ∧ Reported s t (s.reportOf .oversize none d.length) ∧
        t.counters.frames[FrameCount.clearOversize.index] =
          min (s.counters.frames[FrameCount.clearOversize.index] + 1) (2 ^ 48 - 1))) ∧
  (∀ (s : State) (q : Fin 8) (h : Nat) (rest : List Nat) (d : Descriptor) (a : Fin 64) (k : AssocCount),
    s.takesHead q h rest d → d.action = .encrypt a → d.queue = q →
    (∀ e ∈ s.disp.park, ¬ (e.assoc = a ∧ e.queue = q)) →
    ((s.assoc a).state = .retired ∧ k = .dropRetired) ∨
      ((s.assoc a).state ≠ .retired ∧ s.cfg.cMax < d.length + 28 ∧ k = .dropOversize) →
    ∃ t, exec .dispatch s = .next t ∧
      t.assocs = s.assocs ∧ t.keys = s.keys ∧ t.bus = s.bus ∧ t.lanes = s.lanes ∧
      t.buf.queues = s.buf.queues.set q rest ∧
      t.buf.queueCells = s.buf.queueCells.set q (s.buf.queueCells[q] - d.cells) ∧
      t.buf.pool = tableErase s.buf.pool h ∧ t.buf.freeCells = s.buf.freeCells + d.cells ∧
      t.disp.park = s.disp.park.map (ParkEntry.afterMarks s.disp.marks) ∧ t.disp.parkedCells = s.disp.parkedCells ∧
      Reported s t (s.reportOf (if (s.assoc a).state = .retired then .retired else .oversize) (some a) d.length) ∧
      (t.counters.assoc[a])[k.index] = min ((s.counters.assoc[a])[k.index] + 1) (2 ^ 48 - 1))

/-- A frame taken from a queue that meets the state fault of its association (SETTLING, NO-KEY in DORMANT or KEY-WAIT, BLIND) is
handled by the class's disposition. PARK with room: it joins the tail of the park list with its class, unreleased, at the present
time, its cells count as parked and the park is counted. DROP, or PARK without room (then as DOUBLE): it is released and the drop
counted. A frame that finds a park entry of its association and queue meets no check: it is parked as a follower, with the class
and the released flag of its group and the present time, or dropped as DOUBLE without room. Each is reported as the settings of its
class say: a park with the length the park list then has, a DROP with L, and DOUBLE always, with the parked cells; a report that
the full notice queue cannot take is lost with ALERT_N low. No record and no key changes (R112, R114, R118, R121, R123, R124). -/
def Obligations.StateFaultParksOrDrops : Prop :=
  (∀ (s : State) (q : Fin 8) (h : Nat) (rest : List Nat) (d : Descriptor) (a : Fin 64) (c : ExcClass),
    s.takesHead q h rest d → d.action = .encrypt a → d.queue = q →
    (∀ e ∈ s.disp.park, ¬ (e.assoc = a ∧ e.queue = q)) → d.length + 28 ≤ s.cfg.cMax →
    (((s.assoc a).state = .settling ∧ c = .settling) ∨ ((s.assoc a).state = .dormant ∧ c = .noKey) ∨
      ((s.assoc a).state = .keyWait ∧ c = .noKey) ∨ ((s.assoc a).state = .blind ∧ c = .blind)) →
    s.disp.marks = [] →
    let room := s.disp.park.length < 64 ∧ s.disp.parkedCells + d.cells ≤ s.cfg.parkCap
    ∃ t, exec .dispatch s = .next t ∧
      t.assocs = s.assocs ∧ t.keys = s.keys ∧ t.lanes = s.lanes ∧ t.bus = s.bus ∧
      t.buf.queues = s.buf.queues.set q rest ∧
      Reported s t (if s.disposition c = .park ∧ ¬ room then s.reportOf .double (some a) s.disp.parkedCells
        else s.reportOf c (some a) (if s.disposition c = .park then s.disp.park.length + 1 else d.length)) ∧
      (s.disposition c = .park → room →
        t.disp.park = s.disp.park ++ [{ frame := h, assoc := a, queue := q, cls := c, released := false,
                                        parkTime := s.time, reclassify := 0 }] ∧
        t.disp.parkedCells = s.disp.parkedCells + d.cells ∧ t.buf.pool = s.buf.pool ∧
        t.buf.freeCells = s.buf.freeCells ∧
        (t.counters.assoc[a])[AssocCount.parks.index] =
          min ((s.counters.assoc[a])[AssocCount.parks.index] + 1) (2 ^ 48 - 1)) ∧
      (¬ (s.disposition c = .park ∧ room) →
        t.disp.park = s.disp.park ∧ t.disp.parkedCells = s.disp.parkedCells ∧
        t.buf.pool = tableErase s.buf.pool h ∧ t.buf.freeCells = s.buf.freeCells + d.cells ∧
        ∀ k, (if s.disposition c = .park then ExcClass.double else c).dropCount? = some k →
          (t.counters.assoc[a])[k.index] = min ((s.counters.assoc[a])[k.index] + 1) (2 ^ 48 - 1))) ∧
  (∀ (s : State) (q : Fin 8) (h : Nat) (rest : List Nat) (d : Descriptor) (a : Fin 64) (e : ParkEntry),
    s.takesHead q h rest d → d.action = .encrypt a → d.queue = q →
    s.disp.park.find? (fun x => x.assoc == a && x.queue == q) = some e → s.disp.marks = [] →
    let room := s.disp.park.length < 64 ∧ s.disp.parkedCells + d.cells ≤ s.cfg.parkCap
    ∃ t, exec .dispatch s = .next t ∧
      t.assocs = s.assocs ∧ t.keys = s.keys ∧ t.lanes = s.lanes ∧ t.bus = s.bus ∧
      t.buf.queues = s.buf.queues.set q rest ∧
      t.buf.queueCells = s.buf.queueCells.set q (s.buf.queueCells[q] - d.cells) ∧
      Reported s t (if room then s.reportOf e.cls (some a) (s.disp.park.length + 1)
        else s.reportOf .double (some a) s.disp.parkedCells) ∧
      (room →
        t.disp.park = s.disp.park ++ [{ frame := h, assoc := a, queue := q, cls := e.cls, released := e.released,
                                        parkTime := s.time, reclassify := 0 }] ∧
        t.disp.parkedCells = s.disp.parkedCells + d.cells ∧ t.buf.pool = s.buf.pool ∧
        t.buf.freeCells = s.buf.freeCells ∧
        (t.counters.assoc[a])[AssocCount.parks.index] =
          min ((s.counters.assoc[a])[AssocCount.parks.index] + 1) (2 ^ 48 - 1)) ∧
      (¬ room →
        t.disp.park = s.disp.park ∧ t.disp.parkedCells = s.disp.parkedCells ∧
        t.buf.pool = tableErase s.buf.pool h ∧ t.buf.freeCells = s.buf.freeCells + d.cells ∧
        (t.counters.assoc[a])[AssocCount.dropDouble.index] =
          min ((s.counters.assoc[a])[AssocCount.dropDouble.index] + 1) (2 ^ 48 - 1)))

/-- What becomes of a released entry taken for dispatch. A state fault with disposition PARK: it stays in its place with its park
time, the class of its whole group is set and the group's released flags are cleared, its reclassify count grows when the class
changed, which alone is reported, with that count, and parked cells, frames, records and keys stay. A state fault with disposition
DROP, or an abort (RETIRED, or OVERSIZE): it leaves the list, the others keeping theirs, and its frame is dropped, counted and
reported with L. A LIVE association with a counter at hand: it leaves the list and its frame enters an IDLE lane in KEYING with the
next counter, the epoch and the CURRENT slot, and the prefetch test follows; a queued range promoted releases the STARVED entries.
One with no counter left has its stale ranges reported as STALE-DISCARD, makes its request, and the entry meets STARVED or
EXHAUSTED: with disposition PARK it stays as above, with DROP it leaves and its frame is dropped and counted; at epoch 65535 the
association is RETIRED, its settle view absent (log 12), its park entries released. Each report is as the class's settings say (R9,
R10, R13, R14, R109, R115, R116, R118, R119, R121, R125, R126). -/
def Obligations.ReleasedEntryIsReparked : Prop :=
  (∀ (s : State) (e : ParkEntry) (d : Descriptor) (c : ExcClass),
    s.mayDispatch = true → s.disp.park.find? (fun x => x.released && s.disp.queueState[x.queue] == .active) = some e →
    s.frame? e.frame = some d → d.action = .encrypt e.assoc → d.length + 28 ≤ s.cfg.cMax →
    (((s.assoc e.assoc).state = .settling ∧ c = .settling) ∨ ((s.assoc e.assoc).state = .dormant ∧ c = .noKey) ∨
      ((s.assoc e.assoc).state = .keyWait ∧ c = .noKey) ∨ ((s.assoc e.assoc).state = .blind ∧ c = .blind)) →
    s.disposition c = .park → s.disp.marks = [] →
    ∃ t, exec .dispatch s = .next t ∧
      t.disp.park = s.disp.park.map (fun x =>
        if x.assoc = e.assoc ∧ x.queue = e.queue then
          { x with cls := c, released := false,
                   reclassify := if x.frame = e.frame ∧ e.cls ≠ c then min (x.reclassify + 1) 255 else x.reclassify }
        else x) ∧
      t.disp.parkedCells = s.disp.parkedCells ∧ t.buf.pool = s.buf.pool ∧ t.buf.freeCells = s.buf.freeCells ∧
      Reported s t (if e.cls = c then [] else s.reportOf c (some e.assoc) (min (e.reclassify + 1) 255)) ∧
      t.assocs = s.assocs ∧ t.keys = s.keys ∧ t.lanes = s.lanes ∧ t.bus = s.bus) ∧
  (∀ (s : State) (e : ParkEntry) (d : Descriptor) (c : ExcClass),
    s.mayDispatch = true → s.disp.park.find? (fun x => x.released && s.disp.queueState[x.queue] == .active) = some e →
    s.frame? e.frame = some d → d.action = .encrypt e.assoc →
    ((s.assoc e.assoc).state = .retired ∧ c = .retired) ∨
      ((s.assoc e.assoc).state ≠ .retired ∧ s.cfg.cMax < d.length + 28 ∧ c = .oversize) ∨
      (d.length + 28 ≤ s.cfg.cMax ∧ s.disposition c = .drop ∧
        (((s.assoc e.assoc).state = .settling ∧ c = .settling) ∨ ((s.assoc e.assoc).state = .dormant ∧ c = .noKey) ∨
          ((s.assoc e.assoc).state = .keyWait ∧ c = .noKey) ∨ ((s.assoc e.assoc).state = .blind ∧ c = .blind))) →
    s.disp.marks = [] →
    ∃ t, exec .dispatch s = .next t ∧
      t.disp.park = s.disp.park.filter (fun x => x.frame != e.frame) ∧
      t.disp.parkedCells = s.disp.parkedCells - d.cells ∧ t.buf.pool = tableErase s.buf.pool e.frame ∧
      t.buf.freeCells = s.buf.freeCells + d.cells ∧
      t.assocs = s.assocs ∧ t.keys = s.keys ∧ t.lanes = s.lanes ∧ t.bus = s.bus ∧
      Reported s t (s.reportOf c (some e.assoc) d.length) ∧
      ∀ k, c.dropCount? = some k →
        (t.counters.assoc[e.assoc])[k.index] = min ((s.counters.assoc[e.assoc])[k.index] + 1) (2 ^ 48 - 1)) ∧
  (∀ (s : State) (e : ParkEntry) (d : Descriptor) (x : ActiveRange) (j : Fin 4),
    s.mayDispatch = true → s.disp.park.find? (fun x => x.released && s.disp.queueState[x.queue] == .active) = some e →
    s.frame? e.frame = some d → d.action = .encrypt e.assoc → d.length + 28 ≤ s.cfg.cMax →
    (s.assoc e.assoc).state = .live →
    (s.assoc e.assoc).epochOrZero < 65535 ∨ (s.assoc e.assoc).front < s.limit e.assoc →
    (s.assoc e.assoc).active = some x →
    (s.assoc e.assoc).front < x.next + ((s.assocDef e.assoc).window - (s.assocDef e.assoc).guard) →
    slotWithRole (s.slots e.assoc) .current = some j →
    ∃ t l, exec .dispatch s = .next t ∧ s.lane l = .idle ∧
      t.lane l = .keying e.frame { assoc := e.assoc, index := j } ∧ (∀ m, m ≠ l → t.lane m = s.lane m) ∧
      t.disp.park = (s.disp.park.filter (fun x => x.frame != e.frame)).map (ParkEntry.afterEvent s.disp.marks
        (fun b c => b == e.assoc && c == .starved &&
          decide (x.stop ≤ x.next ∧ (s.assoc e.assoc).queued.isSome = true))) ∧
      t.disp.parkedCells = s.disp.parkedCells - d.cells ∧ t.buf.queues = s.buf.queues ∧
      t.lanes.completion.map (·.frame) = s.lanes.completion.map (·.frame) ++ [e.frame] ∧
      t.buf.pool = tablePut s.buf.pool e.frame { d with
        assigned := some { counter := x.next, epoch := (s.assoc e.assoc).epochOrZero,
                           slot := { assoc := e.assoc, index := j } } } ∧
      t.buf.freeCells = s.buf.freeCells ∧ (t.assoc e.assoc).assigned = x.next ∧
      Prefetches s t e.assoc (s.assoc e.assoc).leftAfterNext ∧ Reported s t [] ∧
      (∀ b, b ≠ e.assoc → t.assoc b = s.assoc b)) ∧
  (∀ (s : State) (e : ParkEntry) (d : Descriptor),
    s.mayDispatch = true → s.disp.park.find? (fun x => x.released && s.disp.queueState[x.queue] == .active) = some e →
    s.frame? e.frame = some d → d.action = .encrypt e.assoc → d.length + 28 ≤ s.cfg.cMax →
    (s.assoc e.assoc).state = .live → s.noCounter e.assoc →
    let c : ExcClass := if s.limit e.assoc ≤ (s.assoc e.assoc).front then .exhausted else .starved
    let marks := s.disp.marks ++ s.walkMarks e.assoc
    let regrouped := s.disp.park.map (fun x =>
      if x.assoc = e.assoc ∧ x.queue = e.queue then
        { x with cls := c, released := false,
                 reclassify := if x.frame = e.frame ∧ e.cls ≠ c then min (x.reclassify + 1) 255 else x.reclassify }
      else x)
    let staying := s.disp.park.filter (fun x => x.frame != e.frame)
    ∃ t, exec .dispatch s = .next t ∧ RequestsCounters s t e.assoc (s.assoc e.assoc).walked ∧
      (∀ b, b ≠ e.assoc → t.assoc b = s.assoc b) ∧ t.buf.queues = s.buf.queues ∧
      Reported s t (s.walkReports e.assoc ++
        (if s.disposition c = .park then
          if e.cls = c then [] else s.reportOf c (some e.assoc) (min (e.reclassify + 1) 255)
         else s.reportOf c (some e.assoc) d.length)) ∧
      ((s.assoc e.assoc).front < s.limit e.assoc ∨ (s.assoc e.assoc).epochOrZero ≠ 65535 →
        t.lanes = s.lanes ∧ t.keys = s.keys ∧
        (s.disposition c = .park →
          t.disp.park = regrouped.map (ParkEntry.afterMarks marks) ∧ t.disp.parkedCells = s.disp.parkedCells ∧
          t.buf.pool = s.buf.pool ∧ t.buf.freeCells = s.buf.freeCells) ∧
        (s.disposition c = .drop →
          t.disp.park = staying.map (ParkEntry.afterMarks marks) ∧
          t.disp.parkedCells = s.disp.parkedCells - d.cells ∧ t.buf.pool = tableErase s.buf.pool e.frame ∧
          t.buf.freeCells = s.buf.freeCells + d.cells ∧
          ∀ k, c.dropCount? = some k → (t.counters.assoc[e.assoc])[k.index] =
            min ((s.counters.assoc[e.assoc])[k.index] + 1) (2 ^ 48 - 1))) ∧
      (s.limit e.assoc ≤ (s.assoc e.assoc).front → (s.assoc e.assoc).epochOrZero = 65535 →
        (s.disposition c = .park →
          t.disp.park = regrouped.map (ParkEntry.afterEvent s.disp.marks (fun b k => b == e.assoc && k.isFault)) ∧
          t.disp.parkedCells = s.disp.parkedCells) ∧
        (s.disposition c = .drop →
          t.disp.park = staying.map (ParkEntry.afterEvent s.disp.marks (fun b k => b == e.assoc && k.isFault)) ∧
          t.disp.parkedCells = s.disp.parkedCells - d.cells ∧ t.frame? e.frame = none)))

/-- An entry whose age has reached the hold limit leaves the park list, its frame is released with its cells, and a drop of
PARK-TIMEOUT is counted and, as the class's settings say, reported with the time the frame spent in the part (R121, R127); below
the limit the event does not occur, so that nothing changes (log 1). -/
def Obligations.ParkTimeoutDropsFrame : Prop :=
  ∀ (s : State) (h : Fin 1024) (e : ParkEntry) (d : Descriptor) (a : Fin 64),
    s.disp.park.filter (fun x => x.frame == h.val) = [e] → s.frame? h.val = some d → d.action = .encrypt a →
    s.disp.marks = [] →
    ∃ t, exec (.parkTimeout h) s = .next t ∧
      ((s.time - e.parkTime).toNat < 50 * s.cfg.holdLimit → t = s) ∧
      (50 * s.cfg.holdLimit ≤ (s.time - e.parkTime).toNat →
        t.disp.park = s.disp.park.filter (fun x => x.frame != h.val) ∧
        t.disp.parkedCells = s.disp.parkedCells - d.cells ∧ t.buf.pool = tableErase s.buf.pool h.val ∧
        Reported s t (s.reportOf .parkTimeout (some a) (s.time - d.arrival).toNat) ∧
        t.buf.freeCells = s.buf.freeCells + d.cells ∧ t.assocs = s.assocs ∧ t.keys = s.keys ∧ t.lanes = s.lanes ∧
        (t.counters.assoc[a])[AssocCount.dropParkTimeout.index] =
          min ((s.counters.assoc[a])[AssocCount.dropParkTimeout.index] + 1) (2 ^ 48 - 1))

/-! ## Lanes and the campus port -/

/-- KEY_TAKE_UP with a slot unchanged since it was written and a check value that matches copies the key material into the lane,
which enters WORKING. CLEAR_PASS_DONE makes the frame's completion entry FINISHED with no tag and the lane IDLE. Nothing else
changes (R134, R136). -/
def Obligations.LanesTakeUpAndPass : Prop :=
  ∀ (s : State) (l : Fin 4) (h : Nat),
    (∀ r : SlotRef, s.lane l = .keying h r →
      (s.slot r).check = slotCheckValue r.assoc.val (s.slot r).epoch (s.slot r).limit (s.slot r).key →
      ∃ t, exec (.keyTakeUp l { material := 0, check := 0 }) s = .next t ∧
        Settled { s with lanes := { s.lanes with
          lanes := s.lanes.lanes.set l (.enciphering h r (s.slot r).key) } } t) ∧
    (s.lane l = .passing h →
      ∃ t, exec (.clearPassDone l) s = .next t ∧
        Settled { s with lanes := { s.lanes with
          lanes := s.lanes.lanes.set l .idle,
          completion := s.lanes.completion.map (fun y =>
            if y.frame = h then { y with finished := true, tag := [] } else y) } } t)

/-- A key check failure wipes the slot and takes every frame that names it out of its lane; a LIVE association whose CURRENT slot
failed becomes KEY-WAIT in the same epoch with its reservation discarded and its claim cancelled, keeping e, h, u, k, a, its rekey
flag and any pending advance, and any other keeps its record. Every other lane, slot and association is as before. The frames
aborted are released with their cells, their completion entries leave, their queues have so many fewer in flight (a QUIESCING one
at 0 becomes QUIESCED, with its notice), and they count as KEY-CHECK drops; the counters lost count under KEY-LOSS. One EXCEPTION
of class KEY-CHECK, with alert whatever the settings, gives the slot's epoch and the number of frames, and a key lost so is
KEY-WANTED (R24, R71, R90, R119, R121, R131, R134, R137, R146, R148). What makes the value differ is the command's operand, the
model's choice (log 19). -/
def Obligations.KeyCheckFailureWipesSlot : Prop :=
  ∀ (s : State) (l : Fin 4) (h : Nat) (r : SlotRef) (u : SlotUpset),
    s.lane l = .keying h r →
    ((s.slot r).check ^^^ u.check) ≠
      slotCheckValue r.assoc.val (s.slot r).epoch (s.slot r).limit ((s.slot r).key ^^^ u.material) →
    ∃ t, exec (.keyTakeUp l u) s = .next t ∧
      t.slot r = KeySlot.wiped ∧ (∀ p : SlotRef, p ≠ r → t.slot p = s.slot p) ∧
      (∀ m : Fin 4, t.lane m = if (s.lane m).slot? = some r then .idle else s.lane m) ∧
      (∀ b : Fin 64, b ≠ r.assoc → t.assoc b = s.assoc b) ∧
      t.assoc r.assoc =
        (if (s.slot r).role = .current ∧ (s.assoc r.assoc).state = .live then
          { s.assoc r.assoc with state := .keyWait, active := none, queued := none, pendingClaim := false }
        else s.assoc r.assoc) ∧
      t.segMap = s.segMap ∧ t.engine = s.engine ∧ t.buf.queues = s.buf.queues ∧
      let failed := (List.finRange 4).filter (fun m => (s.lane m).slot? == some r)
      let aborted := failed.filterMap (fun m => (s.lane m).frame?)
      let lost := (s.slot r).role = .current ∧ (s.assoc r.assoc).state = .live
      t.lanes.completion = s.lanes.completion.filter (fun y => !aborted.contains y.frame) ∧
      (∀ x, t.frame? x = if x ∈ aborted then none else s.frame? x) ∧
      (FramesAccounted s → t.buf.freeCells = s.buf.freeCells + s.cellsOf aborted ∧
        ∀ q : Fin 8,
          let n := aborted.countP (fun x => (s.frame? x).any (fun d => d.queue == q))
          let ends := s.disp.queueState[q] = .quiescing ∧ n ≠ 0 ∧ s.lanes.inFlight[q] = n
          t.lanes.inFlight[q] = s.lanes.inFlight[q] - n ∧
          t.disp.queueState[q] = (if ends then .quiesced else s.disp.queueState[q]) ∧
          (NoticesKept s t → ends → s.quiescedNotice q ∈ t.status.notices)) ∧
      (t.counters.assoc[r.assoc])[AssocCount.dropKeyCheck.index] =
        min ((s.counters.assoc[r.assoc])[AssocCount.dropKeyCheck.index] + failed.length) (2 ^ 48 - 1) ∧
      (lost → (t.counters.assoc[r.assoc])[AssocCount.discardKeyLoss.index] =
        min ((s.counters.assoc[r.assoc])[AssocCount.discardKeyLoss.index] + (s.assoc r.assoc).reservationCount)
          (2 ^ 48 - 1)) ∧
      (lost → { kind := .claim, assoc := r.assoc } ∉ t.bus.txList) ∧
      Notified s t r.assoc.val
        (if lost then [s.keyNotice .keyWanted .none r.assoc (s.assoc r.assoc).epochOrZero] else []) ∧
      Reported s t [{ s.exceptionNotice .keyCheck (some r.assoc) (s.slot r).epoch with count := failed.length }]

/-- LANE_FINISH writes the AES-256-GCM ciphertext over bytes 12 to L − 1 of the frame, puts the tag over addresses, header and
ciphertext into its completion entry, which becomes FINISHED, lowers the slot's use count, wipes a RETIRING slot that reaches 0,
and frees the lane; no record changes (R53, R135, R140). AES-256-GCM is that of the standards (log 4). -/
def Obligations.LaneFinishEnciphers : Prop :=
  ∀ (s : State) (l : Fin 4) (h : Nat) (r : SlotRef) (key : BitVec 256) (d : Descriptor) (x : Assigned) (e : CompletionEntry),
    s.lane l = .enciphering h r key → s.frame? h = some d → d.assigned = some x →
    s.lanes.completion.find? (fun y => y.frame == h) = some e → tableSorted s.buf.pool →
    let nonce := beBytes 1 x.slot.assoc.val ++ [0] ++ beBytes 2 x.epoch ++ beBytes 6 x.counter ++ [0, 0]
    let cipher := gcmCrypt key nonce (d.data.drop 12)
    let used := { s.slot r with uses := (s.slot r).uses - 1 }
    ∃ t, exec (.laneFinish l) s = .next t ∧
      t.frame? h = some { d with data := d.data.take 12 ++ cipher } ∧ (∀ g, g ≠ h → t.frame? g = s.frame? g) ∧
      t.lane l = .idle ∧ (∀ m, m ≠ l → t.lane m = s.lane m) ∧
      t.lanes.completion = s.lanes.completion.map (fun y =>
        if y.frame = h then
          { y with finished := true, tag := gcmTag key nonce (d.data.take 12 ++ e.header) cipher }
        else y) ∧
      t.slot r = (if used.role = .retiring ∧ used.uses = 0 then KeySlot.wiped else used) ∧
      (∀ p, p ≠ r → t.slot p = s.slot p) ∧ t.assocs = s.assocs ∧ t.buf.freeCells = s.buf.freeCells ∧
      t.lanes.inFlight = s.lanes.inFlight ∧ t.segMap = s.segMap ∧ t.counters = s.counters

/-- CAMPUS_FRAME_SENT removes the head entry, releases its frame and its cells, lowers its queue's in-flight count (a QUIESCING
queue that reaches 0 becomes QUIESCED, with the notice QUEUE-QUIESCED), counts the frame, for an ENCRYPT frame with its L − 12
octets, and no record or key changes (R143, R146, R148, R152). -/
def Obligations.CampusFrameSentReleases : Prop :=
  ∀ (s : State) (f : WireFrame) (e : CompletionEntry) (rest : List CompletionEntry) (d : Descriptor),
    s.campus.sending = some f → s.lanes.completion = e :: rest → s.frame? e.frame = some d →
    ∃ t, exec .campusFrameSent s = .next t ∧
      t.lanes.completion = rest ∧ t.buf.pool = tableErase s.buf.pool e.frame ∧
      t.buf.freeCells = s.buf.freeCells + d.cells ∧
      t.lanes.inFlight = s.lanes.inFlight.set e.queue (s.lanes.inFlight[e.queue] - 1) ∧
      (t.disp.queueState[e.queue] =
        if s.lanes.inFlight[e.queue] = 1 ∧ s.disp.queueState[e.queue] = .quiescing then .quiesced
        else s.disp.queueState[e.queue]) ∧
      Notified s t 255 (if s.lanes.inFlight[e.queue] = 1 ∧ s.disp.queueState[e.queue] = .quiescing then
        [s.quiescedNotice e.queue] else []) ∧
      (match e.action with
        | .encrypt a =>
          (t.counters.assoc[a])[AssocCount.framesEncrypted.index] =
            min ((s.counters.assoc[a])[AssocCount.framesEncrypted.index] + 1) (2 ^ 48 - 1) ∧
          (t.counters.assoc[a])[AssocCount.octetsEncrypted.index] =
            min ((s.counters.assoc[a])[AssocCount.octetsEncrypted.index] + (d.length - 12)) (2 ^ 48 - 1)
        | .clear => t.counters.frames[FrameCount.clearSent.index] =
            min (s.counters.frames[FrameCount.clearSent.index] + 1) (2 ^ 48 - 1)) ∧
      t.lanes.lanes = s.lanes.lanes ∧ t.assocs = s.assocs ∧ t.keys = s.keys ∧ t.bus = s.bus ∧ t.engine = s.engine

/-! ## The command engine -/

/-- COMMAND_FRAME_CHECK on the head frame in CHECKING. It authenticates when it holds 35 + B bytes and its 16-byte tag is the GMAC
under the command key, with own address, command type, command tag and 0000h as nonce, of bytes 14 to 18 + B. It then enters
EXECUTING when the reply list has a free entry or it is a decoded ZEROIZE, and WAITING otherwise. A frame that fails leaves the
list, the AUTH count grows, and nothing else changes (R155, R157). GMAC is that of the standards (log 4). -/
def Obligations.CommandFrameIsChecked : Prop :=
  ∀ (s : State) (data : List Byte) (rest : List (List Byte)),
    s.engine.state = .checking → s.engine.input = data :: rest →
    let B := field data 17 2
    let nonce := beBytes 6 s.cfg.ownAddress.toNat ++ beBytes 2 s.cfg.commandType.toNat ++
      beBytes 2 (commandTag data).toNat ++ [0, 0]
    let passes := 35 + B ≤ data.length ∧
      gcmTag s.engine.commandKey nonce ((data.drop 14).take (5 + B)) [] = (data.drop (19 + B)).take 16
    ∃ t, exec .commandFrameCheck s = .next t ∧
      (passes → Settled { s with engine := { s.engine with
        state := if (commandCode data = 0x0a ∧ B = 0) ∨ s.status.replies.length < 4 then .executing else .waiting } } t) ∧
      (¬ passes → Settled { s with
        engine := { s.engine with input := rest, state := if rest = [] then .idle else .checking },
        counters := { s.counters with
          frames := s.counters.frames.set FrameCount.commandAuth.index
            (min (s.counters.frames[FrameCount.commandAuth.index] + 1) (2 ^ 48 - 1)) } } t)

/-- An executing command that is not decoded changes nothing outside the engine and is answered with its tag and code, value 0:
REFUSED-UNKNOWN for a code outside 01h to 0Ah, REFUSED-FORMAT for a body length other than its code requires (R156, R158). A command
that names an association that is undefined or above 63, in either field for MOVE-SEGMENTS, is refused likewise with REFUSED-RANGE,
whatever its other fields hold and whatever the states of associations are (R161). -/
def Obligations.UndecodedCommandIsRefused : Prop :=
  ∀ (s : State) (data : List Byte) (rest : List (List Byte)),
    s.engine.state = .executing → s.engine.input = data :: rest →
    ((commandCode data).toNat = 0 ∨ 10 < (commandCode data).toNat →
      ∃ t, exec .unknownCommand s = .next t ∧ Settled (s.answered data rest .refusedUnknown 0 []) t) ∧
    (∀ (code : Byte) (c : Instr),
      (code, c) ∈ [((0x01 : Byte), Instr.installKey), (0x02, .writeSegments), (0x03, .moveSegments), (0x04, .advanceEpoch),
        (0x05, .retireSa), (0x06, .flushSa), (0x07, .quiesceQueue), (0x08, .resumeQueue), (0x09, .readStatus),
        (0x0a, .zeroize)] →
      commandCode data = code → bodyLengthFits code.toNat (bodyLength data) (commandBody data) = false →
      ∃ t, exec c s = .next t ∧ Settled (s.answered data rest .refusedFormat 0 []) t) ∧
    (∀ (code : Byte) (c : Instr) (offsets : List Nat),
      (code, c, offsets) ∈ [((0x01 : Byte), Instr.installKey, [0]), (0x03, .moveSegments, [0, 1]), (0x04, .advanceEpoch, [0]),
        (0x05, .retireSa, [0]), (0x06, .flushSa, [0])] →
      s.runs code data rest →
      (∃ i ∈ offsets, ∀ a : Fin 64, a.val = (byteAt (commandBody data) i).toNat → (s.assocDef a).defined = false) →
      ∃ t, exec c s = .next t ∧ Settled (s.answered data rest .refusedRange 0 []) t)

/-- INSTALL-KEY while the device is SETTLING. For a SETTLING association: with a PENDING key of the same epoch, a failed unwrap
check is REFUSED-WRAP and else the key replaces that one in its slot; with none, two PENDING slots of other epochs are
REFUSED-NO-SLOT, and else a failed unwrap check is REFUSED-WRAP and the key goes into an EMPTY slot: of several the
lowest-numbered one, the model's choice (log 33). The key replaced is reported KEY-DISCARDED. A key written is PENDING with its
check value, and the reply is DONE with role and state. For a RETIRED association the install is REFUSED-STATE. No other slot, no
record and no frame changes, and the unwrap store is clear. An epoch of 0 or a λ of 0 is REFUSED-RANGE with value 0 in every
state, and nothing changes (R52, R57, R162, R163, R175). -/
def Obligations.InstallWhileSettling : Prop :=
  (∀ (s : State) (data : List Byte) (rest : List (List Byte)) (a : Fin 64),
    s.runs 0x01 data rest → s.definedAssoc? (byteAt (commandBody data) 0) = some a →
    s.device = .settling → (s.assoc a).state = .settling ∨ (s.assoc a).state = .retired →
    let i := unwrapInstall s.engine.wrapKey (commandBody data)
    i.epoch ≠ 0 → i.limit ≠ 0 →
    let key : KeySlot := { role := .pending, epoch := i.epoch, key := i.key, limit := i.limit,
                           check := slotCheckValue a.val i.epoch i.limit i.key, uses := 0 }
    let view := match (s.assoc a).epoch with
      | some e => e
      | none => match (s.assoc a).settleView with | some v => v.epoch | none => 0
    let reply := fun (result : CommandResult) (value : Nat) => s.status.replies ++
      [{ tag := commandTag data, code := 0x01, result := result, value := value, counters := [] }]
    ∃ t, exec .installKey s = .next t ∧
      t.assocs = s.assocs ∧ t.segMap = s.segMap ∧ t.buf.pool = s.buf.pool ∧ t.lanes = s.lanes ∧
      t.engine = { s.engine with input := rest, state := if rest = [] then .idle else .checking, unwrapStore := 0 } ∧
      ((s.assoc a).state = .retired → t.keys = s.keys ∧ t.status.replies = reply .refusedState view) ∧
      (∀ j : Fin 4, (s.assoc a).state = .settling →
        findSlot (s.slots a) (fun k => k.role == .pending && k.epoch == i.epoch) = some j →
        (i.unwrapOk = true → t.slot { assoc := a, index := j } = key ∧
          (∀ r : SlotRef, r ≠ { assoc := a, index := j } → t.slot r = s.slot r) ∧ t.status.replies = reply .done 257 ∧
          Notified s t a.val [s.keyNotice .keyDiscarded .none a i.epoch]) ∧
        (i.unwrapOk = false → t.keys = s.keys ∧ t.status.replies = reply .refusedWrap view)) ∧
      ((s.assoc a).state = .settling →
        findSlot (s.slots a) (fun k => k.role == .pending && k.epoch == i.epoch) = none →
        (2 ≤ countSlots (s.slots a) (fun k => k.role == .pending) →
          t.keys = s.keys ∧ t.status.replies = reply .refusedNoSlot view) ∧
        (countSlots (s.slots a) (fun k => k.role == .pending) < 2 → i.unwrapOk = true →
          ∀ j : Fin 4, slotWithRole (s.slots a) .empty = some j →
            t.slot { assoc := a, index := j } = key ∧
            (∀ r : SlotRef, r ≠ { assoc := a, index := j } → t.slot r = s.slot r) ∧
            t.status.replies = reply .done 257 ∧ Notified s t a.val []) ∧
        (countSlots (s.slots a) (fun k => k.role == .pending) < 2 → i.unwrapOk = false →
          t.keys = s.keys ∧ t.status.replies = reply .refusedWrap view))) ∧
  (∀ (s : State) (data : List Byte) (rest : List (List Byte)) (a : Fin 64),
    s.runs 0x01 data rest → s.definedAssoc? (byteAt (commandBody data) 0) = some a →
    field (commandBody data) 1 2 = 0 ∨ field (commandBody data) 3 6 = 0 →
    ∃ t, exec .installKey s = .next t ∧ Settled (s.answered data rest .refusedRange 0 []) t)

/-- INSTALL-KEY after settle, for an association in epoch e. At e in KEY-WAIT the key becomes CURRENT and the association LIVE with
its h kept (value 514); at e + 1 it becomes STANDBY, in the slot of a STANDBY already present or else an EMPTY one, and a HELD
advance becomes QUEUED with its entry, the reply giving role and state; of several EMPTY slots either takes the lowest-numbered
one, the model's choice (log 33); with a failed unwrap check either is REFUSED-WRAP; at any other epoch up to e the install is
REFUSED-STALE-EPOCH, above e + 1 REFUSED-TOO-FAR, and in RETIRED REFUSED-STATE. A refused install changes no key and no record and
releases nothing (R58, R60, R62, R163, R175). For a DORMANT association the epoch e* and front V of its settle view decide: below
e* the install is REFUSED-STALE-EPOCH, above e* + 1 REFUSED-TOO-FAR; at e* the key is CURRENT and the association LIVE in e* with h
= V, at e* + 1 it is STANDBY and the association KEY-WAIT in e* with h = V. With no view the key is CURRENT and the association
BLIND in its epoch, where an advance with reason BLIND is HELD, or RETIRED at once in epoch 65535 (R55, R59, R61, R70). A CURRENT
key placed releases the NO-KEY entries of the park list, a STANDBY none, and the retirement at 65535 those of all five classes
(R125). Each key placed is reported KEY-PLACED, a STANDBY replaced KEY-DISCARDED before it, an epoch entered without its key, or
wanted by a HELD advance, KEY-WANTED before it, and the retirement at 65535 ADVANCED with reason EPOCH-END before it (R56, log 13);
that this notice names this station as the initiating one is the model's inference (log 14). An epoch of 0 or a λ of 0 is
REFUSED-RANGE with value 0 and changes nothing (R162). -/
def Obligations.InstallAfterSettle : Prop :=
  (∀ (s : State) (data : List Byte) (rest : List (List Byte)) (a : Fin 64) (e : Nat),
    s.runs 0x01 data rest → s.definedAssoc? (byteAt (commandBody data) 0) = some a →
    s.device = .running → (s.assoc a).epoch = some e → (s.assoc a).state.inEpoch = true ∨ (s.assoc a).state = .retired →
    let i := unwrapInstall s.engine.wrapKey (commandBody data)
    i.epoch ≠ 0 → i.limit ≠ 0 →
    let key := fun (role : Role) => ({ role := role, epoch := i.epoch, key := i.key, limit := i.limit,
                                       check := slotCheckValue a.val i.epoch i.limit i.key, uses := 0 } : KeySlot)
    let same := fun (t : State) => t.assocs = s.assocs ∧ t.keys = s.keys ∧ Releases s t (fun _ _ => false)
    let reply := fun (result : CommandResult) (value : Nat) => s.status.replies ++
      [{ tag := commandTag data, code := 0x01, result := result, value := value, counters := [] }]
    ∃ t, exec .installKey s = .next t ∧ t.segMap = s.segMap ∧ t.buf.pool = s.buf.pool ∧ t.lanes = s.lanes ∧
      t.engine = { s.engine with input := rest, state := if rest = [] then .idle else .checking, unwrapStore := 0 } ∧
      (∀ b, b ≠ a → t.assoc b = s.assoc b ∧ t.slots b = s.slots b) ∧
      ((s.assoc a).state = .keyWait → i.epoch = e → i.unwrapOk = true →
        ∀ j : Fin 4, slotWithRole (s.slots a) .empty = some j →
          t.slot { assoc := a, index := j } = key .current ∧
          (∀ m : Fin 4, m ≠ j → t.slot { assoc := a, index := m } = s.slot { assoc := a, index := m }) ∧
          t.assoc a = { s.assoc a with state := .live } ∧ t.status.replies = reply .done 514 ∧
          Releases s t (fun b c => b == a && c == .noKey) ∧
          Notified s t a.val [s.keyNotice .keyPlaced (.role .current) a e]) ∧
      ((s.assoc a).state.inEpoch = true → i.epoch = e + 1 → i.unwrapOk = true →
        ∀ j : Fin 4, (match slotWithRole (s.slots a) .standby with
            | some j => some j
            | none => slotWithRole (s.slots a) .empty) = some j →
          t.slot { assoc := a, index := j } = key .standby ∧
          (∀ m : Fin 4, m ≠ j → t.slot { assoc := a, index := m } = s.slot { assoc := a, index := m }) ∧
          (∀ p, (s.assoc a).pendingAdvance = some p → p.condition = .held →
            (t.assoc a).pendingAdvance = some { p with condition := .queued } ∧
            { kind := .advance, assoc := a } ∈ t.bus.txList) ∧
          (t.assoc a).state = (s.assoc a).state ∧ (t.assoc a).epoch = some e ∧ Releases s t (fun _ _ => false) ∧
          Notified s t a.val ((if (s.slots a)[j].role = .standby then
            [s.keyNotice .keyDiscarded .none a (s.slots a)[j].epoch] else []) ++
            [s.keyNotice .keyPlaced (.role .standby) a (e + 1)]) ∧
          t.status.replies = reply .done (3 + 256 * (match (s.assoc a).state with | .live => 2 | .blind => 3 | _ => 4))) ∧
      ((s.assoc a).state.inEpoch = true →
        (((i.epoch = e ∧ (s.assoc a).state = .keyWait) ∨ i.epoch = e + 1) → i.unwrapOk = false →
          same t ∧ t.status.replies = reply .refusedWrap e) ∧
        (i.epoch ≤ e → ¬ (i.epoch = e ∧ (s.assoc a).state = .keyWait) →
          same t ∧ t.status.replies = reply .refusedStaleEpoch e) ∧
        (e + 1 < i.epoch →
          same t ∧ t.status.replies = reply .refusedTooFar e)) ∧
      ((s.assoc a).state = .retired →
        same t ∧ t.status.replies = reply .refusedState e)) ∧
  (∀ (s : State) (data : List Byte) (rest : List (List Byte)) (a : Fin 64),
    s.runs 0x01 data rest → s.definedAssoc? (byteAt (commandBody data) 0) = some a →
    s.device = .running → (s.assoc a).state = .dormant → (s.assoc a).epoch = none → (s.assoc a).pendingAdvance = none →
    (∀ j : Fin 4, (s.slots a)[j] = KeySlot.wiped) →
    let i := unwrapInstall s.engine.wrapKey (commandBody data)
    i.epoch ≠ 0 → i.limit ≠ 0 →
    let key := fun (role : Role) => ({ role := role, epoch := i.epoch, key := i.key, limit := i.limit,
                                       check := slotCheckValue a.val i.epoch i.limit i.key, uses := 0 } : KeySlot)
    let holdsOnly := fun (t : State) (role : Role) => ∃ j : Fin 4, t.slot { assoc := a, index := j } = key role ∧
      ∀ m : Fin 4, m ≠ j → t.slot { assoc := a, index := m } = KeySlot.wiped
    let placed := fun (state : AssocState) (epoch : Nat) (hwm : Option Nat) => ({ s.assoc a with
      state := state, epoch := some epoch, hwm := hwm, assigned := 0, acc := 0, active := none, queued := none,
      rekeyRequested := false, settleView := none } : Assoc)
    let same := fun (t : State) => t.assocs = s.assocs ∧ t.keys = s.keys ∧ Releases s t (fun _ _ => false)
    let reply := fun (result : CommandResult) (value : Nat) => s.status.replies ++
      [{ tag := commandTag data, code := 0x01, result := result, value := value, counters := [] }]
    ∃ t, exec .installKey s = .next t ∧ t.segMap = s.segMap ∧ t.buf.pool = s.buf.pool ∧ t.lanes = s.lanes ∧
      t.engine = { s.engine with input := rest, state := if rest = [] then .idle else .checking, unwrapStore := 0 } ∧
      (∀ b, b ≠ a → t.assoc b = s.assoc b ∧ t.slots b = s.slots b) ∧
      (∀ v : SettleView, (s.assoc a).settleView = some v → 0 < v.epoch →
        (i.epoch < v.epoch →
          same t ∧ t.status.replies = reply .refusedStaleEpoch v.epoch) ∧
        (v.epoch + 1 < i.epoch →
          same t ∧ t.status.replies = reply .refusedTooFar v.epoch) ∧
        (v.epoch ≤ i.epoch → i.epoch ≤ v.epoch + 1 → i.unwrapOk = false →
          same t ∧ t.status.replies = reply .refusedWrap v.epoch) ∧
        (i.epoch = v.epoch → i.unwrapOk = true →
          t.assoc a = placed .live v.epoch (some v.hwm) ∧ holdsOnly t .current ∧ t.status.replies = reply .done 514 ∧
            Releases s t (fun b c => b == a && c == .noKey) ∧
            Notified s t a.val [s.keyNotice .keyPlaced (.role .current) a v.epoch]) ∧
        (i.epoch = v.epoch + 1 → i.unwrapOk = true →
          t.assoc a = placed .keyWait v.epoch (some v.hwm) ∧ holdsOnly t .standby ∧
            t.status.replies = reply .done 1027 ∧ Releases s t (fun _ _ => false) ∧
            Notified s t a.val [s.keyNotice .keyWanted .none a v.epoch,
              s.keyNotice .keyPlaced (.role .standby) a (v.epoch + 1)])) ∧
      ((s.assoc a).settleView = none →
        (i.unwrapOk = false → same t ∧ t.status.replies = reply .refusedWrap 0) ∧
        (i.unwrapOk = true → i.epoch ≠ 65535 →
          t.assoc a = { placed .blind i.epoch none with
            pendingAdvance := some { target := i.epoch + 1, reason := .blind, condition := .held } } ∧
          holdsOnly t .current ∧ t.status.replies = reply .done 770 ∧ Releases s t (fun b c => b == a && c == .noKey) ∧
          Notified s t a.val [s.keyNotice .keyWanted .none a (i.epoch + 1),
            s.keyNotice .keyPlaced (.role .current) a i.epoch]) ∧
        (i.unwrapOk = true → i.epoch = 65535 →
          t.assoc a = { placed .retired 65535 none with pendingClaim := false } ∧
          (∀ j : Fin 4, t.slot { assoc := a, index := j } = KeySlot.wiped) ∧
          Releases s t (fun b c => b == a && c.isFault) ∧
          Notified s t a.val [s.advancedNotice .epochEnd a 65535 s.station.toNat true,
            s.keyNotice .keyPlaced (.role .current) a 65535]))) ∧
  (∀ (s : State) (data : List Byte) (rest : List (List Byte)) (a : Fin 64),
    s.runs 0x01 data rest → s.definedAssoc? (byteAt (commandBody data) 0) = some a → s.device = .running →
    field (commandBody data) 1 2 = 0 ∨ field (commandBody data) 3 6 = 0 →
    ∃ t, exec .installKey s = .next t ∧ Settled (s.answered data rest .refusedRange 0 []) t)

/-- A WRITE-SEGMENTS with start index at most 4095, count n from 1 to 256 and every entry valid writes entry m of its list whole
at index (i + m) modulo 4096 and leaves every other index; with any test failed before its first entry it writes nothing and is
REFUSED-RANGE. Each event of the command writes the next entry, so that receptions and scan steps fall between two writes (log
27): the command stays in EXECUTING until the last is written, and then its reply is DONE with the count. Nothing else changes
(R75, R79, R80, R81, R157, R164). -/
def Obligations.WriteSegmentsWritesList : Prop :=
  ∀ (s : State) (data : List Byte) (rest : List (List Byte)),
    s.runs 0x02 data rest → SegMapKept s →
    let body := commandBody data
    let i := field body 0 2
    let n := field body 2 2
    let entry := fun (m : Nat) => s.cfg.entry? (field body (4 + 2 * m) 2)
    let valid := i ≤ 4095 ∧ 1 ≤ n ∧ n ≤ 256 ∧ ∀ m, m < n → (entry m).isSome
    let m := s.engine.written
    ∃ t, exec .writeSegments s = .next t ∧
      (valid → m < n →
        some (SegMap.read t.segMap ((i + m) % 4096)) = entry m ∧ SegMapKept t ∧
        (∀ k, k ≠ (i + m) % 4096 → SegMap.read t.segMap k = SegMap.read s.segMap k) ∧
        (m + 1 < n → Settled { s with segMap := t.segMap, engine := { s.engine with written := m + 1 } } t) ∧
        (m + 1 = n → Settled ({ s with
          segMap := t.segMap, engine := { s.engine with written := 0 } }.answered data rest .done n []) t)) ∧
      (¬ valid → m = 0 → Settled (s.answered data rest .refusedRange 0 []) t)

/-- MOVE-SEGMENTS of two different defined associations with no scan running begins a scan at position 0 with count 0 and is
ACCEPTED; with a scan running it is REFUSED-BUSY with the scan's position; an undefined or equal pair is REFUSED-RANGE. A scan
step rewrites the entry at its position when it is ENCRYPT naming the from-association, keeping its queue and adding one to the
moved count, and leaves every other entry; it goes on to the next position, and the step at 4095 ends the scan with MOVE-DONE (R82,
R84, R85, R165). -/
def Obligations.MoveScanRewritesEntries : Prop :=
  ∀ s : State,
    (∀ (data : List Byte) (rest : List (List Byte)), s.runs 0x03 data rest →
      let a := s.definedAssoc? (byteAt (commandBody data) 0)
      let b := s.definedAssoc? (byteAt (commandBody data) 1)
      ∃ t, exec .moveSegments s = .next t ∧
        (a = none ∨ b = none ∨ a = b → Settled (s.answered data rest .refusedRange 0 []) t) ∧
        (∀ x y : Fin 64, a = some x → b = some y → x ≠ y →
          (∀ z, s.engine.scan = some z → Settled (s.answered data rest .refusedBusy z.position []) t) ∧
          (s.engine.scan = none →
            let begun := { s with engine := { s.engine with
              scan := some { source := x, target := y, position := 0, moved := 0 } } }
            Settled (begun.answered data rest .accepted 0 []) t))) ∧
    (∀ x : Scan, s.engine.scan = some x → SegMapKept s → x.position ≤ 4095 →
      ∃ t, exec .scanStep s = .next t ∧ SegMapKept t ∧
        let hit := ∃ q, SegMap.read s.segMap x.position = .encrypt x.source q
        (∀ k, k ≠ x.position → SegMap.read t.segMap k = SegMap.read s.segMap k) ∧
        (∀ q, SegMap.read s.segMap x.position = .encrypt x.source q →
          SegMap.read t.segMap x.position = .encrypt x.target q) ∧
        (¬ hit → SegMap.read t.segMap x.position = SegMap.read s.segMap x.position) ∧
        (x.position < 4095 → ∃ moved, (hit → moved = x.moved + 1) ∧ (¬ hit → moved = x.moved) ∧
          Settled { s with
            segMap := t.segMap,
            engine := { s.engine with scan := some { x with position := x.position + 1, moved := moved } } } t) ∧
        (x.position = 4095 → ∃ moved, (hit → moved = x.moved + 1) ∧ (¬ hit → moved = x.moved) ∧
          Settled (postNotice { kind := .moveDone, detail := .none, assoc := x.source.val, epoch := 0,
                                value := x.target.val, count := moved, time := 0, alert := false }
            { s with segMap := t.segMap, engine := { s.engine with scan := none } }) t))

/-- ADVANCE-EPOCH of a LIVE or BLIND association below epoch 65535 that holds a STANDBY requests an advance with reason COMMAND,
QUEUED with its entry, or merges into one pending, and the reply is ACCEPTED with the target; in any other case it is
REFUSED-STATE with the current epoch and nothing changes (R61, R63, R166). -/
def Obligations.AdvanceEpochRequests : Prop :=
  ∀ (s : State) (data : List Byte) (rest : List (List Byte)) (a : Fin 64),
    s.runs 0x04 data rest → s.definedAssoc? (byteAt (commandBody data) 0) = some a →
    let taken := ((s.assoc a).state = .live ∨ (s.assoc a).state = .blind) ∧
      ∃ j : Fin 4, (s.slots a)[j].role = .standby
    ∃ t, exec .advanceEpoch s = .next t ∧
      (taken → (s.assoc a).epochOrZero < 65535 → (s.assoc a).pendingAdvance = none →
        let p : PendingAdvance := { target := (s.assoc a).epochOrZero + 1, reason := .command, condition := .queued }
        Settled ({ s with
          assocs := s.assocs.set a { s.assoc a with pendingAdvance := some p },
          bus := { s.bus with txList := t.bus.txList } }.answered data rest .accepted p.target []) t ∧
        ∀ x, x ∈ t.bus.txList ↔ x = { kind := .advance, assoc := a } ∨ x ∈ s.bus.txList) ∧
      (∀ p, taken → (s.assoc a).epochOrZero < 65535 → (s.assoc a).pendingAdvance = some p →
        Settled (s.answered data rest .accepted p.target []) t) ∧
      (¬ taken → Settled (s.answered data rest .refusedState (s.assoc a).epochOrZero []) t)

/-- FLUSH-SA and RETIRE-SA take every frame of the association out of the queues and the park list, the others keeping their order,
return their cells and descriptors to the pool, and reply DONE with their number, the frames counted as flushed or as RETIRED
drops; RETIRE-SA reports RETIRED once with value 0 as the class's settings say, FLUSH-SA nothing. FLUSH-SA changes no record, key
or lane. RETIRE-SA makes an association that is not RETIRED so: h unknown, u and a 0, reservation, claim and advance gone, the
settle view absent (log 12), the epoch kept; the CURRENT slot becomes RETIRING when in use and is wiped else, STANDBY and PENDING
ones are wiped, each reported KEY-DISCARDED (in slot order, log 13), and no other slot and no lane changes. Only with two RETIRING
slots and the CURRENT one in use, the RETIRING one of lower epoch is wiped first and its frames in lanes abandoned. RETIRE-SA of an
association already RETIRED is REFUSED-STATE with value 0 and changes nothing (R67, R90, R25, R70, R128, R129, R167, R168,
R175). -/
def Obligations.FlushAndRetireRemoveFrames : Prop :=
  (∀ (s : State) (data : List Byte) (rest : List (List Byte)) (a : Fin 64) (code : Byte) (c : Instr),
    (code = 0x05 ∧ c = .retireSa ∧ (s.assoc a).state ≠ .retired ∧
      (countSlots (s.slots a) (fun k => k.role == .retiring) < 2 ∨
        ∀ j : Fin 4, (s.slots a)[j].role = .current → (s.slots a)[j].uses = 0)) ∨ (code = 0x06 ∧ c = .flushSa) →
    s.runs code data rest → s.definedAssoc? (byteAt (commandBody data) 0) = some a → s.disp.marks = [] →
    let ours := fun (h : Nat) => (s.frame? h).any (fun d => d.action == .encrypt a)
    let n := ((List.finRange 8).map (fun q => s.buf.queues[q].countP ours)).sum +
      s.disp.park.countP (fun e => e.assoc == a)
    ∃ t, exec c s = .next t ∧
      (∀ q : Fin 8, t.buf.queues[q] = s.buf.queues[q].filter (fun h => !ours h)) ∧
      t.disp.park.map (·.frame) = (s.disp.park.filter (fun e => e.assoc != a)).map (·.frame) ∧
      (let held := (List.finRange 8).flatMap (fun q => s.buf.queues[q].filter ours) ++
        (s.disp.park.filter (fun e => e.assoc == a)).map (·.frame)
       (∀ h, t.frame? h = if h ∈ held then none else s.frame? h) ∧
       (FramesAccounted s → t.buf.freeCells = s.buf.freeCells + s.cellsOf held)) ∧
      t.status.replies = s.status.replies ++
        [{ tag := commandTag data, code := code, result := .done, value := n, counters := [] }] ∧
      (∀ b, b ≠ a → t.assoc b = s.assoc b ∧ t.slots b = s.slots b) ∧ t.segMap = s.segMap ∧
      (c = .flushSa → Reported s t [] ∧ t.assocs = s.assocs ∧ t.keys = s.keys ∧ t.lanes = s.lanes ∧ t.bus = s.bus ∧
        (t.counters.assoc[a])[AssocCount.flushed.index] =
          min ((s.counters.assoc[a])[AssocCount.flushed.index] + n) (2 ^ 48 - 1)) ∧
      (c = .retireSa →
        t.assoc a = { s.assoc a with
          state := .retired, hwm := none, assigned := 0, acc := 0, active := none, queued := none, pendingClaim := false,
          pendingAdvance := none, settleView := none } ∧
        (countSlots (s.slots a) (fun k => k.role == .current) ≤ 1 →
          ∀ j : Fin 4, (t.slots a)[j] =
            let k := (s.slots a)[j]
            match k.role with
            | .current => if k.uses = 0 then KeySlot.wiped else { k with role := .retiring }
            | .standby | .pending => KeySlot.wiped
            | .retiring | .empty => k) ∧
        t.lanes = s.lanes ∧
        { kind := .claim, assoc := a } ∉ t.bus.txList ∧ { kind := .advance, assoc := a } ∉ t.bus.txList ∧
        Reported s t (s.reportOf .retired (some a) 0) ∧
        Notified s t a.val (s.discardNotices a (fun k => k.role == .standby || k.role == .pending)) ∧
        (t.counters.assoc[a])[AssocCount.discardRetire.index] =
          min ((s.counters.assoc[a])[AssocCount.discardRetire.index] + (s.assoc a).reservationCount) (2 ^ 48 - 1) ∧
        (t.counters.assoc[a])[AssocCount.dropRetired.index] =
          min ((s.counters.assoc[a])[AssocCount.dropRetired.index] + n) (2 ^ 48 - 1))) ∧
  (∀ (s : State) (data : List Byte) (rest : List (List Byte)) (a : Fin 64) (i j k : Fin 4),
    s.runs 0x05 data rest → s.definedAssoc? (byteAt (commandBody data) 0) = some a → (s.assoc a).state ≠ .retired →
    (s.slots a)[i].role = .retiring → (s.slots a)[j].role = .retiring → (s.slots a)[i].epoch < (s.slots a)[j].epoch →
    (s.slots a)[k].role = .current → (s.slots a)[k].uses ≠ 0 →
    countSlots (s.slots a) (fun k => k.role == .retiring) = 2 →
    countSlots (s.slots a) (fun k => k.role == .current) ≤ 1 →
    let gone := (List.finRange 4).filter (fun l => (s.lane l).slot? == some { assoc := a, index := i })
    let ours := fun (h : Nat) => (s.frame? h).any (fun d => d.action == .encrypt a)
    let held := (List.finRange 8).flatMap (fun q => s.buf.queues[q].filter ours) ++
      (s.disp.park.filter (fun e => e.assoc == a)).map (·.frame)
    let leaving := held ++ gone.filterMap (fun l => (s.lane l).frame?)
    ∃ t, exec .retireSa s = .next t ∧ (t.assoc a).state = .retired ∧
      t.status.replies = s.status.replies ++
        [{ tag := commandTag data, code := 0x05, result := .done, value := held.length, counters := [] }] ∧
      (t.counters.assoc[a])[AssocCount.dropRetired.index] =
        min ((s.counters.assoc[a])[AssocCount.dropRetired.index] + held.length) (2 ^ 48 - 1) ∧
      Reported s t (s.reportOf .retired (some a) 0) ∧
      Notified s t a.val (s.discardNotices a (fun k => k.role == .standby || k.role == .pending)) ∧
      (FramesAccounted s →
        (∀ q : Fin 8, t.buf.queues[q] = s.buf.queues[q].filter (fun h => !ours h)) ∧
        t.disp.park.map (·.frame) = (s.disp.park.filter (fun e => e.assoc != a)).map (·.frame) ∧
        (∀ h, t.frame? h = if h ∈ leaving then none else s.frame? h) ∧
        t.buf.freeCells = s.buf.freeCells + s.cellsOf leaving) ∧
      (t.slots a)[i] = KeySlot.wiped ∧ (t.slots a)[j] = (s.slots a)[j] ∧
      (t.slots a)[k] = { (s.slots a)[k] with role := .retiring } ∧
      (∀ m : Fin 4, m ≠ i → m ≠ j → m ≠ k → (t.slots a)[m].role = .empty) ∧
      (∀ l : Fin 4, t.lane l = if l ∈ gone then .idle else s.lane l) ∧
      t.lanes.completion = s.lanes.completion.filter (fun y => gone.all (fun l => (s.lane l).frame? != some y.frame)) ∧
      (∀ l ∈ gone, ∀ h, (s.lane l).frame? = some h → t.frame? h = none) ∧
      (gone ≠ [] → (t.counters.assoc[a])[AssocCount.retiredInFlight.index] =
        min ((s.counters.assoc[a])[AssocCount.retiredInFlight.index] + gone.length) (2 ^ 48 - 1))) ∧
  (∀ (s : State) (data : List Byte) (rest : List (List Byte)) (a : Fin 64),
    s.runs 0x05 data rest → s.definedAssoc? (byteAt (commandBody data) 0) = some a → (s.assoc a).state = .retired →
    ∃ t, exec .retireSa s = .next t ∧ Settled (s.answered data rest .refusedState 0 []) t)

/-- QUIESCE-QUEUE takes each named ACTIVE queue to QUIESCING while it has frames in flight and to QUIESCED when it has none,
with one QUEUE-QUIESCED for each queue that becomes QUIESCED, leaves the others, and replies with the mask of all QUIESCED
queues; RESUME-QUEUE makes each named queue ACTIVE and replies with the mask of the named queues that were not. An empty mask is
REFUSED-RANGE. No record, key, frame or lane changes (R147, R148, R149, R169, R170). -/
def Obligations.QueuesQuiesceAndResume : Prop :=
  ∀ (s : State) (data : List Byte) (rest : List (List Byte)),
    let mask := byteAt (commandBody data) 0
    let named := fun (q : Fin 8) => mask.getLsbD q.val = true
    let bits := fun (p : Fin 8 → Bool) => ((List.finRange 8).map (fun q => if p q then 2 ^ q.val else 0)).sum
    (s.runs 0x07 data rest → mask ≠ 0 →
      ∃ t, exec .quiesceQueue s = .next t ∧
        (∀ q : Fin 8, t.disp.queueState[q] =
          if named q ∧ s.disp.queueState[q] = .active then
            if s.lanes.inFlight[q] = 0 then .quiesced else .quiescing
          else s.disp.queueState[q]) ∧
        t.status.replies = s.status.replies ++
          [{ tag := commandTag data, code := 0x07, result := .done,
             value := bits (fun q => t.disp.queueState[q] == .quiesced), counters := [] }] ∧
        (NoticesKept s t → ∀ q : Fin 8,
          let ofQueue := fun (x : State) => x.status.notices.filter (fun n => n.kind == .queueQuiesced && n.value == q.val)
          ofQueue t = ofQueue s ++ (if s.disp.queueState[q] = .active ∧ t.disp.queueState[q] = .quiesced then
            [s.quiescedNotice q] else [])) ∧
        t.assocs = s.assocs ∧ t.keys = s.keys ∧ t.lanes = s.lanes ∧ t.buf.queues = s.buf.queues ∧ t.bus = s.bus ∧
        t.buf.pool = s.buf.pool ∧ t.buf.freeCells = s.buf.freeCells ∧ t.segMap = s.segMap ∧
        t.disp.park = s.disp.park.map (ParkEntry.afterMarks s.disp.marks) ∧
        t.engine = { s.engine with input := rest, state := if rest = [] then .idle else .checking }) ∧
    (s.runs 0x08 data rest → mask ≠ 0 →
      ∃ t, exec .resumeQueue s = .next t ∧
        Settled ({ s with disp := { s.disp with queueState := t.disp.queueState } }.answered data rest .done
          (bits (fun q => decide (named q) && s.disp.queueState[q] != QueueState.active)) []) t ∧
        ∀ q : Fin 8, t.disp.queueState[q] = if named q then .active else s.disp.queueState[q]) ∧
    (mask = 0 → (s.runs 0x07 data rest → ∃ t, exec .quiesceQueue s = .next t ∧
        Settled (s.answered data rest .refusedRange 0 []) t) ∧
      (s.runs 0x08 data rest → ∃ t, exec .resumeQueue s = .next t ∧
        Settled (s.answered data rest .refusedRange 0 []) t))

/-- READ-STATUS of a group up to 66 with clear flag 00h or 01h replies DONE with the group's counters in their order, sets exactly
that group to 0 when asked, and releases ALERT_N; any other group or flag is REFUSED-RANGE and releases nothing (R171, R180,
R181). -/
def Obligations.ReadStatusReadsGroup : Prop :=
  ∀ (s : State) (data : List Byte) (rest : List (List Byte)), s.runs 0x09 data rest →
    let g := (byteAt (commandBody data) 0).toNat
    let flag := (byteAt (commandBody data) 1).toNat
    ∃ t, exec .readStatus s = .next t ∧
      (g ≤ 66 → flag ≤ 1 →
        Settled ({ s with counters := t.counters, status := { s.status with alert := false } }.answered data rest .done g
          (s.counters.group g)) t ∧
        ∀ k, k ≤ 66 → t.counters.group k =
          if k = g ∧ flag = 1 then (s.counters.group k).map (fun _ => 0) else s.counters.group k) ∧
      (66 < g ∨ 1 < flag → Settled (s.answered data rest .refusedRange 0 []) t)

/-- The ZEROIZE command: with a free reply entry its reply is ACCEPTED with value 0, else none is made; the latch is set and the
device becomes ZEROIZING and holds nothing, as at a request of the pin (R172, R194 to R198). -/
def Obligations.ZeroizeCommandErases : Prop :=
  ∀ (s : State) (data : List Byte) (rest : List (List Byte)),
    s.runs 0x0a data rest → s.zeroizeLatch = false → s.device = .settling ∨ s.device = .running →
    ∃ t, exec .zeroize s = .next t ∧ t.device = .zeroizing ∧ t.zeroizeLatch = true ∧ t.status.alert = true ∧
      HoldsNothing t ∧ t.status.replies = s.status.replies ++
        (if s.status.replies.length < 4 then
          [{ tag := commandTag data, code := 0x0a, result := .accepted, value := 0, counters := [] }] else []) ∧
      t.segMap = s.segMap ∧ t.image = s.image ∧ t.counters = s.counters ∧ t.campus.fifo = s.campus.fifo

/-! ## The status unit -/

/-- A notice handed over before zeroization merges into a queued one it may merge into (the first such: its count added, at most
65535, its alert set when the new one carries alert, its value, epoch and time kept), else joins the tail with the present time
when fewer than 32 are queued, else is lost: NOTICES-LOST grows and ALERT_N goes low whatever its alert. The alert latch is set by
a notice that carries alert (R176, R177, R180). From ZEROIZING on none is taken (R183). -/
def Obligations.NoticeMergesJoinsOrIsLost : Prop :=
  ∀ (s : State) (n : Notice),
    let t := postNotice n s
    let mergeable := fun (x : Notice) => (n.kind = .exception ∧ x.kind = .exception ∧ x.detail = n.detail ∧ x.assoc = n.assoc) ∨
      (n.kind = .commandOverrun ∧ x.kind = .commandOverrun)
    ((s.device = .zeroizing ∨ s.device = .zeroized) → t = s) ∧
    (s.device ≠ .zeroizing → s.device ≠ .zeroized →
      (∀ before x after, s.status.notices = before ++ x :: after → mergeable x → (∀ y ∈ before, ¬ mergeable y) →
        t = { s with status := { s.status with
          notices := before ++ { x with count := min (x.count + n.count) 65535, alert := x.alert || n.alert } :: after,
          alert := s.status.alert || n.alert } }) ∧
      ((∀ y ∈ s.status.notices, ¬ mergeable y) → s.status.notices.length < 32 →
        t = { s with status := { s.status with
          notices := s.status.notices ++ [{ n with time := s.time }], alert := s.status.alert || n.alert } }) ∧
      ((∀ y ∈ s.status.notices, ¬ mergeable y) → 32 ≤ s.status.notices.length →
        t = { s with
          status := { s.status with alert := true },
          counters := { s.counters with
            frames := s.counters.frames.set FrameCount.noticesLost.index
              (min (s.counters.frames[FrameCount.noticesLost.index] + 1) (2 ^ 48 - 1)) } }))

/-! ## Invariants that every step keeps -/

/-- After a device reset every invariant of the part holds. -/
def Obligations.InvariantsHoldAtReset : Prop :=
  SegMapKept State.reset ∧ CellsBalance State.reset ∧ ErasedOutsideWork State.reset ∧ ListsBounded State.reset ∧
    CountersOrdered State.reset ∧ FramesAccounted State.reset ∧ KeysAccounted State.reset

/-- Every step keeps the segment map in its canonical form: indices rising and below 4096, DROP never listed. -/
def Obligations.StepKeepsSegmentMap : Prop :=
  ∀ s t : State, SegMapKept s → (∀ x, s.engine.scan = some x → x.position ≤ 4095) → step s = .next t →
    SegMapKept t ∧ ∀ x, t.engine.scan = some x → x.position ≤ 4095

/-- Every step keeps the 2048 cells: those free and those of the stored frames, each frame under one handle (R88, R90, R96). -/
def Obligations.StepKeepsCells : Prop :=
  ∀ s t : State, CellsBalance s → step s = .next t → CellsBalance t

/-- At every step, a part that is neither SETTLING nor RUNNING holds no key material, frame, command or bus message: what
zeroization and device reset erase stays erased (R184, R189, R196 to R198, R200). -/
def Obligations.StepKeepsErased : Prop :=
  ∀ s t : State, ErasedOutsideWork s → step s = .next t → ErasedOutsideWork t

/-- Every step keeps the lists within their sizes, the transmit list in rank order without repeats, and room for the reply of the
command that is executing (R35, R36, R93, R122, R142, R157, R158, R176). -/
def Obligations.StepKeepsListsBounded : Prop :=
  ∀ s t : State, ListsBounded s → step s = .next t → ListsBounded t

/-- Every step keeps every record in the form of its state and its counters in order: assigned, active range, queued range, all at
or below h (R2, R4, R5). -/
def Obligations.StepKeepsCountersOrdered : Prop :=
  ∀ s t : State, ErasedOutsideWork s → CountersOrdered s → step s = .next t → CountersOrdered t

/-- Every step keeps the counts equal to what they count: the cells of a queue, the parked cells, the frames of a queue in
flight and the use count of a key slot (R53, R98, R122, R146). Every stored frame stands in one place, each unfinished
completion entry has its frame in one lane, the campus transmitter sends the finished head, and every association holds the keys
its state allows (R51, R57, R66, R67, R142, R143). -/
def Obligations.StepKeepsCountsAndPlaces : Prop :=
  ∀ s t : State, ErasedOutsideWork s → CellsBalance s → FramesAccounted s → KeysAccounted s → step s = .next t →
    FramesAccounted t ∧ KeysAccounted t
end

