-- ==== Sys2Proof/Laws/State.lean ====
section
/-! SUPPORT. The fields of State under its plainest updates, and what is read back from one. -/

namespace Sys2Proof.Machine

@[simp] theorem modAssoc_frame (s : State) (a : Fin 64) (f : Assoc → Assoc) :
    (s.modAssoc a f).device = s.device ∧ (s.modAssoc a f).time = s.time ∧ (s.modAssoc a f).station = s.station ∧
    (s.modAssoc a f).readBuffer = s.readBuffer ∧ (s.modAssoc a f).serial = s.serial ∧
    (s.modAssoc a f).image = s.image ∧
    (s.modAssoc a f).zeroizeLatch = s.zeroizeLatch ∧ (s.modAssoc a f).keys = s.keys ∧
    (s.modAssoc a f).segMap = s.segMap ∧ (s.modAssoc a f).bus = s.bus ∧ (s.modAssoc a f).buf = s.buf ∧
    (s.modAssoc a f).disp = s.disp ∧ (s.modAssoc a f).lanes = s.lanes ∧ (s.modAssoc a f).campus = s.campus ∧
    (s.modAssoc a f).rack = s.rack ∧ (s.modAssoc a f).rackRx = s.rackRx ∧
    (s.modAssoc a f).campusRx = s.campusRx ∧ (s.modAssoc a f).engine = s.engine ∧ (s.modAssoc a f).status = s.status ∧
    (s.modAssoc a f).counters = s.counters ∧ (s.modAssoc a f).freeIndex = s.freeIndex ∧
    (s.modAssoc a f).pending = s.pending := by
  simp [State.modAssoc]

@[simp] theorem setSlot_frame (s : State) (r : SlotRef) (k : KeySlot) :
    (s.setSlot r k).device = s.device ∧ (s.setSlot r k).time = s.time ∧ (s.setSlot r k).station = s.station ∧
    (s.setSlot r k).readBuffer = s.readBuffer ∧ (s.setSlot r k).serial = s.serial ∧
    (s.setSlot r k).image = s.image ∧
    (s.setSlot r k).zeroizeLatch = s.zeroizeLatch ∧ (s.setSlot r k).assocs = s.assocs ∧
    (s.setSlot r k).segMap = s.segMap ∧ (s.setSlot r k).bus = s.bus ∧ (s.setSlot r k).buf = s.buf ∧
    (s.setSlot r k).disp = s.disp ∧ (s.setSlot r k).lanes = s.lanes ∧ (s.setSlot r k).campus = s.campus ∧
    (s.setSlot r k).rack = s.rack ∧ (s.setSlot r k).rackRx = s.rackRx ∧
    (s.setSlot r k).campusRx = s.campusRx ∧ (s.setSlot r k).engine = s.engine ∧ (s.setSlot r k).status = s.status ∧
    (s.setSlot r k).counters = s.counters ∧ (s.setSlot r k).freeIndex = s.freeIndex ∧
    (s.setSlot r k).pending = s.pending := by
  simp [State.setSlot]

@[simp] theorem setLane_frame (s : State) (l : Fin 4) (x : Lane) :
    (s.setLane l x).device = s.device ∧ (s.setLane l x).time = s.time ∧ (s.setLane l x).station = s.station ∧
    (s.setLane l x).readBuffer = s.readBuffer ∧ (s.setLane l x).serial = s.serial ∧
    (s.setLane l x).image = s.image ∧
    (s.setLane l x).zeroizeLatch = s.zeroizeLatch ∧ (s.setLane l x).assocs = s.assocs ∧
    (s.setLane l x).keys = s.keys ∧ (s.setLane l x).segMap = s.segMap ∧ (s.setLane l x).bus = s.bus ∧
    (s.setLane l x).buf = s.buf ∧ (s.setLane l x).disp = s.disp ∧
    (s.setLane l x).lanes.completion = s.lanes.completion ∧ (s.setLane l x).lanes.inFlight = s.lanes.inFlight ∧
    (s.setLane l x).campus = s.campus ∧ (s.setLane l x).rack = s.rack ∧ (s.setLane l x).rackRx = s.rackRx ∧
    (s.setLane l x).campusRx = s.campusRx ∧ (s.setLane l x).engine = s.engine ∧
    (s.setLane l x).status = s.status ∧ (s.setLane l x).counters = s.counters ∧
    (s.setLane l x).freeIndex = s.freeIndex ∧ (s.setLane l x).pending = s.pending := by
  simp [State.setLane]

/-! ## What is read back -/

theorem assoc_eq_of_assocs {s t : State} (h : t.assocs = s.assocs) (a : Fin 64) : t.assoc a = s.assoc a := by
  simp [State.assoc, h]

theorem slots_eq_of_keys {s t : State} (h : t.keys = s.keys) (a : Fin 64) : t.slots a = s.slots a := by
  simp [State.slots, h]

theorem slot_eq_of_keys {s t : State} (h : t.keys = s.keys) (r : SlotRef) : t.slot r = s.slot r := by
  simp [State.slot, State.slots, h]

theorem lane_eq_of_lanes {s t : State} (h : t.lanes.lanes = s.lanes.lanes) (l : Fin 4) : t.lane l = s.lane l := by
  simp [State.lane, h]

theorem cfg_eq_of_image {s t : State} (h : t.image = s.image) : t.cfg = s.cfg := by simp [State.cfg, h]

theorem assocDef_eq_of_image {s t : State} (h : t.image = s.image) (a : Fin 64) : t.assocDef a = s.assocDef a := by
  simp [State.assocDef, State.cfg, h]

theorem frame?_eq_of_pool {s t : State} (h : t.buf.pool = s.buf.pool) (f : Nat) : t.frame? f = s.frame? f := by
  simp [State.frame?, h]

/-- A record changed reads back changed. -/
@[simp] theorem modAssoc_assoc_self (s : State) (a : Fin 64) (f : Assoc → Assoc) :
    (s.modAssoc a f).assoc a = f (s.assoc a) := by
  simp [State.modAssoc, State.assoc]

/-- Every other record reads as before. -/
@[simp] theorem modAssoc_assoc_ne (s : State) {a b : Fin 64} (f : Assoc → Assoc) (h : b ≠ a) :
    (s.modAssoc a f).assoc b = s.assoc b := by
  have : a.val ≠ b.val := fun e => h (Fin.ext e.symm)
  simp [State.modAssoc, State.assoc, this]

/-- A record read after one is changed, in one equation. -/
theorem modAssoc_assoc (s : State) (a b : Fin 64) (f : Assoc → Assoc) :
    (s.modAssoc a f).assoc b = if b = a then f (s.assoc a) else s.assoc b := by
  by_cases h : b = a
  · subst h; simp
  · simp [h]

/-- A slot written reads back. -/
@[simp] theorem setSlot_slot_self (s : State) (r : SlotRef) (k : KeySlot) : (s.setSlot r k).slot r = k := by
  simp [State.setSlot, State.slot, State.slots]

/-- Every other slot reads as before. -/
@[simp] theorem setSlot_slot_ne (s : State) {r q : SlotRef} (k : KeySlot) (h : q ≠ r) :
    (s.setSlot r k).slot q = s.slot q := by
  obtain ⟨ra, ri⟩ := r
  obtain ⟨qa, qi⟩ := q
  by_cases ha : qa = ra
  · subst ha
    have hi : ri.val ≠ qi.val := fun e => h (by simp [Fin.ext e.symm])
    simp [State.setSlot, State.slot, State.slots, hi]
  · have : ra.val ≠ qa.val := fun e => ha (Fin.ext e.symm)
    simp [State.setSlot, State.slot, State.slots, this]

/-- A slot read after one is written, in one equation. -/
theorem setSlot_slot (s : State) (r q : SlotRef) (k : KeySlot) :
    (s.setSlot r k).slot q = if q = r then k else s.slot q := by
  by_cases h : q = r
  · subst h; simp
  · simp [h]

/-- The slots of another association are as before. -/
@[simp] theorem setSlot_slots_ne (s : State) {r : SlotRef} {a : Fin 64} (k : KeySlot) (h : a ≠ r.assoc) :
    (s.setSlot r k).slots a = s.slots a := by
  have : r.assoc.val ≠ a.val := fun e => h (Fin.ext e.symm)
  simp [State.setSlot, State.slots, this]

/-- A slot is the one of its association's four. -/
theorem slots_getElem (s : State) (a : Fin 64) (j : Fin 4) : (s.slots a)[j] = s.slot { assoc := a, index := j } := rfl

/-- A lane set reads back. -/
@[simp] theorem setLane_lane_self (s : State) (l : Fin 4) (x : Lane) : (s.setLane l x).lane l = x := by
  simp [State.setLane, State.lane]

/-- Every other lane reads as before. -/
@[simp] theorem setLane_lane_ne (s : State) {l m : Fin 4} (x : Lane) (h : m ≠ l) : (s.setLane l x).lane m = s.lane m := by
  have : l.val ≠ m.val := fun e => h (Fin.ext e.symm)
  simp [State.setLane, State.lane, this]

end Sys2Proof.Machine
end

