-- ==== Sys2Proof/Laws/Ops.lean ====
section
/-! SUPPORT. What each shared operation leaves as it was: every field that is not one of those its rule names. -/

namespace Sys2Proof.Machine

@[simp] theorem wipeSlot_frame (r : SlotRef) (s : State) :
    (wipeSlot r s).device = s.device ∧ (wipeSlot r s).time = s.time ∧ (wipeSlot r s).station = s.station ∧
    (wipeSlot r s).readBuffer = s.readBuffer ∧ (wipeSlot r s).serial = s.serial ∧ (wipeSlot r s).image = s.image ∧
    (wipeSlot r s).zeroizeLatch = s.zeroizeLatch ∧ (wipeSlot r s).assocs = s.assocs ∧
    (wipeSlot r s).segMap = s.segMap ∧ (wipeSlot r s).bus = s.bus ∧ (wipeSlot r s).buf = s.buf ∧
    (wipeSlot r s).disp = s.disp ∧ (wipeSlot r s).lanes = s.lanes ∧ (wipeSlot r s).campus = s.campus ∧
    (wipeSlot r s).rack = s.rack ∧ (wipeSlot r s).rackRx = s.rackRx ∧ (wipeSlot r s).campusRx = s.campusRx ∧
    (wipeSlot r s).engine = s.engine ∧ (wipeSlot r s).status = s.status ∧ (wipeSlot r s).counters = s.counters ∧
    (wipeSlot r s).freeIndex = s.freeIndex ∧ (wipeSlot r s).pending = s.pending := by
  simp [wipeSlot]

@[simp] theorem loseUse_frame (r : SlotRef) (s : State) :
    (loseUse r s).device = s.device ∧ (loseUse r s).time = s.time ∧ (loseUse r s).station = s.station ∧
    (loseUse r s).readBuffer = s.readBuffer ∧ (loseUse r s).serial = s.serial ∧ (loseUse r s).image = s.image ∧
    (loseUse r s).zeroizeLatch = s.zeroizeLatch ∧ (loseUse r s).assocs = s.assocs ∧ (loseUse r s).segMap = s.segMap ∧
    (loseUse r s).bus = s.bus ∧ (loseUse r s).buf = s.buf ∧ (loseUse r s).disp = s.disp ∧
    (loseUse r s).lanes = s.lanes ∧ (loseUse r s).campus = s.campus ∧ (loseUse r s).rack = s.rack ∧
    (loseUse r s).rackRx = s.rackRx ∧ (loseUse r s).campusRx = s.campusRx ∧ (loseUse r s).engine = s.engine ∧
    (loseUse r s).status = s.status ∧ (loseUse r s).counters = s.counters ∧ (loseUse r s).freeIndex = s.freeIndex ∧
    (loseUse r s).pending = s.pending := by
  simp [loseUse]

@[simp] theorem bump_frame (a : Fin 64) (c : AssocCount) (n : Nat) (s : State) :
    (bump a c n s).device = s.device ∧ (bump a c n s).time = s.time ∧ (bump a c n s).station = s.station ∧
    (bump a c n s).readBuffer = s.readBuffer ∧ (bump a c n s).serial = s.serial ∧ (bump a c n s).image = s.image ∧
    (bump a c n s).zeroizeLatch = s.zeroizeLatch ∧ (bump a c n s).assocs = s.assocs ∧ (bump a c n s).keys = s.keys ∧
    (bump a c n s).segMap = s.segMap ∧ (bump a c n s).bus = s.bus ∧ (bump a c n s).buf = s.buf ∧
    (bump a c n s).disp = s.disp ∧ (bump a c n s).lanes = s.lanes ∧ (bump a c n s).campus = s.campus ∧
    (bump a c n s).rack = s.rack ∧ (bump a c n s).rackRx = s.rackRx ∧ (bump a c n s).campusRx = s.campusRx ∧
    (bump a c n s).engine = s.engine ∧ (bump a c n s).status = s.status ∧ (bump a c n s).freeIndex = s.freeIndex ∧
    (bump a c n s).pending = s.pending := by
  simp [bump]

@[simp] theorem bumpDrop_frame (a : Fin 64) (c : ExcClass) (n : Nat) (s : State) :
    (bumpDrop a c n s).device = s.device ∧ (bumpDrop a c n s).time = s.time ∧ (bumpDrop a c n s).station = s.station ∧
    (bumpDrop a c n s).readBuffer = s.readBuffer ∧ (bumpDrop a c n s).serial = s.serial ∧
    (bumpDrop a c n s).image = s.image ∧ (bumpDrop a c n s).zeroizeLatch = s.zeroizeLatch ∧
    (bumpDrop a c n s).assocs = s.assocs ∧ (bumpDrop a c n s).keys = s.keys ∧ (bumpDrop a c n s).segMap = s.segMap ∧
    (bumpDrop a c n s).bus = s.bus ∧ (bumpDrop a c n s).buf = s.buf ∧ (bumpDrop a c n s).disp = s.disp ∧
    (bumpDrop a c n s).lanes = s.lanes ∧ (bumpDrop a c n s).campus = s.campus ∧ (bumpDrop a c n s).rack = s.rack ∧
    (bumpDrop a c n s).rackRx = s.rackRx ∧ (bumpDrop a c n s).campusRx = s.campusRx ∧
    (bumpDrop a c n s).engine = s.engine ∧ (bumpDrop a c n s).status = s.status ∧
    (bumpDrop a c n s).freeIndex = s.freeIndex ∧ (bumpDrop a c n s).pending = s.pending := by
  unfold bumpDrop
  (repeat' split) <;> simp

@[simp] theorem bumpReception_frame (c : ReceptionCount) (s : State) :
    (bumpReception c s).device = s.device ∧ (bumpReception c s).time = s.time ∧
    (bumpReception c s).station = s.station ∧ (bumpReception c s).readBuffer = s.readBuffer ∧
    (bumpReception c s).serial = s.serial ∧ (bumpReception c s).image = s.image ∧
    (bumpReception c s).zeroizeLatch = s.zeroizeLatch ∧ (bumpReception c s).assocs = s.assocs ∧
    (bumpReception c s).keys = s.keys ∧ (bumpReception c s).segMap = s.segMap ∧ (bumpReception c s).bus = s.bus ∧
    (bumpReception c s).buf = s.buf ∧ (bumpReception c s).disp = s.disp ∧ (bumpReception c s).lanes = s.lanes ∧
    (bumpReception c s).campus = s.campus ∧ (bumpReception c s).rack = s.rack ∧
    (bumpReception c s).rackRx = s.rackRx ∧ (bumpReception c s).campusRx = s.campusRx ∧
    (bumpReception c s).engine = s.engine ∧ (bumpReception c s).status = s.status ∧
    (bumpReception c s).freeIndex = s.freeIndex ∧ (bumpReception c s).pending = s.pending := by
  simp [bumpReception]

@[simp] theorem bumpFrames_frame (c : FrameCount) (s : State) :
    (bumpFrames c s).device = s.device ∧ (bumpFrames c s).time = s.time ∧ (bumpFrames c s).station = s.station ∧
    (bumpFrames c s).readBuffer = s.readBuffer ∧ (bumpFrames c s).serial = s.serial ∧
    (bumpFrames c s).image = s.image ∧ (bumpFrames c s).zeroizeLatch = s.zeroizeLatch ∧
    (bumpFrames c s).assocs = s.assocs ∧ (bumpFrames c s).keys = s.keys ∧ (bumpFrames c s).segMap = s.segMap ∧
    (bumpFrames c s).bus = s.bus ∧ (bumpFrames c s).buf = s.buf ∧ (bumpFrames c s).disp = s.disp ∧
    (bumpFrames c s).lanes = s.lanes ∧ (bumpFrames c s).campus = s.campus ∧ (bumpFrames c s).rack = s.rack ∧
    (bumpFrames c s).rackRx = s.rackRx ∧ (bumpFrames c s).campusRx = s.campusRx ∧ (bumpFrames c s).engine = s.engine ∧
    (bumpFrames c s).status = s.status ∧ (bumpFrames c s).freeIndex = s.freeIndex ∧
    (bumpFrames c s).pending = s.pending := by
  simp [bumpFrames]

@[simp] theorem bumpBus_frame (c : BusCount) (s : State) :
    (bumpBus c s).device = s.device ∧ (bumpBus c s).time = s.time ∧ (bumpBus c s).station = s.station ∧
    (bumpBus c s).readBuffer = s.readBuffer ∧ (bumpBus c s).serial = s.serial ∧ (bumpBus c s).image = s.image ∧
    (bumpBus c s).zeroizeLatch = s.zeroizeLatch ∧ (bumpBus c s).assocs = s.assocs ∧ (bumpBus c s).keys = s.keys ∧
    (bumpBus c s).segMap = s.segMap ∧ (bumpBus c s).bus = s.bus ∧ (bumpBus c s).buf = s.buf ∧
    (bumpBus c s).disp = s.disp ∧ (bumpBus c s).lanes = s.lanes ∧ (bumpBus c s).campus = s.campus ∧
    (bumpBus c s).rack = s.rack ∧ (bumpBus c s).rackRx = s.rackRx ∧ (bumpBus c s).campusRx = s.campusRx ∧
    (bumpBus c s).engine = s.engine ∧ (bumpBus c s).status = s.status ∧ (bumpBus c s).freeIndex = s.freeIndex ∧
    (bumpBus c s).pending = s.pending := by
  simp [bumpBus]

@[simp] theorem setAlert_frame (s : State) :
    (setAlert s).device = s.device ∧ (setAlert s).time = s.time ∧ (setAlert s).station = s.station ∧
    (setAlert s).readBuffer = s.readBuffer ∧ (setAlert s).serial = s.serial ∧ (setAlert s).image = s.image ∧
    (setAlert s).zeroizeLatch = s.zeroizeLatch ∧ (setAlert s).assocs = s.assocs ∧ (setAlert s).keys = s.keys ∧
    (setAlert s).segMap = s.segMap ∧ (setAlert s).bus = s.bus ∧ (setAlert s).buf = s.buf ∧
    (setAlert s).disp = s.disp ∧ (setAlert s).lanes = s.lanes ∧ (setAlert s).campus = s.campus ∧
    (setAlert s).rack = s.rack ∧ (setAlert s).rackRx = s.rackRx ∧ (setAlert s).campusRx = s.campusRx ∧
    (setAlert s).engine = s.engine ∧ (setAlert s).status.notices = s.status.notices ∧
    (setAlert s).status.heldZeroized = s.status.heldZeroized ∧ (setAlert s).status.replies = s.status.replies ∧
    (setAlert s).status.offered = s.status.offered ∧ (setAlert s).status.lastOffered = s.status.lastOffered ∧
    (setAlert s).counters = s.counters ∧ (setAlert s).freeIndex = s.freeIndex ∧ (setAlert s).pending = s.pending := by
  simp [setAlert]

@[simp] theorem joinNotice_frame (n : Notice) (s : State) :
    (joinNotice n s).device = s.device ∧ (joinNotice n s).time = s.time ∧ (joinNotice n s).station = s.station ∧
    (joinNotice n s).readBuffer = s.readBuffer ∧ (joinNotice n s).serial = s.serial ∧
    (joinNotice n s).image = s.image ∧ (joinNotice n s).zeroizeLatch = s.zeroizeLatch ∧
    (joinNotice n s).assocs = s.assocs ∧ (joinNotice n s).keys = s.keys ∧ (joinNotice n s).segMap = s.segMap ∧
    (joinNotice n s).bus = s.bus ∧ (joinNotice n s).buf = s.buf ∧ (joinNotice n s).disp = s.disp ∧
    (joinNotice n s).lanes = s.lanes ∧ (joinNotice n s).campus = s.campus ∧ (joinNotice n s).rack = s.rack ∧
    (joinNotice n s).rackRx = s.rackRx ∧ (joinNotice n s).campusRx = s.campusRx ∧ (joinNotice n s).engine = s.engine ∧
    (joinNotice n s).status.heldZeroized = s.status.heldZeroized ∧
    (joinNotice n s).status.replies = s.status.replies ∧ (joinNotice n s).status.offered = s.status.offered ∧
    (joinNotice n s).status.lastOffered = s.status.lastOffered ∧ (joinNotice n s).counters = s.counters ∧
    (joinNotice n s).freeIndex = s.freeIndex ∧ (joinNotice n s).pending = s.pending := by
  simp [joinNotice]

@[simp] theorem postNotice_frame (n : Notice) (s : State) :
    (postNotice n s).device = s.device ∧ (postNotice n s).time = s.time ∧ (postNotice n s).station = s.station ∧
    (postNotice n s).readBuffer = s.readBuffer ∧ (postNotice n s).serial = s.serial ∧
    (postNotice n s).image = s.image ∧ (postNotice n s).zeroizeLatch = s.zeroizeLatch ∧
    (postNotice n s).assocs = s.assocs ∧ (postNotice n s).keys = s.keys ∧ (postNotice n s).segMap = s.segMap ∧
    (postNotice n s).bus = s.bus ∧ (postNotice n s).buf = s.buf ∧ (postNotice n s).disp = s.disp ∧
    (postNotice n s).lanes = s.lanes ∧ (postNotice n s).campus = s.campus ∧ (postNotice n s).rack = s.rack ∧
    (postNotice n s).rackRx = s.rackRx ∧ (postNotice n s).campusRx = s.campusRx ∧ (postNotice n s).engine = s.engine ∧
    (postNotice n s).status.heldZeroized = s.status.heldZeroized ∧
    (postNotice n s).status.replies = s.status.replies ∧ (postNotice n s).status.offered = s.status.offered ∧
    (postNotice n s).status.lastOffered = s.status.lastOffered ∧ (postNotice n s).freeIndex = s.freeIndex ∧
    (postNotice n s).pending = s.pending := by
  unfold postNotice
  (repeat' split) <;> simp

@[simp] theorem report_frame (c : ExcClass) (a : Option (Fin 64)) (value count : Nat) (s : State) :
    (report c a value count s).device = s.device ∧ (report c a value count s).time = s.time ∧
    (report c a value count s).station = s.station ∧ (report c a value count s).readBuffer = s.readBuffer ∧
    (report c a value count s).serial = s.serial ∧ (report c a value count s).image = s.image ∧
    (report c a value count s).zeroizeLatch = s.zeroizeLatch ∧ (report c a value count s).assocs = s.assocs ∧
    (report c a value count s).keys = s.keys ∧ (report c a value count s).segMap = s.segMap ∧
    (report c a value count s).bus = s.bus ∧ (report c a value count s).buf = s.buf ∧
    (report c a value count s).disp = s.disp ∧ (report c a value count s).lanes = s.lanes ∧
    (report c a value count s).campus = s.campus ∧ (report c a value count s).rack = s.rack ∧
    (report c a value count s).rackRx = s.rackRx ∧ (report c a value count s).campusRx = s.campusRx ∧
    (report c a value count s).engine = s.engine ∧
    (report c a value count s).status.heldZeroized = s.status.heldZeroized ∧
    (report c a value count s).status.replies = s.status.replies ∧
    (report c a value count s).status.offered = s.status.offered ∧
    (report c a value count s).status.lastOffered = s.status.lastOffered ∧
    (report c a value count s).freeIndex = s.freeIndex ∧ (report c a value count s).pending = s.pending := by
  unfold report
  (repeat' split) <;> simp

@[simp] theorem postKeyWanted_frame (a : Fin 64) (e : Nat) (s : State) :
    (postKeyWanted a e s).device = s.device ∧ (postKeyWanted a e s).time = s.time ∧
    (postKeyWanted a e s).station = s.station ∧ (postKeyWanted a e s).readBuffer = s.readBuffer ∧
    (postKeyWanted a e s).serial = s.serial ∧ (postKeyWanted a e s).image = s.image ∧
    (postKeyWanted a e s).zeroizeLatch = s.zeroizeLatch ∧ (postKeyWanted a e s).assocs = s.assocs ∧
    (postKeyWanted a e s).keys = s.keys ∧ (postKeyWanted a e s).segMap = s.segMap ∧
    (postKeyWanted a e s).bus = s.bus ∧ (postKeyWanted a e s).buf = s.buf ∧ (postKeyWanted a e s).disp = s.disp ∧
    (postKeyWanted a e s).lanes = s.lanes ∧ (postKeyWanted a e s).campus = s.campus ∧
    (postKeyWanted a e s).rack = s.rack ∧ (postKeyWanted a e s).rackRx = s.rackRx ∧
    (postKeyWanted a e s).campusRx = s.campusRx ∧ (postKeyWanted a e s).engine = s.engine ∧
    (postKeyWanted a e s).status.heldZeroized = s.status.heldZeroized ∧
    (postKeyWanted a e s).status.replies = s.status.replies ∧
    (postKeyWanted a e s).status.offered = s.status.offered ∧
    (postKeyWanted a e s).status.lastOffered = s.status.lastOffered ∧ (postKeyWanted a e s).freeIndex = s.freeIndex ∧
    (postKeyWanted a e s).pending = s.pending := by
  simp [postKeyWanted]

@[simp] theorem postKeyDiscarded_frame (a : Fin 64) (e : Nat) (s : State) :
    (postKeyDiscarded a e s).device = s.device ∧ (postKeyDiscarded a e s).time = s.time ∧
    (postKeyDiscarded a e s).station = s.station ∧ (postKeyDiscarded a e s).readBuffer = s.readBuffer ∧
    (postKeyDiscarded a e s).serial = s.serial ∧ (postKeyDiscarded a e s).image = s.image ∧
    (postKeyDiscarded a e s).zeroizeLatch = s.zeroizeLatch ∧ (postKeyDiscarded a e s).assocs = s.assocs ∧
    (postKeyDiscarded a e s).keys = s.keys ∧ (postKeyDiscarded a e s).segMap = s.segMap ∧
    (postKeyDiscarded a e s).bus = s.bus ∧ (postKeyDiscarded a e s).buf = s.buf ∧
    (postKeyDiscarded a e s).disp = s.disp ∧ (postKeyDiscarded a e s).lanes = s.lanes ∧
    (postKeyDiscarded a e s).campus = s.campus ∧ (postKeyDiscarded a e s).rack = s.rack ∧
    (postKeyDiscarded a e s).rackRx = s.rackRx ∧ (postKeyDiscarded a e s).campusRx = s.campusRx ∧
    (postKeyDiscarded a e s).engine = s.engine ∧
    (postKeyDiscarded a e s).status.heldZeroized = s.status.heldZeroized ∧
    (postKeyDiscarded a e s).status.replies = s.status.replies ∧
    (postKeyDiscarded a e s).status.offered = s.status.offered ∧
    (postKeyDiscarded a e s).status.lastOffered = s.status.lastOffered ∧
    (postKeyDiscarded a e s).freeIndex = s.freeIndex ∧ (postKeyDiscarded a e s).pending = s.pending := by
  simp [postKeyDiscarded]

@[simp] theorem postKeyPlaced_frame (a : Fin 64) (e : Nat) (r : Role) (s : State) :
    (postKeyPlaced a e r s).device = s.device ∧ (postKeyPlaced a e r s).time = s.time ∧
    (postKeyPlaced a e r s).station = s.station ∧ (postKeyPlaced a e r s).readBuffer = s.readBuffer ∧
    (postKeyPlaced a e r s).serial = s.serial ∧ (postKeyPlaced a e r s).image = s.image ∧
    (postKeyPlaced a e r s).zeroizeLatch = s.zeroizeLatch ∧ (postKeyPlaced a e r s).assocs = s.assocs ∧
    (postKeyPlaced a e r s).keys = s.keys ∧ (postKeyPlaced a e r s).segMap = s.segMap ∧
    (postKeyPlaced a e r s).bus = s.bus ∧ (postKeyPlaced a e r s).buf = s.buf ∧
    (postKeyPlaced a e r s).disp = s.disp ∧ (postKeyPlaced a e r s).lanes = s.lanes ∧
    (postKeyPlaced a e r s).campus = s.campus ∧ (postKeyPlaced a e r s).rack = s.rack ∧
    (postKeyPlaced a e r s).rackRx = s.rackRx ∧ (postKeyPlaced a e r s).campusRx = s.campusRx ∧
    (postKeyPlaced a e r s).engine = s.engine ∧ (postKeyPlaced a e r s).status.heldZeroized = s.status.heldZeroized ∧
    (postKeyPlaced a e r s).status.replies = s.status.replies ∧
    (postKeyPlaced a e r s).status.offered = s.status.offered ∧
    (postKeyPlaced a e r s).status.lastOffered = s.status.lastOffered ∧
    (postKeyPlaced a e r s).freeIndex = s.freeIndex ∧ (postKeyPlaced a e r s).pending = s.pending := by
  simp [postKeyPlaced]

@[simp] theorem postMark_frame (a : Fin 64) (c : ExcClass) (s : State) :
    (postMark a c s).device = s.device ∧ (postMark a c s).time = s.time ∧ (postMark a c s).station = s.station ∧
    (postMark a c s).readBuffer = s.readBuffer ∧ (postMark a c s).serial = s.serial ∧
    (postMark a c s).image = s.image ∧ (postMark a c s).zeroizeLatch = s.zeroizeLatch ∧
    (postMark a c s).assocs = s.assocs ∧ (postMark a c s).keys = s.keys ∧ (postMark a c s).segMap = s.segMap ∧
    (postMark a c s).bus = s.bus ∧ (postMark a c s).buf = s.buf ∧ (postMark a c s).disp.park = s.disp.park ∧
    (postMark a c s).disp.parkedCells = s.disp.parkedCells ∧ (postMark a c s).disp.queueState = s.disp.queueState ∧
    (postMark a c s).lanes = s.lanes ∧ (postMark a c s).campus = s.campus ∧ (postMark a c s).rack = s.rack ∧
    (postMark a c s).rackRx = s.rackRx ∧ (postMark a c s).campusRx = s.campusRx ∧ (postMark a c s).engine = s.engine ∧
    (postMark a c s).status = s.status ∧ (postMark a c s).counters = s.counters ∧
    (postMark a c s).freeIndex = s.freeIndex ∧ (postMark a c s).pending = s.pending := by
  simp [postMark]

@[simp] theorem applyMarks_frame (s : State) :
    (applyMarks s).device = s.device ∧ (applyMarks s).time = s.time ∧ (applyMarks s).station = s.station ∧
    (applyMarks s).readBuffer = s.readBuffer ∧ (applyMarks s).serial = s.serial ∧ (applyMarks s).image = s.image ∧
    (applyMarks s).zeroizeLatch = s.zeroizeLatch ∧ (applyMarks s).assocs = s.assocs ∧ (applyMarks s).keys = s.keys ∧
    (applyMarks s).segMap = s.segMap ∧ (applyMarks s).bus = s.bus ∧ (applyMarks s).buf = s.buf ∧
    (applyMarks s).disp.parkedCells = s.disp.parkedCells ∧ (applyMarks s).disp.queueState = s.disp.queueState ∧
    (applyMarks s).lanes = s.lanes ∧ (applyMarks s).campus = s.campus ∧ (applyMarks s).rack = s.rack ∧
    (applyMarks s).rackRx = s.rackRx ∧ (applyMarks s).campusRx = s.campusRx ∧ (applyMarks s).engine = s.engine ∧
    (applyMarks s).status = s.status ∧ (applyMarks s).counters = s.counters ∧ (applyMarks s).freeIndex = s.freeIndex ∧
    (applyMarks s).pending = s.pending := by
  simp [applyMarks]

@[simp] theorem requestTx_frame (k : MsgKind) (a : Fin 64) (s : State) :
    (requestTx k a s).device = s.device ∧ (requestTx k a s).time = s.time ∧ (requestTx k a s).station = s.station ∧
    (requestTx k a s).readBuffer = s.readBuffer ∧ (requestTx k a s).serial = s.serial ∧
    (requestTx k a s).image = s.image ∧ (requestTx k a s).zeroizeLatch = s.zeroizeLatch ∧
    (requestTx k a s).assocs = s.assocs ∧ (requestTx k a s).keys = s.keys ∧ (requestTx k a s).segMap = s.segMap ∧
    (requestTx k a s).bus.errorCount = s.bus.errorCount ∧ (requestTx k a s).bus.quiet = s.bus.quiet ∧
    (requestTx k a s).bus.noAck = s.bus.noAck ∧ (requestTx k a s).bus.backoff = s.bus.backoff ∧
    (requestTx k a s).bus.settleTimer = s.bus.settleTimer ∧ (requestTx k a s).bus.idleSeen = s.bus.idleSeen ∧
    (requestTx k a s).bus.onBus = s.bus.onBus ∧ (requestTx k a s).buf = s.buf ∧ (requestTx k a s).disp = s.disp ∧
    (requestTx k a s).lanes = s.lanes ∧ (requestTx k a s).campus = s.campus ∧ (requestTx k a s).rack = s.rack ∧
    (requestTx k a s).rackRx = s.rackRx ∧ (requestTx k a s).campusRx = s.campusRx ∧
    (requestTx k a s).engine = s.engine ∧ (requestTx k a s).status = s.status ∧
    (requestTx k a s).counters = s.counters ∧ (requestTx k a s).freeIndex = s.freeIndex ∧
    (requestTx k a s).pending = s.pending := by
  simp [requestTx]

@[simp] theorem removeTx_frame (k : MsgKind) (a : Fin 64) (s : State) :
    (removeTx k a s).device = s.device ∧ (removeTx k a s).time = s.time ∧ (removeTx k a s).station = s.station ∧
    (removeTx k a s).readBuffer = s.readBuffer ∧ (removeTx k a s).serial = s.serial ∧
    (removeTx k a s).image = s.image ∧ (removeTx k a s).zeroizeLatch = s.zeroizeLatch ∧
    (removeTx k a s).assocs = s.assocs ∧ (removeTx k a s).keys = s.keys ∧ (removeTx k a s).segMap = s.segMap ∧
    (removeTx k a s).bus.errorCount = s.bus.errorCount ∧ (removeTx k a s).bus.quiet = s.bus.quiet ∧
    (removeTx k a s).bus.noAck = s.bus.noAck ∧ (removeTx k a s).bus.backoff = s.bus.backoff ∧
    (removeTx k a s).bus.settleTimer = s.bus.settleTimer ∧ (removeTx k a s).bus.idleSeen = s.bus.idleSeen ∧
    (removeTx k a s).bus.onBus = s.bus.onBus ∧ (removeTx k a s).buf = s.buf ∧ (removeTx k a s).disp = s.disp ∧
    (removeTx k a s).lanes = s.lanes ∧ (removeTx k a s).campus = s.campus ∧ (removeTx k a s).rack = s.rack ∧
    (removeTx k a s).rackRx = s.rackRx ∧ (removeTx k a s).campusRx = s.campusRx ∧ (removeTx k a s).engine = s.engine ∧
    (removeTx k a s).status = s.status ∧ (removeTx k a s).counters = s.counters ∧
    (removeTx k a s).freeIndex = s.freeIndex ∧ (removeTx k a s).pending = s.pending := by
  simp [removeTx]

@[simp] theorem cancelClaim_frame (a : Fin 64) (s : State) :
    (cancelClaim a s).device = s.device ∧ (cancelClaim a s).time = s.time ∧ (cancelClaim a s).station = s.station ∧
    (cancelClaim a s).readBuffer = s.readBuffer ∧ (cancelClaim a s).serial = s.serial ∧
    (cancelClaim a s).image = s.image ∧ (cancelClaim a s).zeroizeLatch = s.zeroizeLatch ∧
    (cancelClaim a s).keys = s.keys ∧ (cancelClaim a s).segMap = s.segMap ∧
    (cancelClaim a s).bus.errorCount = s.bus.errorCount ∧ (cancelClaim a s).bus.quiet = s.bus.quiet ∧
    (cancelClaim a s).bus.noAck = s.bus.noAck ∧ (cancelClaim a s).bus.backoff = s.bus.backoff ∧
    (cancelClaim a s).bus.settleTimer = s.bus.settleTimer ∧ (cancelClaim a s).bus.idleSeen = s.bus.idleSeen ∧
    (cancelClaim a s).buf = s.buf ∧ (cancelClaim a s).disp = s.disp ∧ (cancelClaim a s).lanes = s.lanes ∧
    (cancelClaim a s).campus = s.campus ∧ (cancelClaim a s).rack = s.rack ∧ (cancelClaim a s).rackRx = s.rackRx ∧
    (cancelClaim a s).campusRx = s.campusRx ∧ (cancelClaim a s).engine = s.engine ∧
    (cancelClaim a s).status = s.status ∧ (cancelClaim a s).counters = s.counters ∧
    (cancelClaim a s).freeIndex = s.freeIndex ∧ (cancelClaim a s).pending = s.pending := by
  simp [cancelClaim]

@[simp] theorem cancelAdvance_frame (a : Fin 64) (s : State) :
    (cancelAdvance a s).device = s.device ∧ (cancelAdvance a s).time = s.time ∧
    (cancelAdvance a s).station = s.station ∧ (cancelAdvance a s).readBuffer = s.readBuffer ∧
    (cancelAdvance a s).serial = s.serial ∧ (cancelAdvance a s).image = s.image ∧
    (cancelAdvance a s).zeroizeLatch = s.zeroizeLatch ∧ (cancelAdvance a s).keys = s.keys ∧
    (cancelAdvance a s).segMap = s.segMap ∧ (cancelAdvance a s).bus.errorCount = s.bus.errorCount ∧
    (cancelAdvance a s).bus.quiet = s.bus.quiet ∧ (cancelAdvance a s).bus.noAck = s.bus.noAck ∧
    (cancelAdvance a s).bus.backoff = s.bus.backoff ∧ (cancelAdvance a s).bus.settleTimer = s.bus.settleTimer ∧
    (cancelAdvance a s).bus.idleSeen = s.bus.idleSeen ∧ (cancelAdvance a s).bus.onBus = s.bus.onBus ∧
    (cancelAdvance a s).buf = s.buf ∧ (cancelAdvance a s).disp = s.disp ∧ (cancelAdvance a s).lanes = s.lanes ∧
    (cancelAdvance a s).campus = s.campus ∧ (cancelAdvance a s).rack = s.rack ∧
    (cancelAdvance a s).rackRx = s.rackRx ∧ (cancelAdvance a s).campusRx = s.campusRx ∧
    (cancelAdvance a s).engine = s.engine ∧ (cancelAdvance a s).status = s.status ∧
    (cancelAdvance a s).counters = s.counters ∧ (cancelAdvance a s).freeIndex = s.freeIndex ∧
    (cancelAdvance a s).pending = s.pending := by
  simp [cancelAdvance]

@[simp] theorem pauseTest_frame (s : State) :
    (pauseTest s).device = s.device ∧ (pauseTest s).time = s.time ∧ (pauseTest s).station = s.station ∧
    (pauseTest s).readBuffer = s.readBuffer ∧ (pauseTest s).serial = s.serial ∧ (pauseTest s).image = s.image ∧
    (pauseTest s).zeroizeLatch = s.zeroizeLatch ∧ (pauseTest s).assocs = s.assocs ∧ (pauseTest s).keys = s.keys ∧
    (pauseTest s).segMap = s.segMap ∧ (pauseTest s).bus = s.bus ∧ (pauseTest s).buf.pool = s.buf.pool ∧
    (pauseTest s).buf.freeCells = s.buf.freeCells ∧ (pauseTest s).buf.queues = s.buf.queues ∧
    (pauseTest s).buf.queueCells = s.buf.queueCells ∧ (pauseTest s).buf.leftover = s.buf.leftover ∧
    (pauseTest s).disp = s.disp ∧ (pauseTest s).lanes = s.lanes ∧ (pauseTest s).campus = s.campus ∧
    (pauseTest s).rack = s.rack ∧ (pauseTest s).rackRx = s.rackRx ∧ (pauseTest s).campusRx = s.campusRx ∧
    (pauseTest s).engine = s.engine ∧ (pauseTest s).status = s.status ∧ (pauseTest s).counters = s.counters ∧
    (pauseTest s).freeIndex = s.freeIndex ∧ (pauseTest s).pending = s.pending := by
  unfold pauseTest
  (repeat' split) <;> simp

@[simp] theorem releaseFrame_frame (h : Nat) (s : State) :
    (releaseFrame h s).device = s.device ∧ (releaseFrame h s).time = s.time ∧ (releaseFrame h s).station = s.station ∧
    (releaseFrame h s).readBuffer = s.readBuffer ∧ (releaseFrame h s).serial = s.serial ∧
    (releaseFrame h s).image = s.image ∧ (releaseFrame h s).zeroizeLatch = s.zeroizeLatch ∧
    (releaseFrame h s).assocs = s.assocs ∧ (releaseFrame h s).keys = s.keys ∧ (releaseFrame h s).segMap = s.segMap ∧
    (releaseFrame h s).bus = s.bus ∧ (releaseFrame h s).buf.queues = s.buf.queues ∧
    (releaseFrame h s).buf.queueCells = s.buf.queueCells ∧ (releaseFrame h s).disp = s.disp ∧
    (releaseFrame h s).lanes = s.lanes ∧ (releaseFrame h s).campus = s.campus ∧ (releaseFrame h s).rack = s.rack ∧
    (releaseFrame h s).rackRx = s.rackRx ∧ (releaseFrame h s).campusRx = s.campusRx ∧
    (releaseFrame h s).engine = s.engine ∧ (releaseFrame h s).status = s.status ∧
    (releaseFrame h s).counters = s.counters ∧ (releaseFrame h s).freeIndex = s.freeIndex ∧
    (releaseFrame h s).pending = s.pending := by
  unfold releaseFrame
  (repeat' split) <;> simp

@[simp] theorem becomeQuiesced_frame (q : Fin 8) (s : State) :
    (becomeQuiesced q s).device = s.device ∧ (becomeQuiesced q s).time = s.time ∧
    (becomeQuiesced q s).station = s.station ∧ (becomeQuiesced q s).readBuffer = s.readBuffer ∧
    (becomeQuiesced q s).serial = s.serial ∧ (becomeQuiesced q s).image = s.image ∧
    (becomeQuiesced q s).zeroizeLatch = s.zeroizeLatch ∧ (becomeQuiesced q s).assocs = s.assocs ∧
    (becomeQuiesced q s).keys = s.keys ∧ (becomeQuiesced q s).segMap = s.segMap ∧ (becomeQuiesced q s).bus = s.bus ∧
    (becomeQuiesced q s).buf = s.buf ∧ (becomeQuiesced q s).disp.park = s.disp.park ∧
    (becomeQuiesced q s).disp.parkedCells = s.disp.parkedCells ∧ (becomeQuiesced q s).disp.marks = s.disp.marks ∧
    (becomeQuiesced q s).lanes = s.lanes ∧ (becomeQuiesced q s).campus = s.campus ∧
    (becomeQuiesced q s).rack = s.rack ∧ (becomeQuiesced q s).rackRx = s.rackRx ∧
    (becomeQuiesced q s).campusRx = s.campusRx ∧ (becomeQuiesced q s).engine = s.engine ∧
    (becomeQuiesced q s).status.heldZeroized = s.status.heldZeroized ∧
    (becomeQuiesced q s).status.replies = s.status.replies ∧ (becomeQuiesced q s).status.offered = s.status.offered ∧
    (becomeQuiesced q s).status.lastOffered = s.status.lastOffered ∧ (becomeQuiesced q s).freeIndex = s.freeIndex ∧
    (becomeQuiesced q s).pending = s.pending := by
  simp [becomeQuiesced]

@[simp] theorem loseInFlight_frame (q : Fin 8) (s : State) :
    (loseInFlight q s).device = s.device ∧ (loseInFlight q s).time = s.time ∧ (loseInFlight q s).station = s.station ∧
    (loseInFlight q s).readBuffer = s.readBuffer ∧ (loseInFlight q s).serial = s.serial ∧
    (loseInFlight q s).image = s.image ∧ (loseInFlight q s).zeroizeLatch = s.zeroizeLatch ∧
    (loseInFlight q s).assocs = s.assocs ∧ (loseInFlight q s).keys = s.keys ∧ (loseInFlight q s).segMap = s.segMap ∧
    (loseInFlight q s).bus = s.bus ∧ (loseInFlight q s).buf = s.buf ∧ (loseInFlight q s).disp.park = s.disp.park ∧
    (loseInFlight q s).disp.parkedCells = s.disp.parkedCells ∧ (loseInFlight q s).disp.marks = s.disp.marks ∧
    (loseInFlight q s).lanes.lanes = s.lanes.lanes ∧ (loseInFlight q s).lanes.completion = s.lanes.completion ∧
    (loseInFlight q s).campus = s.campus ∧ (loseInFlight q s).rack = s.rack ∧ (loseInFlight q s).rackRx = s.rackRx ∧
    (loseInFlight q s).campusRx = s.campusRx ∧ (loseInFlight q s).engine = s.engine ∧
    (loseInFlight q s).status.heldZeroized = s.status.heldZeroized ∧
    (loseInFlight q s).status.replies = s.status.replies ∧ (loseInFlight q s).status.offered = s.status.offered ∧
    (loseInFlight q s).status.lastOffered = s.status.lastOffered ∧ (loseInFlight q s).freeIndex = s.freeIndex ∧
    (loseInFlight q s).pending = s.pending := by
  simp only [loseInFlight]
  split <;> simp

@[simp] theorem removeCompletion_frame (h : Nat) (s : State) :
    (removeCompletion h s).device = s.device ∧ (removeCompletion h s).time = s.time ∧
    (removeCompletion h s).station = s.station ∧ (removeCompletion h s).readBuffer = s.readBuffer ∧
    (removeCompletion h s).serial = s.serial ∧ (removeCompletion h s).image = s.image ∧
    (removeCompletion h s).zeroizeLatch = s.zeroizeLatch ∧ (removeCompletion h s).assocs = s.assocs ∧
    (removeCompletion h s).keys = s.keys ∧ (removeCompletion h s).segMap = s.segMap ∧
    (removeCompletion h s).bus = s.bus ∧ (removeCompletion h s).buf = s.buf ∧ (removeCompletion h s).disp = s.disp ∧
    (removeCompletion h s).lanes.lanes = s.lanes.lanes ∧ (removeCompletion h s).lanes.inFlight = s.lanes.inFlight ∧
    (removeCompletion h s).campus = s.campus ∧ (removeCompletion h s).rack = s.rack ∧
    (removeCompletion h s).rackRx = s.rackRx ∧ (removeCompletion h s).campusRx = s.campusRx ∧
    (removeCompletion h s).engine = s.engine ∧ (removeCompletion h s).status = s.status ∧
    (removeCompletion h s).counters = s.counters ∧ (removeCompletion h s).freeIndex = s.freeIndex ∧
    (removeCompletion h s).pending = s.pending := by
  simp [removeCompletion]

@[simp] theorem removeLaneFrame_frame (l : Fin 4) (s : State) :
    (removeLaneFrame l s).device = s.device ∧ (removeLaneFrame l s).time = s.time ∧
    (removeLaneFrame l s).station = s.station ∧ (removeLaneFrame l s).readBuffer = s.readBuffer ∧
    (removeLaneFrame l s).serial = s.serial ∧ (removeLaneFrame l s).image = s.image ∧
    (removeLaneFrame l s).zeroizeLatch = s.zeroizeLatch ∧ (removeLaneFrame l s).assocs = s.assocs ∧
    (removeLaneFrame l s).keys = s.keys ∧ (removeLaneFrame l s).segMap = s.segMap ∧
    (removeLaneFrame l s).bus = s.bus ∧ (removeLaneFrame l s).buf.queues = s.buf.queues ∧
    (removeLaneFrame l s).buf.queueCells = s.buf.queueCells ∧ (removeLaneFrame l s).disp.park = s.disp.park ∧
    (removeLaneFrame l s).disp.parkedCells = s.disp.parkedCells ∧ (removeLaneFrame l s).disp.marks = s.disp.marks ∧
    (removeLaneFrame l s).campus = s.campus ∧ (removeLaneFrame l s).rack = s.rack ∧
    (removeLaneFrame l s).rackRx = s.rackRx ∧ (removeLaneFrame l s).campusRx = s.campusRx ∧
    (removeLaneFrame l s).engine = s.engine ∧ (removeLaneFrame l s).status.heldZeroized = s.status.heldZeroized ∧
    (removeLaneFrame l s).status.replies = s.status.replies ∧
    (removeLaneFrame l s).status.offered = s.status.offered ∧
    (removeLaneFrame l s).status.lastOffered = s.status.lastOffered ∧ (removeLaneFrame l s).freeIndex = s.freeIndex ∧
    (removeLaneFrame l s).pending = s.pending := by
  unfold removeLaneFrame
  split
  · dsimp only
    split <;> simp
  · simp

end Sys2Proof.Machine
end

