-- ==== Sys2Proof/Laws/Arbiters.lean ====
section
/-! SUPPORT. What the arbiters at the end of an event leave as it was. -/

namespace Sys2Proof.Machine

@[simp] theorem drawFree_frame (s : State) :
    (drawFree s).device = s.device ∧ (drawFree s).time = s.time ∧ (drawFree s).station = s.station ∧
    (drawFree s).readBuffer = s.readBuffer ∧ (drawFree s).serial = s.serial ∧ (drawFree s).image = s.image ∧
    (drawFree s).zeroizeLatch = s.zeroizeLatch ∧ (drawFree s).assocs = s.assocs ∧ (drawFree s).keys = s.keys ∧
    (drawFree s).segMap = s.segMap ∧ (drawFree s).bus = s.bus ∧ (drawFree s).buf = s.buf ∧
    (drawFree s).disp = s.disp ∧ (drawFree s).lanes = s.lanes ∧ (drawFree s).campus = s.campus ∧
    (drawFree s).rack = s.rack ∧ (drawFree s).rackRx = s.rackRx ∧ (drawFree s).campusRx = s.campusRx ∧
    (drawFree s).engine = s.engine ∧ (drawFree s).status = s.status ∧ (drawFree s).counters = s.counters ∧
    (drawFree s).pending = s.pending := by
  simp [drawFree]

@[simp] theorem campusBegin_frame (s : State) :
    (campusBegin s).device = s.device ∧ (campusBegin s).time = s.time ∧ (campusBegin s).station = s.station ∧
    (campusBegin s).readBuffer = s.readBuffer ∧ (campusBegin s).serial = s.serial ∧ (campusBegin s).image = s.image ∧
    (campusBegin s).zeroizeLatch = s.zeroizeLatch ∧ (campusBegin s).assocs = s.assocs ∧
    (campusBegin s).keys = s.keys ∧ (campusBegin s).segMap = s.segMap ∧ (campusBegin s).bus = s.bus ∧
    (campusBegin s).buf = s.buf ∧ (campusBegin s).disp = s.disp ∧ (campusBegin s).lanes = s.lanes ∧
    (campusBegin s).campus.pauseTimer = s.campus.pauseTimer ∧ (campusBegin s).campus.fifo = s.campus.fifo ∧
    (campusBegin s).rack = s.rack ∧ (campusBegin s).rackRx = s.rackRx ∧ (campusBegin s).campusRx = s.campusRx ∧
    (campusBegin s).engine = s.engine ∧ (campusBegin s).status = s.status ∧ (campusBegin s).counters = s.counters ∧
    (campusBegin s).freeIndex = s.freeIndex ∧ (campusBegin s).pending = s.pending := by
  unfold campusBegin
  (repeat' split) <;> simp

@[simp] theorem setOffer_frame (o : Offer) (s : State) :
    (setOffer o s).device = s.device ∧ (setOffer o s).time = s.time ∧ (setOffer o s).station = s.station ∧
    (setOffer o s).readBuffer = s.readBuffer ∧ (setOffer o s).serial = s.serial ∧ (setOffer o s).image = s.image ∧
    (setOffer o s).zeroizeLatch = s.zeroizeLatch ∧ (setOffer o s).assocs = s.assocs ∧ (setOffer o s).keys = s.keys ∧
    (setOffer o s).segMap = s.segMap ∧ (setOffer o s).bus = s.bus ∧ (setOffer o s).buf = s.buf ∧
    (setOffer o s).disp = s.disp ∧ (setOffer o s).lanes = s.lanes ∧ (setOffer o s).campus = s.campus ∧
    (setOffer o s).rack = s.rack ∧ (setOffer o s).rackRx = s.rackRx ∧ (setOffer o s).campusRx = s.campusRx ∧
    (setOffer o s).engine = s.engine ∧ (setOffer o s).status.notices = s.status.notices ∧
    (setOffer o s).status.heldZeroized = s.status.heldZeroized ∧ (setOffer o s).status.replies = s.status.replies ∧
    (setOffer o s).status.alert = s.status.alert ∧ (setOffer o s).counters = s.counters ∧
    (setOffer o s).freeIndex = s.freeIndex ∧ (setOffer o s).pending = s.pending := by
  simp [setOffer]

@[simp] theorem statusOffer_frame (before s : State) :
    (statusOffer before s).device = s.device ∧ (statusOffer before s).time = s.time ∧
    (statusOffer before s).station = s.station ∧ (statusOffer before s).readBuffer = s.readBuffer ∧
    (statusOffer before s).serial = s.serial ∧ (statusOffer before s).image = s.image ∧
    (statusOffer before s).zeroizeLatch = s.zeroizeLatch ∧ (statusOffer before s).assocs = s.assocs ∧
    (statusOffer before s).keys = s.keys ∧ (statusOffer before s).segMap = s.segMap ∧
    (statusOffer before s).bus = s.bus ∧ (statusOffer before s).buf = s.buf ∧ (statusOffer before s).disp = s.disp ∧
    (statusOffer before s).lanes = s.lanes ∧ (statusOffer before s).campus = s.campus ∧
    (statusOffer before s).rack = s.rack ∧ (statusOffer before s).rackRx = s.rackRx ∧
    (statusOffer before s).campusRx = s.campusRx ∧ (statusOffer before s).engine = s.engine ∧
    (statusOffer before s).status.notices = s.status.notices ∧
    (statusOffer before s).status.heldZeroized = s.status.heldZeroized ∧
    (statusOffer before s).status.replies = s.status.replies ∧ (statusOffer before s).status.alert = s.status.alert ∧
    (statusOffer before s).counters = s.counters ∧ (statusOffer before s).pending = s.pending := by
  unfold statusOffer
  (repeat' split) <;> simp

@[simp] theorem joinHeldZeroized_frame (s : State) :
    (joinHeldZeroized s).device = s.device ∧ (joinHeldZeroized s).time = s.time ∧
    (joinHeldZeroized s).station = s.station ∧ (joinHeldZeroized s).readBuffer = s.readBuffer ∧
    (joinHeldZeroized s).serial = s.serial ∧ (joinHeldZeroized s).image = s.image ∧
    (joinHeldZeroized s).zeroizeLatch = s.zeroizeLatch ∧ (joinHeldZeroized s).assocs = s.assocs ∧
    (joinHeldZeroized s).keys = s.keys ∧ (joinHeldZeroized s).segMap = s.segMap ∧ (joinHeldZeroized s).bus = s.bus ∧
    (joinHeldZeroized s).buf = s.buf ∧ (joinHeldZeroized s).disp = s.disp ∧ (joinHeldZeroized s).lanes = s.lanes ∧
    (joinHeldZeroized s).campus = s.campus ∧ (joinHeldZeroized s).rack = s.rack ∧
    (joinHeldZeroized s).rackRx = s.rackRx ∧ (joinHeldZeroized s).campusRx = s.campusRx ∧
    (joinHeldZeroized s).engine = s.engine ∧ (joinHeldZeroized s).status.replies = s.status.replies ∧
    (joinHeldZeroized s).status.offered = s.status.offered ∧
    (joinHeldZeroized s).status.lastOffered = s.status.lastOffered ∧ (joinHeldZeroized s).counters = s.counters ∧
    (joinHeldZeroized s).freeIndex = s.freeIndex ∧ (joinHeldZeroized s).pending = s.pending := by
  unfold joinHeldZeroized
  (repeat' split) <;> simp

@[simp] theorem rackSend_frame (k : RackFrameKind) (f : WireFrame) (s : State) :
    (rackSend k f s).device = s.device ∧ (rackSend k f s).time = s.time ∧ (rackSend k f s).station = s.station ∧
    (rackSend k f s).readBuffer = s.readBuffer ∧ (rackSend k f s).serial = s.serial ∧
    (rackSend k f s).image = s.image ∧ (rackSend k f s).zeroizeLatch = s.zeroizeLatch ∧
    (rackSend k f s).assocs = s.assocs ∧ (rackSend k f s).keys = s.keys ∧ (rackSend k f s).segMap = s.segMap ∧
    (rackSend k f s).bus = s.bus ∧ (rackSend k f s).buf = s.buf ∧ (rackSend k f s).disp = s.disp ∧
    (rackSend k f s).lanes = s.lanes ∧ (rackSend k f s).campus = s.campus ∧
    (rackSend k f s).rack.pauseTimer = s.rack.pauseTimer ∧ (rackSend k f s).rackRx = s.rackRx ∧
    (rackSend k f s).campusRx = s.campusRx ∧ (rackSend k f s).engine = s.engine ∧ (rackSend k f s).status = s.status ∧
    (rackSend k f s).counters = s.counters ∧ (rackSend k f s).freeIndex = s.freeIndex ∧
    (rackSend k f s).pending = s.pending := by
  simp [rackSend]

@[simp] theorem beginPauseFrame_frame (s : State) :
    (beginPauseFrame s).device = s.device ∧ (beginPauseFrame s).time = s.time ∧
    (beginPauseFrame s).station = s.station ∧ (beginPauseFrame s).readBuffer = s.readBuffer ∧
    (beginPauseFrame s).serial = s.serial ∧ (beginPauseFrame s).image = s.image ∧
    (beginPauseFrame s).zeroizeLatch = s.zeroizeLatch ∧ (beginPauseFrame s).assocs = s.assocs ∧
    (beginPauseFrame s).keys = s.keys ∧ (beginPauseFrame s).segMap = s.segMap ∧ (beginPauseFrame s).bus = s.bus ∧
    (beginPauseFrame s).buf.pool = s.buf.pool ∧ (beginPauseFrame s).buf.freeCells = s.buf.freeCells ∧
    (beginPauseFrame s).buf.queues = s.buf.queues ∧ (beginPauseFrame s).buf.queueCells = s.buf.queueCells ∧
    (beginPauseFrame s).buf.pausing = s.buf.pausing ∧ (beginPauseFrame s).buf.leftover = s.buf.leftover ∧
    (beginPauseFrame s).disp = s.disp ∧ (beginPauseFrame s).lanes = s.lanes ∧ (beginPauseFrame s).campus = s.campus ∧
    (beginPauseFrame s).rack.pauseTimer = s.rack.pauseTimer ∧ (beginPauseFrame s).rackRx = s.rackRx ∧
    (beginPauseFrame s).campusRx = s.campusRx ∧ (beginPauseFrame s).engine = s.engine ∧
    (beginPauseFrame s).status = s.status ∧ (beginPauseFrame s).counters = s.counters ∧
    (beginPauseFrame s).freeIndex = s.freeIndex ∧ (beginPauseFrame s).pending = s.pending := by
  simp [beginPauseFrame]

@[simp] theorem takeOffer_frame (s : State) :
    (takeOffer s).device = s.device ∧ (takeOffer s).time = s.time ∧ (takeOffer s).station = s.station ∧
    (takeOffer s).readBuffer = s.readBuffer ∧ (takeOffer s).serial = s.serial ∧ (takeOffer s).image = s.image ∧
    (takeOffer s).zeroizeLatch = s.zeroizeLatch ∧ (takeOffer s).assocs = s.assocs ∧ (takeOffer s).keys = s.keys ∧
    (takeOffer s).segMap = s.segMap ∧ (takeOffer s).bus = s.bus ∧ (takeOffer s).buf = s.buf ∧
    (takeOffer s).disp = s.disp ∧ (takeOffer s).lanes = s.lanes ∧ (takeOffer s).campus = s.campus ∧
    (takeOffer s).rack = s.rack ∧ (takeOffer s).rackRx = s.rackRx ∧ (takeOffer s).campusRx = s.campusRx ∧
    (takeOffer s).engine = s.engine ∧ (takeOffer s).status.notices = s.status.notices ∧
    (takeOffer s).status.heldZeroized = s.status.heldZeroized ∧ (takeOffer s).status.replies = s.status.replies ∧
    (takeOffer s).status.lastOffered = s.status.lastOffered ∧ (takeOffer s).status.alert = s.status.alert ∧
    (takeOffer s).counters = s.counters ∧ (takeOffer s).freeIndex = s.freeIndex ∧ (takeOffer s).pending = s.pending := by
  simp [takeOffer]

@[simp] theorem beginReply_frame (s : State) :
    (beginReply s).device = s.device ∧ (beginReply s).time = s.time ∧ (beginReply s).station = s.station ∧
    (beginReply s).readBuffer = s.readBuffer ∧ (beginReply s).serial = s.serial ∧ (beginReply s).image = s.image ∧
    (beginReply s).zeroizeLatch = s.zeroizeLatch ∧ (beginReply s).assocs = s.assocs ∧ (beginReply s).keys = s.keys ∧
    (beginReply s).segMap = s.segMap ∧ (beginReply s).bus = s.bus ∧ (beginReply s).buf = s.buf ∧
    (beginReply s).disp = s.disp ∧ (beginReply s).lanes = s.lanes ∧ (beginReply s).campus = s.campus ∧
    (beginReply s).rack.pauseTimer = s.rack.pauseTimer ∧ (beginReply s).rackRx = s.rackRx ∧
    (beginReply s).campusRx = s.campusRx ∧ (beginReply s).engine = s.engine ∧
    (beginReply s).status.notices = s.status.notices ∧ (beginReply s).status.heldZeroized = s.status.heldZeroized ∧
    (beginReply s).status.replies = s.status.replies ∧ (beginReply s).status.lastOffered = s.status.lastOffered ∧
    (beginReply s).status.alert = s.status.alert ∧ (beginReply s).counters = s.counters ∧
    (beginReply s).freeIndex = s.freeIndex ∧ (beginReply s).pending = s.pending := by
  unfold beginReply
  (repeat' split) <;> simp

@[simp] theorem beginStatus_frame (s : State) :
    (beginStatus s).device = s.device ∧ (beginStatus s).time = s.time ∧ (beginStatus s).station = s.station ∧
    (beginStatus s).readBuffer = s.readBuffer ∧ (beginStatus s).serial = s.serial ∧ (beginStatus s).image = s.image ∧
    (beginStatus s).zeroizeLatch = s.zeroizeLatch ∧ (beginStatus s).assocs = s.assocs ∧
    (beginStatus s).keys = s.keys ∧ (beginStatus s).segMap = s.segMap ∧ (beginStatus s).bus = s.bus ∧
    (beginStatus s).buf = s.buf ∧ (beginStatus s).disp = s.disp ∧ (beginStatus s).lanes = s.lanes ∧
    (beginStatus s).campus = s.campus ∧ (beginStatus s).rack.pauseTimer = s.rack.pauseTimer ∧
    (beginStatus s).rackRx = s.rackRx ∧ (beginStatus s).campusRx = s.campusRx ∧ (beginStatus s).engine = s.engine ∧
    (beginStatus s).status.replies = s.status.replies ∧ (beginStatus s).status.lastOffered = s.status.lastOffered ∧
    (beginStatus s).counters = s.counters ∧ (beginStatus s).freeIndex = s.freeIndex ∧
    (beginStatus s).pending = s.pending := by
  simp [beginStatus]

@[simp] theorem rackPick_frame (s : State) :
    (rackPick s).device = s.device ∧ (rackPick s).time = s.time ∧ (rackPick s).station = s.station ∧
    (rackPick s).readBuffer = s.readBuffer ∧ (rackPick s).serial = s.serial ∧ (rackPick s).image = s.image ∧
    (rackPick s).zeroizeLatch = s.zeroizeLatch ∧ (rackPick s).assocs = s.assocs ∧ (rackPick s).keys = s.keys ∧
    (rackPick s).segMap = s.segMap ∧ (rackPick s).bus = s.bus ∧ (rackPick s).buf.pool = s.buf.pool ∧
    (rackPick s).buf.freeCells = s.buf.freeCells ∧ (rackPick s).buf.queues = s.buf.queues ∧
    (rackPick s).buf.queueCells = s.buf.queueCells ∧ (rackPick s).buf.pausing = s.buf.pausing ∧
    (rackPick s).buf.leftover = s.buf.leftover ∧ (rackPick s).disp = s.disp ∧ (rackPick s).lanes = s.lanes ∧
    (rackPick s).campus = s.campus ∧ (rackPick s).rack.pauseTimer = s.rack.pauseTimer ∧
    (rackPick s).rackRx = s.rackRx ∧ (rackPick s).campusRx = s.campusRx ∧ (rackPick s).engine = s.engine ∧
    (rackPick s).status.replies = s.status.replies ∧ (rackPick s).status.lastOffered = s.status.lastOffered ∧
    (rackPick s).counters = s.counters ∧ (rackPick s).freeIndex = s.freeIndex ∧ (rackPick s).pending = s.pending := by
  unfold rackPick
  (repeat' split) <;> simp

@[simp] theorem finishEvent_frame (before s : State) :
    (finishEvent before s).device = s.device ∧ (finishEvent before s).time = s.time ∧
    (finishEvent before s).station = s.station ∧ (finishEvent before s).readBuffer = s.readBuffer ∧
    (finishEvent before s).serial = s.serial ∧ (finishEvent before s).image = s.image ∧
    (finishEvent before s).zeroizeLatch = s.zeroizeLatch ∧ (finishEvent before s).assocs = s.assocs ∧
    (finishEvent before s).keys = s.keys ∧ (finishEvent before s).segMap = s.segMap ∧
    (finishEvent before s).bus = s.bus ∧ (finishEvent before s).buf.pool = s.buf.pool ∧
    (finishEvent before s).buf.freeCells = s.buf.freeCells ∧ (finishEvent before s).buf.queues = s.buf.queues ∧
    (finishEvent before s).buf.queueCells = s.buf.queueCells ∧ (finishEvent before s).buf.pausing = s.buf.pausing ∧
    (finishEvent before s).buf.leftover = s.buf.leftover ∧
    (finishEvent before s).disp.parkedCells = s.disp.parkedCells ∧
    (finishEvent before s).disp.queueState = s.disp.queueState ∧ (finishEvent before s).lanes = s.lanes ∧
    (finishEvent before s).campus.pauseTimer = s.campus.pauseTimer ∧
    (finishEvent before s).campus.fifo = s.campus.fifo ∧ (finishEvent before s).rack.pauseTimer = s.rack.pauseTimer ∧
    (finishEvent before s).rackRx = s.rackRx ∧ (finishEvent before s).campusRx = s.campusRx ∧
    (finishEvent before s).engine = s.engine ∧ (finishEvent before s).status.replies = s.status.replies ∧
    (finishEvent before s).counters = s.counters ∧ (finishEvent before s).pending = s.pending := by
  simp [finishEvent]

end Sys2Proof.Machine
end

