-- ==== Sys2Proof/Laws/Epochs.lean ====
section
/-! SUPPORT. What the operations of the epoch controller and the counter unit leave as it was. -/

namespace Sys2Proof.Machine

@[simp] theorem discardReservation_frame (a : Fin 64) (c : AssocCount) (s : State) :
    (discardReservation a c s).device = s.device ∧ (discardReservation a c s).time = s.time ∧
    (discardReservation a c s).station = s.station ∧ (discardReservation a c s).readBuffer = s.readBuffer ∧
    (discardReservation a c s).serial = s.serial ∧ (discardReservation a c s).image = s.image ∧
    (discardReservation a c s).zeroizeLatch = s.zeroizeLatch ∧ (discardReservation a c s).keys = s.keys ∧
    (discardReservation a c s).segMap = s.segMap ∧ (discardReservation a c s).bus = s.bus ∧
    (discardReservation a c s).buf = s.buf ∧ (discardReservation a c s).disp = s.disp ∧
    (discardReservation a c s).lanes = s.lanes ∧ (discardReservation a c s).campus = s.campus ∧
    (discardReservation a c s).rack = s.rack ∧ (discardReservation a c s).rackRx = s.rackRx ∧
    (discardReservation a c s).campusRx = s.campusRx ∧ (discardReservation a c s).engine = s.engine ∧
    (discardReservation a c s).status = s.status ∧ (discardReservation a c s).freeIndex = s.freeIndex ∧
    (discardReservation a c s).pending = s.pending := by
  simp [discardReservation]

@[simp] theorem activate_frame (a : Fin 64) (p q : Nat) (s : State) :
    (activate a p q s).device = s.device ∧ (activate a p q s).time = s.time ∧ (activate a p q s).station = s.station ∧
    (activate a p q s).readBuffer = s.readBuffer ∧ (activate a p q s).serial = s.serial ∧
    (activate a p q s).image = s.image ∧ (activate a p q s).zeroizeLatch = s.zeroizeLatch ∧
    (activate a p q s).keys = s.keys ∧ (activate a p q s).segMap = s.segMap ∧ (activate a p q s).bus = s.bus ∧
    (activate a p q s).buf = s.buf ∧ (activate a p q s).disp.park = s.disp.park ∧
    (activate a p q s).disp.parkedCells = s.disp.parkedCells ∧
    (activate a p q s).disp.queueState = s.disp.queueState ∧ (activate a p q s).lanes = s.lanes ∧
    (activate a p q s).campus = s.campus ∧ (activate a p q s).rack = s.rack ∧ (activate a p q s).rackRx = s.rackRx ∧
    (activate a p q s).campusRx = s.campusRx ∧ (activate a p q s).engine = s.engine ∧
    (activate a p q s).status = s.status ∧ (activate a p q s).counters = s.counters ∧
    (activate a p q s).freeIndex = s.freeIndex ∧ (activate a p q s).pending = s.pending := by
  simp [activate]

@[simp] theorem promote_frame (a : Fin 64) (s : State) :
    (promote a s).device = s.device ∧ (promote a s).time = s.time ∧ (promote a s).station = s.station ∧
    (promote a s).readBuffer = s.readBuffer ∧ (promote a s).serial = s.serial ∧ (promote a s).image = s.image ∧
    (promote a s).zeroizeLatch = s.zeroizeLatch ∧ (promote a s).keys = s.keys ∧ (promote a s).segMap = s.segMap ∧
    (promote a s).bus = s.bus ∧ (promote a s).buf = s.buf ∧ (promote a s).disp.park = s.disp.park ∧
    (promote a s).disp.parkedCells = s.disp.parkedCells ∧ (promote a s).disp.queueState = s.disp.queueState ∧
    (promote a s).lanes = s.lanes ∧ (promote a s).campus = s.campus ∧ (promote a s).rack = s.rack ∧
    (promote a s).rackRx = s.rackRx ∧ (promote a s).campusRx = s.campusRx ∧ (promote a s).engine = s.engine ∧
    (promote a s).status = s.status ∧ (promote a s).counters = s.counters ∧ (promote a s).freeIndex = s.freeIndex ∧
    (promote a s).pending = s.pending := by
  unfold promote
  (repeat' split) <;> simp

@[simp] theorem abandonLane_frame (r : SlotRef) (s : State) (l : Fin 4) :
    (abandonLane r s l).device = s.device ∧ (abandonLane r s l).time = s.time ∧
    (abandonLane r s l).station = s.station ∧ (abandonLane r s l).readBuffer = s.readBuffer ∧
    (abandonLane r s l).serial = s.serial ∧ (abandonLane r s l).image = s.image ∧
    (abandonLane r s l).zeroizeLatch = s.zeroizeLatch ∧ (abandonLane r s l).assocs = s.assocs ∧
    (abandonLane r s l).segMap = s.segMap ∧ (abandonLane r s l).bus = s.bus ∧
    (abandonLane r s l).buf.queues = s.buf.queues ∧ (abandonLane r s l).buf.queueCells = s.buf.queueCells ∧
    (abandonLane r s l).disp.park = s.disp.park ∧ (abandonLane r s l).disp.parkedCells = s.disp.parkedCells ∧
    (abandonLane r s l).disp.marks = s.disp.marks ∧ (abandonLane r s l).campus = s.campus ∧
    (abandonLane r s l).rack = s.rack ∧ (abandonLane r s l).rackRx = s.rackRx ∧
    (abandonLane r s l).campusRx = s.campusRx ∧ (abandonLane r s l).engine = s.engine ∧
    (abandonLane r s l).status.heldZeroized = s.status.heldZeroized ∧
    (abandonLane r s l).status.replies = s.status.replies ∧ (abandonLane r s l).status.offered = s.status.offered ∧
    (abandonLane r s l).status.lastOffered = s.status.lastOffered ∧ (abandonLane r s l).freeIndex = s.freeIndex ∧
    (abandonLane r s l).pending = s.pending := by
  simp [abandonLane]

@[simp] theorem abandonLanes_frame (r : SlotRef) (l : List (Fin 4)) (s : State) :
    (l.foldl (abandonLane r) s).device = s.device ∧ (l.foldl (abandonLane r) s).time = s.time ∧
    (l.foldl (abandonLane r) s).station = s.station ∧ (l.foldl (abandonLane r) s).readBuffer = s.readBuffer ∧
    (l.foldl (abandonLane r) s).serial = s.serial ∧ (l.foldl (abandonLane r) s).image = s.image ∧
    (l.foldl (abandonLane r) s).zeroizeLatch = s.zeroizeLatch ∧ (l.foldl (abandonLane r) s).assocs = s.assocs ∧
    (l.foldl (abandonLane r) s).segMap = s.segMap ∧ (l.foldl (abandonLane r) s).bus = s.bus ∧
    (l.foldl (abandonLane r) s).buf.queues = s.buf.queues ∧
    (l.foldl (abandonLane r) s).buf.queueCells = s.buf.queueCells ∧
    (l.foldl (abandonLane r) s).disp.park = s.disp.park ∧
    (l.foldl (abandonLane r) s).disp.parkedCells = s.disp.parkedCells ∧
    (l.foldl (abandonLane r) s).disp.marks = s.disp.marks ∧ (l.foldl (abandonLane r) s).campus = s.campus ∧
    (l.foldl (abandonLane r) s).rack = s.rack ∧ (l.foldl (abandonLane r) s).rackRx = s.rackRx ∧
    (l.foldl (abandonLane r) s).campusRx = s.campusRx ∧ (l.foldl (abandonLane r) s).engine = s.engine ∧
    (l.foldl (abandonLane r) s).status.heldZeroized = s.status.heldZeroized ∧
    (l.foldl (abandonLane r) s).status.replies = s.status.replies ∧
    (l.foldl (abandonLane r) s).status.offered = s.status.offered ∧
    (l.foldl (abandonLane r) s).status.lastOffered = s.status.lastOffered ∧
    (l.foldl (abandonLane r) s).freeIndex = s.freeIndex ∧ (l.foldl (abandonLane r) s).pending = s.pending := by
  induction l generalizing s with
  | nil => simp
  | cons x l ih => simp [ih]

@[simp] theorem freeOldestRetiring_frame (a : Fin 64) (s : State) :
    (freeOldestRetiring a s).device = s.device ∧ (freeOldestRetiring a s).time = s.time ∧
    (freeOldestRetiring a s).station = s.station ∧ (freeOldestRetiring a s).readBuffer = s.readBuffer ∧
    (freeOldestRetiring a s).serial = s.serial ∧ (freeOldestRetiring a s).image = s.image ∧
    (freeOldestRetiring a s).zeroizeLatch = s.zeroizeLatch ∧ (freeOldestRetiring a s).assocs = s.assocs ∧
    (freeOldestRetiring a s).segMap = s.segMap ∧ (freeOldestRetiring a s).bus = s.bus ∧
    (freeOldestRetiring a s).buf.queues = s.buf.queues ∧ (freeOldestRetiring a s).buf.queueCells = s.buf.queueCells ∧
    (freeOldestRetiring a s).disp.park = s.disp.park ∧
    (freeOldestRetiring a s).disp.parkedCells = s.disp.parkedCells ∧
    (freeOldestRetiring a s).disp.marks = s.disp.marks ∧ (freeOldestRetiring a s).campus = s.campus ∧
    (freeOldestRetiring a s).rack = s.rack ∧ (freeOldestRetiring a s).rackRx = s.rackRx ∧
    (freeOldestRetiring a s).campusRx = s.campusRx ∧ (freeOldestRetiring a s).engine = s.engine ∧
    (freeOldestRetiring a s).status.heldZeroized = s.status.heldZeroized ∧
    (freeOldestRetiring a s).status.replies = s.status.replies ∧
    (freeOldestRetiring a s).status.offered = s.status.offered ∧
    (freeOldestRetiring a s).status.lastOffered = s.status.lastOffered ∧
    (freeOldestRetiring a s).freeIndex = s.freeIndex ∧ (freeOldestRetiring a s).pending = s.pending := by
  unfold freeOldestRetiring
  (repeat' split) <;> simp

@[simp] theorem retireCurrent_frame (a : Fin 64) (s : State) :
    (retireCurrent a s).device = s.device ∧ (retireCurrent a s).time = s.time ∧
    (retireCurrent a s).station = s.station ∧ (retireCurrent a s).readBuffer = s.readBuffer ∧
    (retireCurrent a s).serial = s.serial ∧ (retireCurrent a s).image = s.image ∧
    (retireCurrent a s).zeroizeLatch = s.zeroizeLatch ∧ (retireCurrent a s).assocs = s.assocs ∧
    (retireCurrent a s).segMap = s.segMap ∧ (retireCurrent a s).bus = s.bus ∧
    (retireCurrent a s).buf.queues = s.buf.queues ∧ (retireCurrent a s).buf.queueCells = s.buf.queueCells ∧
    (retireCurrent a s).disp.park = s.disp.park ∧ (retireCurrent a s).disp.parkedCells = s.disp.parkedCells ∧
    (retireCurrent a s).disp.marks = s.disp.marks ∧ (retireCurrent a s).campus = s.campus ∧
    (retireCurrent a s).rack = s.rack ∧ (retireCurrent a s).rackRx = s.rackRx ∧
    (retireCurrent a s).campusRx = s.campusRx ∧ (retireCurrent a s).engine = s.engine ∧
    (retireCurrent a s).status.heldZeroized = s.status.heldZeroized ∧
    (retireCurrent a s).status.replies = s.status.replies ∧ (retireCurrent a s).status.offered = s.status.offered ∧
    (retireCurrent a s).status.lastOffered = s.status.lastOffered ∧ (retireCurrent a s).freeIndex = s.freeIndex ∧
    (retireCurrent a s).pending = s.pending := by
  unfold retireCurrent
  split
  · dsimp only
    (repeat' split) <;> simp
  · simp

@[simp] theorem discardKey_frame (r : SlotRef) (s : State) :
    (discardKey r s).device = s.device ∧ (discardKey r s).time = s.time ∧ (discardKey r s).station = s.station ∧
    (discardKey r s).readBuffer = s.readBuffer ∧ (discardKey r s).serial = s.serial ∧
    (discardKey r s).image = s.image ∧ (discardKey r s).zeroizeLatch = s.zeroizeLatch ∧
    (discardKey r s).assocs = s.assocs ∧ (discardKey r s).segMap = s.segMap ∧ (discardKey r s).bus = s.bus ∧
    (discardKey r s).buf = s.buf ∧ (discardKey r s).disp = s.disp ∧ (discardKey r s).lanes = s.lanes ∧
    (discardKey r s).campus = s.campus ∧ (discardKey r s).rack = s.rack ∧ (discardKey r s).rackRx = s.rackRx ∧
    (discardKey r s).campusRx = s.campusRx ∧ (discardKey r s).engine = s.engine ∧
    (discardKey r s).status.heldZeroized = s.status.heldZeroized ∧
    (discardKey r s).status.replies = s.status.replies ∧ (discardKey r s).status.offered = s.status.offered ∧
    (discardKey r s).status.lastOffered = s.status.lastOffered ∧ (discardKey r s).freeIndex = s.freeIndex ∧
    (discardKey r s).pending = s.pending := by
  simp [discardKey]

@[simp] theorem discardKeysIn_frame (a : Fin 64) (p : KeySlot → Bool) (l : List (Fin 4)) (s : State) :
   
    (l.foldl (fun s j => if p (s.slot { assoc := a, index := j }) then discardKey { assoc := a, index := j } s else s) s).device = s.device ∧
    (l.foldl (fun s j => if p (s.slot { assoc := a, index := j }) then discardKey { assoc := a, index := j } s else s) s).time = s.time ∧
    (l.foldl (fun s j => if p (s.slot { assoc := a, index := j }) then discardKey { assoc := a, index := j } s else s) s).station = s.station ∧
    (l.foldl (fun s j => if p (s.slot { assoc := a, index := j }) then discardKey { assoc := a, index := j } s else s) s).readBuffer = s.readBuffer ∧
    (l.foldl (fun s j => if p (s.slot { assoc := a, index := j }) then discardKey { assoc := a, index := j } s else s) s).serial = s.serial ∧
    (l.foldl (fun s j => if p (s.slot { assoc := a, index := j }) then discardKey { assoc := a, index := j } s else s) s).image = s.image ∧
    (l.foldl (fun s j => if p (s.slot { assoc := a, index := j }) then discardKey { assoc := a, index := j } s else s) s).zeroizeLatch = s.zeroizeLatch ∧
    (l.foldl (fun s j => if p (s.slot { assoc := a, index := j }) then discardKey { assoc := a, index := j } s else s) s).assocs = s.assocs ∧
    (l.foldl (fun s j => if p (s.slot { assoc := a, index := j }) then discardKey { assoc := a, index := j } s else s) s).segMap = s.segMap ∧
    (l.foldl (fun s j => if p (s.slot { assoc := a, index := j }) then discardKey { assoc := a, index := j } s else s) s).bus = s.bus ∧
    (l.foldl (fun s j => if p (s.slot { assoc := a, index := j }) then discardKey { assoc := a, index := j } s else s) s).buf = s.buf ∧
    (l.foldl (fun s j => if p (s.slot { assoc := a, index := j }) then discardKey { assoc := a, index := j } s else s) s).disp = s.disp ∧
    (l.foldl (fun s j => if p (s.slot { assoc := a, index := j }) then discardKey { assoc := a, index := j } s else s) s).lanes = s.lanes ∧
    (l.foldl (fun s j => if p (s.slot { assoc := a, index := j }) then discardKey { assoc := a, index := j } s else s) s).campus = s.campus ∧
    (l.foldl (fun s j => if p (s.slot { assoc := a, index := j }) then discardKey { assoc := a, index := j } s else s) s).rack = s.rack ∧
    (l.foldl (fun s j => if p (s.slot { assoc := a, index := j }) then discardKey { assoc := a, index := j } s else s) s).rackRx = s.rackRx ∧
    (l.foldl (fun s j => if p (s.slot { assoc := a, index := j }) then discardKey { assoc := a, index := j } s else s) s).campusRx = s.campusRx ∧
    (l.foldl (fun s j => if p (s.slot { assoc := a, index := j }) then discardKey { assoc := a, index := j } s else s) s).engine = s.engine ∧
    (l.foldl (fun s j => if p (s.slot { assoc := a, index := j }) then discardKey { assoc := a, index := j } s else s) s).status.heldZeroized = s.status.heldZeroized ∧
    (l.foldl (fun s j => if p (s.slot { assoc := a, index := j }) then discardKey { assoc := a, index := j } s else s) s).status.replies = s.status.replies ∧
    (l.foldl (fun s j => if p (s.slot { assoc := a, index := j }) then discardKey { assoc := a, index := j } s else s) s).status.offered = s.status.offered ∧
    (l.foldl (fun s j => if p (s.slot { assoc := a, index := j }) then discardKey { assoc := a, index := j } s else s) s).status.lastOffered = s.status.lastOffered ∧
    (l.foldl (fun s j => if p (s.slot { assoc := a, index := j }) then discardKey { assoc := a, index := j } s else s) s).freeIndex = s.freeIndex ∧
    (l.foldl (fun s j => if p (s.slot { assoc := a, index := j }) then discardKey { assoc := a, index := j } s else s) s).pending = s.pending := by
  induction l generalizing s with
  | nil => simp
  | cons x l ih =>
    simp only [List.foldl_cons, ih]
    split <;> simp

@[simp] theorem discardKeys_frame (a : Fin 64) (p : KeySlot → Bool) (s : State) :
    (discardKeys a p s).device = s.device ∧ (discardKeys a p s).time = s.time ∧
    (discardKeys a p s).station = s.station ∧ (discardKeys a p s).readBuffer = s.readBuffer ∧
    (discardKeys a p s).serial = s.serial ∧ (discardKeys a p s).image = s.image ∧
    (discardKeys a p s).zeroizeLatch = s.zeroizeLatch ∧ (discardKeys a p s).assocs = s.assocs ∧
    (discardKeys a p s).segMap = s.segMap ∧ (discardKeys a p s).bus = s.bus ∧ (discardKeys a p s).buf = s.buf ∧
    (discardKeys a p s).disp = s.disp ∧ (discardKeys a p s).lanes = s.lanes ∧ (discardKeys a p s).campus = s.campus ∧
    (discardKeys a p s).rack = s.rack ∧ (discardKeys a p s).rackRx = s.rackRx ∧
    (discardKeys a p s).campusRx = s.campusRx ∧ (discardKeys a p s).engine = s.engine ∧
    (discardKeys a p s).status.heldZeroized = s.status.heldZeroized ∧
    (discardKeys a p s).status.replies = s.status.replies ∧ (discardKeys a p s).status.offered = s.status.offered ∧
    (discardKeys a p s).status.lastOffered = s.status.lastOffered ∧ (discardKeys a p s).freeIndex = s.freeIndex ∧
    (discardKeys a p s).pending = s.pending := by
  simp [discardKeys]

@[simp] theorem postAllMarks_frame (a : Fin 64) (s : State) :
    (postAllMarks a s).device = s.device ∧ (postAllMarks a s).time = s.time ∧ (postAllMarks a s).station = s.station ∧
    (postAllMarks a s).readBuffer = s.readBuffer ∧ (postAllMarks a s).serial = s.serial ∧
    (postAllMarks a s).image = s.image ∧ (postAllMarks a s).zeroizeLatch = s.zeroizeLatch ∧
    (postAllMarks a s).assocs = s.assocs ∧ (postAllMarks a s).keys = s.keys ∧ (postAllMarks a s).segMap = s.segMap ∧
    (postAllMarks a s).bus = s.bus ∧ (postAllMarks a s).buf = s.buf ∧ (postAllMarks a s).disp.park = s.disp.park ∧
    (postAllMarks a s).disp.parkedCells = s.disp.parkedCells ∧
    (postAllMarks a s).disp.queueState = s.disp.queueState ∧ (postAllMarks a s).lanes = s.lanes ∧
    (postAllMarks a s).campus = s.campus ∧ (postAllMarks a s).rack = s.rack ∧ (postAllMarks a s).rackRx = s.rackRx ∧
    (postAllMarks a s).campusRx = s.campusRx ∧ (postAllMarks a s).engine = s.engine ∧
    (postAllMarks a s).status = s.status ∧ (postAllMarks a s).counters = s.counters ∧
    (postAllMarks a s).freeIndex = s.freeIndex ∧ (postAllMarks a s).pending = s.pending := by
  simp [postAllMarks]

@[simp] theorem postEpochEnd_frame (a : Fin 64) (s : State) :
    (postEpochEnd a s).device = s.device ∧ (postEpochEnd a s).time = s.time ∧ (postEpochEnd a s).station = s.station ∧
    (postEpochEnd a s).readBuffer = s.readBuffer ∧ (postEpochEnd a s).serial = s.serial ∧
    (postEpochEnd a s).image = s.image ∧ (postEpochEnd a s).zeroizeLatch = s.zeroizeLatch ∧
    (postEpochEnd a s).assocs = s.assocs ∧ (postEpochEnd a s).keys = s.keys ∧ (postEpochEnd a s).segMap = s.segMap ∧
    (postEpochEnd a s).bus = s.bus ∧ (postEpochEnd a s).buf = s.buf ∧ (postEpochEnd a s).disp = s.disp ∧
    (postEpochEnd a s).lanes = s.lanes ∧ (postEpochEnd a s).campus = s.campus ∧ (postEpochEnd a s).rack = s.rack ∧
    (postEpochEnd a s).rackRx = s.rackRx ∧ (postEpochEnd a s).campusRx = s.campusRx ∧
    (postEpochEnd a s).engine = s.engine ∧ (postEpochEnd a s).status.heldZeroized = s.status.heldZeroized ∧
    (postEpochEnd a s).status.replies = s.status.replies ∧ (postEpochEnd a s).status.offered = s.status.offered ∧
    (postEpochEnd a s).status.lastOffered = s.status.lastOffered ∧ (postEpochEnd a s).freeIndex = s.freeIndex ∧
    (postEpochEnd a s).pending = s.pending := by
  simp [postEpochEnd]

@[simp] theorem retireRecord_frame (a : Fin 64) (s : State) :
    (retireRecord a s).device = s.device ∧ (retireRecord a s).time = s.time ∧ (retireRecord a s).station = s.station ∧
    (retireRecord a s).readBuffer = s.readBuffer ∧ (retireRecord a s).serial = s.serial ∧
    (retireRecord a s).image = s.image ∧ (retireRecord a s).zeroizeLatch = s.zeroizeLatch ∧
    (retireRecord a s).keys = s.keys ∧ (retireRecord a s).segMap = s.segMap ∧
    (retireRecord a s).bus.errorCount = s.bus.errorCount ∧ (retireRecord a s).bus.quiet = s.bus.quiet ∧
    (retireRecord a s).bus.noAck = s.bus.noAck ∧ (retireRecord a s).bus.backoff = s.bus.backoff ∧
    (retireRecord a s).bus.settleTimer = s.bus.settleTimer ∧ (retireRecord a s).bus.idleSeen = s.bus.idleSeen ∧
    (retireRecord a s).buf = s.buf ∧ (retireRecord a s).disp = s.disp ∧ (retireRecord a s).lanes = s.lanes ∧
    (retireRecord a s).campus = s.campus ∧ (retireRecord a s).rack = s.rack ∧ (retireRecord a s).rackRx = s.rackRx ∧
    (retireRecord a s).campusRx = s.campusRx ∧ (retireRecord a s).engine = s.engine ∧
    (retireRecord a s).status = s.status ∧ (retireRecord a s).freeIndex = s.freeIndex ∧
    (retireRecord a s).pending = s.pending := by
  simp [retireRecord]

@[simp] theorem retire_frame (a : Fin 64) (b : Bool) (s : State) :
    (retire a b s).device = s.device ∧ (retire a b s).time = s.time ∧ (retire a b s).station = s.station ∧
    (retire a b s).readBuffer = s.readBuffer ∧ (retire a b s).serial = s.serial ∧ (retire a b s).image = s.image ∧
    (retire a b s).zeroizeLatch = s.zeroizeLatch ∧ (retire a b s).segMap = s.segMap ∧
    (retire a b s).bus.errorCount = s.bus.errorCount ∧ (retire a b s).bus.quiet = s.bus.quiet ∧
    (retire a b s).bus.noAck = s.bus.noAck ∧ (retire a b s).bus.backoff = s.bus.backoff ∧
    (retire a b s).bus.settleTimer = s.bus.settleTimer ∧ (retire a b s).bus.idleSeen = s.bus.idleSeen ∧
    (retire a b s).buf.queues = s.buf.queues ∧ (retire a b s).buf.queueCells = s.buf.queueCells ∧
    (retire a b s).disp.park = s.disp.park ∧ (retire a b s).disp.parkedCells = s.disp.parkedCells ∧
    (retire a b s).campus = s.campus ∧ (retire a b s).rack = s.rack ∧ (retire a b s).rackRx = s.rackRx ∧
    (retire a b s).campusRx = s.campusRx ∧ (retire a b s).engine = s.engine ∧
    (retire a b s).status.heldZeroized = s.status.heldZeroized ∧ (retire a b s).status.replies = s.status.replies ∧
    (retire a b s).status.offered = s.status.offered ∧ (retire a b s).status.lastOffered = s.status.lastOffered ∧
    (retire a b s).freeIndex = s.freeIndex ∧ (retire a b s).pending = s.pending := by
  cases b <;> simp [retire]

@[simp] theorem requestAdvance_frame (a : Fin 64) (x : AdvanceReason) (s : State) :
    (requestAdvance a x s).device = s.device ∧ (requestAdvance a x s).time = s.time ∧
    (requestAdvance a x s).station = s.station ∧ (requestAdvance a x s).readBuffer = s.readBuffer ∧
    (requestAdvance a x s).serial = s.serial ∧ (requestAdvance a x s).image = s.image ∧
    (requestAdvance a x s).zeroizeLatch = s.zeroizeLatch ∧ (requestAdvance a x s).segMap = s.segMap ∧
    (requestAdvance a x s).bus.errorCount = s.bus.errorCount ∧ (requestAdvance a x s).bus.quiet = s.bus.quiet ∧
    (requestAdvance a x s).bus.noAck = s.bus.noAck ∧ (requestAdvance a x s).bus.backoff = s.bus.backoff ∧
    (requestAdvance a x s).bus.settleTimer = s.bus.settleTimer ∧
    (requestAdvance a x s).bus.idleSeen = s.bus.idleSeen ∧ (requestAdvance a x s).buf.queues = s.buf.queues ∧
    (requestAdvance a x s).buf.queueCells = s.buf.queueCells ∧ (requestAdvance a x s).disp.park = s.disp.park ∧
    (requestAdvance a x s).disp.parkedCells = s.disp.parkedCells ∧ (requestAdvance a x s).campus = s.campus ∧
    (requestAdvance a x s).rack = s.rack ∧ (requestAdvance a x s).rackRx = s.rackRx ∧
    (requestAdvance a x s).campusRx = s.campusRx ∧ (requestAdvance a x s).engine = s.engine ∧
    (requestAdvance a x s).status.heldZeroized = s.status.heldZeroized ∧
    (requestAdvance a x s).status.replies = s.status.replies ∧
    (requestAdvance a x s).status.offered = s.status.offered ∧
    (requestAdvance a x s).status.lastOffered = s.status.lastOffered ∧
    (requestAdvance a x s).freeIndex = s.freeIndex ∧ (requestAdvance a x s).pending = s.pending := by
  unfold requestAdvance
  (repeat' split) <;> simp

@[simp] theorem requestClaim_frame (a : Fin 64) (s : State) :
    (requestClaim a s).device = s.device ∧ (requestClaim a s).time = s.time ∧ (requestClaim a s).station = s.station ∧
    (requestClaim a s).readBuffer = s.readBuffer ∧ (requestClaim a s).serial = s.serial ∧
    (requestClaim a s).image = s.image ∧ (requestClaim a s).zeroizeLatch = s.zeroizeLatch ∧
    (requestClaim a s).segMap = s.segMap ∧ (requestClaim a s).bus.errorCount = s.bus.errorCount ∧
    (requestClaim a s).bus.quiet = s.bus.quiet ∧ (requestClaim a s).bus.noAck = s.bus.noAck ∧
    (requestClaim a s).bus.backoff = s.bus.backoff ∧ (requestClaim a s).bus.settleTimer = s.bus.settleTimer ∧
    (requestClaim a s).bus.idleSeen = s.bus.idleSeen ∧ (requestClaim a s).buf.queues = s.buf.queues ∧
    (requestClaim a s).buf.queueCells = s.buf.queueCells ∧ (requestClaim a s).disp.park = s.disp.park ∧
    (requestClaim a s).disp.parkedCells = s.disp.parkedCells ∧ (requestClaim a s).campus = s.campus ∧
    (requestClaim a s).rack = s.rack ∧ (requestClaim a s).rackRx = s.rackRx ∧
    (requestClaim a s).campusRx = s.campusRx ∧ (requestClaim a s).engine = s.engine ∧
    (requestClaim a s).status.heldZeroized = s.status.heldZeroized ∧
    (requestClaim a s).status.replies = s.status.replies ∧ (requestClaim a s).status.offered = s.status.offered ∧
    (requestClaim a s).status.lastOffered = s.status.lastOffered ∧ (requestClaim a s).freeIndex = s.freeIndex ∧
    (requestClaim a s).pending = s.pending := by
  unfold requestClaim
  (repeat' split) <;> simp

@[simp] theorem queueHeldAdvance_frame (a : Fin 64) (s : State) :
    (queueHeldAdvance a s).device = s.device ∧ (queueHeldAdvance a s).time = s.time ∧
    (queueHeldAdvance a s).station = s.station ∧ (queueHeldAdvance a s).readBuffer = s.readBuffer ∧
    (queueHeldAdvance a s).serial = s.serial ∧ (queueHeldAdvance a s).image = s.image ∧
    (queueHeldAdvance a s).zeroizeLatch = s.zeroizeLatch ∧ (queueHeldAdvance a s).keys = s.keys ∧
    (queueHeldAdvance a s).segMap = s.segMap ∧ (queueHeldAdvance a s).bus.errorCount = s.bus.errorCount ∧
    (queueHeldAdvance a s).bus.quiet = s.bus.quiet ∧ (queueHeldAdvance a s).bus.noAck = s.bus.noAck ∧
    (queueHeldAdvance a s).bus.backoff = s.bus.backoff ∧ (queueHeldAdvance a s).bus.settleTimer = s.bus.settleTimer ∧
    (queueHeldAdvance a s).bus.idleSeen = s.bus.idleSeen ∧ (queueHeldAdvance a s).bus.onBus = s.bus.onBus ∧
    (queueHeldAdvance a s).buf = s.buf ∧ (queueHeldAdvance a s).disp = s.disp ∧
    (queueHeldAdvance a s).lanes = s.lanes ∧ (queueHeldAdvance a s).campus = s.campus ∧
    (queueHeldAdvance a s).rack = s.rack ∧ (queueHeldAdvance a s).rackRx = s.rackRx ∧
    (queueHeldAdvance a s).campusRx = s.campusRx ∧ (queueHeldAdvance a s).engine = s.engine ∧
    (queueHeldAdvance a s).status = s.status ∧ (queueHeldAdvance a s).counters = s.counters ∧
    (queueHeldAdvance a s).freeIndex = s.freeIndex ∧ (queueHeldAdvance a s).pending = s.pending := by
  unfold queueHeldAdvance
  (repeat' split) <;> simp

@[simp] theorem resetRecordForEpoch_frame (a : Fin 64) (e : Nat) (s : State) :
    (resetRecordForEpoch a e s).device = s.device ∧ (resetRecordForEpoch a e s).time = s.time ∧
    (resetRecordForEpoch a e s).station = s.station ∧ (resetRecordForEpoch a e s).readBuffer = s.readBuffer ∧
    (resetRecordForEpoch a e s).serial = s.serial ∧ (resetRecordForEpoch a e s).image = s.image ∧
    (resetRecordForEpoch a e s).zeroizeLatch = s.zeroizeLatch ∧ (resetRecordForEpoch a e s).keys = s.keys ∧
    (resetRecordForEpoch a e s).segMap = s.segMap ∧ (resetRecordForEpoch a e s).bus.errorCount = s.bus.errorCount ∧
    (resetRecordForEpoch a e s).bus.quiet = s.bus.quiet ∧ (resetRecordForEpoch a e s).bus.noAck = s.bus.noAck ∧
    (resetRecordForEpoch a e s).bus.backoff = s.bus.backoff ∧
    (resetRecordForEpoch a e s).bus.settleTimer = s.bus.settleTimer ∧
    (resetRecordForEpoch a e s).bus.idleSeen = s.bus.idleSeen ∧ (resetRecordForEpoch a e s).buf = s.buf ∧
    (resetRecordForEpoch a e s).disp = s.disp ∧ (resetRecordForEpoch a e s).lanes = s.lanes ∧
    (resetRecordForEpoch a e s).campus = s.campus ∧ (resetRecordForEpoch a e s).rack = s.rack ∧
    (resetRecordForEpoch a e s).rackRx = s.rackRx ∧ (resetRecordForEpoch a e s).campusRx = s.campusRx ∧
    (resetRecordForEpoch a e s).engine = s.engine ∧ (resetRecordForEpoch a e s).status = s.status ∧
    (resetRecordForEpoch a e s).freeIndex = s.freeIndex ∧ (resetRecordForEpoch a e s).pending = s.pending := by
  simp [resetRecordForEpoch]

@[simp] theorem takeUpStandby_frame (a : Fin 64) (e : Nat) (s : State) :
    (takeUpStandby a e s).device = s.device ∧ (takeUpStandby a e s).time = s.time ∧
    (takeUpStandby a e s).station = s.station ∧ (takeUpStandby a e s).readBuffer = s.readBuffer ∧
    (takeUpStandby a e s).serial = s.serial ∧ (takeUpStandby a e s).image = s.image ∧
    (takeUpStandby a e s).zeroizeLatch = s.zeroizeLatch ∧ (takeUpStandby a e s).segMap = s.segMap ∧
    (takeUpStandby a e s).bus = s.bus ∧ (takeUpStandby a e s).buf = s.buf ∧
    (takeUpStandby a e s).disp.park = s.disp.park ∧ (takeUpStandby a e s).disp.parkedCells = s.disp.parkedCells ∧
    (takeUpStandby a e s).disp.queueState = s.disp.queueState ∧ (takeUpStandby a e s).lanes = s.lanes ∧
    (takeUpStandby a e s).campus = s.campus ∧ (takeUpStandby a e s).rack = s.rack ∧
    (takeUpStandby a e s).rackRx = s.rackRx ∧ (takeUpStandby a e s).campusRx = s.campusRx ∧
    (takeUpStandby a e s).engine = s.engine ∧ (takeUpStandby a e s).status.heldZeroized = s.status.heldZeroized ∧
    (takeUpStandby a e s).status.replies = s.status.replies ∧
    (takeUpStandby a e s).status.offered = s.status.offered ∧
    (takeUpStandby a e s).status.lastOffered = s.status.lastOffered ∧ (takeUpStandby a e s).freeIndex = s.freeIndex ∧
    (takeUpStandby a e s).pending = s.pending := by
  unfold takeUpStandby
  (repeat' split) <;> simp

@[simp] theorem applyAdvance_frame (a : Fin 64) (e : Nat) (x : AdvanceReason) (i : Nat) (s : State) :
    (applyAdvance a e x i s).device = s.device ∧ (applyAdvance a e x i s).time = s.time ∧
    (applyAdvance a e x i s).station = s.station ∧ (applyAdvance a e x i s).readBuffer = s.readBuffer ∧
    (applyAdvance a e x i s).serial = s.serial ∧ (applyAdvance a e x i s).image = s.image ∧
    (applyAdvance a e x i s).zeroizeLatch = s.zeroizeLatch ∧ (applyAdvance a e x i s).segMap = s.segMap ∧
    (applyAdvance a e x i s).bus.errorCount = s.bus.errorCount ∧ (applyAdvance a e x i s).bus.quiet = s.bus.quiet ∧
    (applyAdvance a e x i s).bus.noAck = s.bus.noAck ∧ (applyAdvance a e x i s).bus.backoff = s.bus.backoff ∧
    (applyAdvance a e x i s).bus.settleTimer = s.bus.settleTimer ∧
    (applyAdvance a e x i s).bus.idleSeen = s.bus.idleSeen ∧ (applyAdvance a e x i s).buf.queues = s.buf.queues ∧
    (applyAdvance a e x i s).buf.queueCells = s.buf.queueCells ∧ (applyAdvance a e x i s).disp.park = s.disp.park ∧
    (applyAdvance a e x i s).disp.parkedCells = s.disp.parkedCells ∧ (applyAdvance a e x i s).campus = s.campus ∧
    (applyAdvance a e x i s).rack = s.rack ∧ (applyAdvance a e x i s).rackRx = s.rackRx ∧
    (applyAdvance a e x i s).campusRx = s.campusRx ∧ (applyAdvance a e x i s).engine = s.engine ∧
    (applyAdvance a e x i s).status.heldZeroized = s.status.heldZeroized ∧
    (applyAdvance a e x i s).status.replies = s.status.replies ∧
    (applyAdvance a e x i s).status.offered = s.status.offered ∧
    (applyAdvance a e x i s).status.lastOffered = s.status.lastOffered ∧
    (applyAdvance a e x i s).freeIndex = s.freeIndex ∧ (applyAdvance a e x i s).pending = s.pending := by
  simp only [applyAdvance]
  split <;> simp

@[simp] theorem advanceReaches_frame (a : Fin 64) (e : Nat) (x : AdvanceReason) (i : Nat) (s : State) :
    (advanceReaches a e x i s).device = s.device ∧ (advanceReaches a e x i s).time = s.time ∧
    (advanceReaches a e x i s).station = s.station ∧ (advanceReaches a e x i s).readBuffer = s.readBuffer ∧
    (advanceReaches a e x i s).serial = s.serial ∧ (advanceReaches a e x i s).image = s.image ∧
    (advanceReaches a e x i s).zeroizeLatch = s.zeroizeLatch ∧ (advanceReaches a e x i s).segMap = s.segMap ∧
    (advanceReaches a e x i s).bus.errorCount = s.bus.errorCount ∧
    (advanceReaches a e x i s).bus.quiet = s.bus.quiet ∧ (advanceReaches a e x i s).bus.noAck = s.bus.noAck ∧
    (advanceReaches a e x i s).bus.backoff = s.bus.backoff ∧
    (advanceReaches a e x i s).bus.settleTimer = s.bus.settleTimer ∧
    (advanceReaches a e x i s).bus.idleSeen = s.bus.idleSeen ∧ (advanceReaches a e x i s).buf.queues = s.buf.queues ∧
    (advanceReaches a e x i s).buf.queueCells = s.buf.queueCells ∧
    (advanceReaches a e x i s).disp.park = s.disp.park ∧
    (advanceReaches a e x i s).disp.parkedCells = s.disp.parkedCells ∧ (advanceReaches a e x i s).campus = s.campus ∧
    (advanceReaches a e x i s).rack = s.rack ∧ (advanceReaches a e x i s).rackRx = s.rackRx ∧
    (advanceReaches a e x i s).campusRx = s.campusRx ∧ (advanceReaches a e x i s).engine = s.engine ∧
    (advanceReaches a e x i s).status.heldZeroized = s.status.heldZeroized ∧
    (advanceReaches a e x i s).status.replies = s.status.replies ∧
    (advanceReaches a e x i s).status.offered = s.status.offered ∧
    (advanceReaches a e x i s).status.lastOffered = s.status.lastOffered ∧
    (advanceReaches a e x i s).freeIndex = s.freeIndex ∧ (advanceReaches a e x i s).pending = s.pending := by
  unfold advanceReaches
  (repeat' split) <;> simp

@[simp] theorem assignRolesIn_frame (a : Fin 64) (e : Nat) (l : List (Fin 4)) (s : State) :
   
    (l.foldl (fun s j => if (s.slot { assoc := a, index := j }).epoch = e then s.setSlot { assoc := a, index := j } { s.slot { assoc := a, index := j } with role := .current } else if (s.slot { assoc := a, index := j }).epoch = e + 1 then s.setSlot { assoc := a, index := j } { s.slot { assoc := a, index := j } with role := .standby } else discardKey { assoc := a, index := j } s) s).device = s.device ∧
    (l.foldl (fun s j => if (s.slot { assoc := a, index := j }).epoch = e then s.setSlot { assoc := a, index := j } { s.slot { assoc := a, index := j } with role := .current } else if (s.slot { assoc := a, index := j }).epoch = e + 1 then s.setSlot { assoc := a, index := j } { s.slot { assoc := a, index := j } with role := .standby } else discardKey { assoc := a, index := j } s) s).time = s.time ∧
    (l.foldl (fun s j => if (s.slot { assoc := a, index := j }).epoch = e then s.setSlot { assoc := a, index := j } { s.slot { assoc := a, index := j } with role := .current } else if (s.slot { assoc := a, index := j }).epoch = e + 1 then s.setSlot { assoc := a, index := j } { s.slot { assoc := a, index := j } with role := .standby } else discardKey { assoc := a, index := j } s) s).station = s.station ∧
    (l.foldl (fun s j => if (s.slot { assoc := a, index := j }).epoch = e then s.setSlot { assoc := a, index := j } { s.slot { assoc := a, index := j } with role := .current } else if (s.slot { assoc := a, index := j }).epoch = e + 1 then s.setSlot { assoc := a, index := j } { s.slot { assoc := a, index := j } with role := .standby } else discardKey { assoc := a, index := j } s) s).readBuffer = s.readBuffer ∧
    (l.foldl (fun s j => if (s.slot { assoc := a, index := j }).epoch = e then s.setSlot { assoc := a, index := j } { s.slot { assoc := a, index := j } with role := .current } else if (s.slot { assoc := a, index := j }).epoch = e + 1 then s.setSlot { assoc := a, index := j } { s.slot { assoc := a, index := j } with role := .standby } else discardKey { assoc := a, index := j } s) s).serial = s.serial ∧
    (l.foldl (fun s j => if (s.slot { assoc := a, index := j }).epoch = e then s.setSlot { assoc := a, index := j } { s.slot { assoc := a, index := j } with role := .current } else if (s.slot { assoc := a, index := j }).epoch = e + 1 then s.setSlot { assoc := a, index := j } { s.slot { assoc := a, index := j } with role := .standby } else discardKey { assoc := a, index := j } s) s).image = s.image ∧
    (l.foldl (fun s j => if (s.slot { assoc := a, index := j }).epoch = e then s.setSlot { assoc := a, index := j } { s.slot { assoc := a, index := j } with role := .current } else if (s.slot { assoc := a, index := j }).epoch = e + 1 then s.setSlot { assoc := a, index := j } { s.slot { assoc := a, index := j } with role := .standby } else discardKey { assoc := a, index := j } s) s).zeroizeLatch = s.zeroizeLatch ∧
    (l.foldl (fun s j => if (s.slot { assoc := a, index := j }).epoch = e then s.setSlot { assoc := a, index := j } { s.slot { assoc := a, index := j } with role := .current } else if (s.slot { assoc := a, index := j }).epoch = e + 1 then s.setSlot { assoc := a, index := j } { s.slot { assoc := a, index := j } with role := .standby } else discardKey { assoc := a, index := j } s) s).assocs = s.assocs ∧
    (l.foldl (fun s j => if (s.slot { assoc := a, index := j }).epoch = e then s.setSlot { assoc := a, index := j } { s.slot { assoc := a, index := j } with role := .current } else if (s.slot { assoc := a, index := j }).epoch = e + 1 then s.setSlot { assoc := a, index := j } { s.slot { assoc := a, index := j } with role := .standby } else discardKey { assoc := a, index := j } s) s).segMap = s.segMap ∧
    (l.foldl (fun s j => if (s.slot { assoc := a, index := j }).epoch = e then s.setSlot { assoc := a, index := j } { s.slot { assoc := a, index := j } with role := .current } else if (s.slot { assoc := a, index := j }).epoch = e + 1 then s.setSlot { assoc := a, index := j } { s.slot { assoc := a, index := j } with role := .standby } else discardKey { assoc := a, index := j } s) s).bus = s.bus ∧
    (l.foldl (fun s j => if (s.slot { assoc := a, index := j }).epoch = e then s.setSlot { assoc := a, index := j } { s.slot { assoc := a, index := j } with role := .current } else if (s.slot { assoc := a, index := j }).epoch = e + 1 then s.setSlot { assoc := a, index := j } { s.slot { assoc := a, index := j } with role := .standby } else discardKey { assoc := a, index := j } s) s).buf = s.buf ∧
    (l.foldl (fun s j => if (s.slot { assoc := a, index := j }).epoch = e then s.setSlot { assoc := a, index := j } { s.slot { assoc := a, index := j } with role := .current } else if (s.slot { assoc := a, index := j }).epoch = e + 1 then s.setSlot { assoc := a, index := j } { s.slot { assoc := a, index := j } with role := .standby } else discardKey { assoc := a, index := j } s) s).disp = s.disp ∧
    (l.foldl (fun s j => if (s.slot { assoc := a, index := j }).epoch = e then s.setSlot { assoc := a, index := j } { s.slot { assoc := a, index := j } with role := .current } else if (s.slot { assoc := a, index := j }).epoch = e + 1 then s.setSlot { assoc := a, index := j } { s.slot { assoc := a, index := j } with role := .standby } else discardKey { assoc := a, index := j } s) s).lanes = s.lanes ∧
    (l.foldl (fun s j => if (s.slot { assoc := a, index := j }).epoch = e then s.setSlot { assoc := a, index := j } { s.slot { assoc := a, index := j } with role := .current } else if (s.slot { assoc := a, index := j }).epoch = e + 1 then s.setSlot { assoc := a, index := j } { s.slot { assoc := a, index := j } with role := .standby } else discardKey { assoc := a, index := j } s) s).campus = s.campus ∧
    (l.foldl (fun s j => if (s.slot { assoc := a, index := j }).epoch = e then s.setSlot { assoc := a, index := j } { s.slot { assoc := a, index := j } with role := .current } else if (s.slot { assoc := a, index := j }).epoch = e + 1 then s.setSlot { assoc := a, index := j } { s.slot { assoc := a, index := j } with role := .standby } else discardKey { assoc := a, index := j } s) s).rack = s.rack ∧
    (l.foldl (fun s j => if (s.slot { assoc := a, index := j }).epoch = e then s.setSlot { assoc := a, index := j } { s.slot { assoc := a, index := j } with role := .current } else if (s.slot { assoc := a, index := j }).epoch = e + 1 then s.setSlot { assoc := a, index := j } { s.slot { assoc := a, index := j } with role := .standby } else discardKey { assoc := a, index := j } s) s).rackRx = s.rackRx ∧
    (l.foldl (fun s j => if (s.slot { assoc := a, index := j }).epoch = e then s.setSlot { assoc := a, index := j } { s.slot { assoc := a, index := j } with role := .current } else if (s.slot { assoc := a, index := j }).epoch = e + 1 then s.setSlot { assoc := a, index := j } { s.slot { assoc := a, index := j } with role := .standby } else discardKey { assoc := a, index := j } s) s).campusRx = s.campusRx ∧
    (l.foldl (fun s j => if (s.slot { assoc := a, index := j }).epoch = e then s.setSlot { assoc := a, index := j } { s.slot { assoc := a, index := j } with role := .current } else if (s.slot { assoc := a, index := j }).epoch = e + 1 then s.setSlot { assoc := a, index := j } { s.slot { assoc := a, index := j } with role := .standby } else discardKey { assoc := a, index := j } s) s).engine = s.engine ∧
    (l.foldl (fun s j => if (s.slot { assoc := a, index := j }).epoch = e then s.setSlot { assoc := a, index := j } { s.slot { assoc := a, index := j } with role := .current } else if (s.slot { assoc := a, index := j }).epoch = e + 1 then s.setSlot { assoc := a, index := j } { s.slot { assoc := a, index := j } with role := .standby } else discardKey { assoc := a, index := j } s) s).status.heldZeroized = s.status.heldZeroized ∧
    (l.foldl (fun s j => if (s.slot { assoc := a, index := j }).epoch = e then s.setSlot { assoc := a, index := j } { s.slot { assoc := a, index := j } with role := .current } else if (s.slot { assoc := a, index := j }).epoch = e + 1 then s.setSlot { assoc := a, index := j } { s.slot { assoc := a, index := j } with role := .standby } else discardKey { assoc := a, index := j } s) s).status.replies = s.status.replies ∧
    (l.foldl (fun s j => if (s.slot { assoc := a, index := j }).epoch = e then s.setSlot { assoc := a, index := j } { s.slot { assoc := a, index := j } with role := .current } else if (s.slot { assoc := a, index := j }).epoch = e + 1 then s.setSlot { assoc := a, index := j } { s.slot { assoc := a, index := j } with role := .standby } else discardKey { assoc := a, index := j } s) s).status.offered = s.status.offered ∧
    (l.foldl (fun s j => if (s.slot { assoc := a, index := j }).epoch = e then s.setSlot { assoc := a, index := j } { s.slot { assoc := a, index := j } with role := .current } else if (s.slot { assoc := a, index := j }).epoch = e + 1 then s.setSlot { assoc := a, index := j } { s.slot { assoc := a, index := j } with role := .standby } else discardKey { assoc := a, index := j } s) s).status.lastOffered = s.status.lastOffered ∧
    (l.foldl (fun s j => if (s.slot { assoc := a, index := j }).epoch = e then s.setSlot { assoc := a, index := j } { s.slot { assoc := a, index := j } with role := .current } else if (s.slot { assoc := a, index := j }).epoch = e + 1 then s.setSlot { assoc := a, index := j } { s.slot { assoc := a, index := j } with role := .standby } else discardKey { assoc := a, index := j } s) s).freeIndex = s.freeIndex ∧
    (l.foldl (fun s j => if (s.slot { assoc := a, index := j }).epoch = e then s.setSlot { assoc := a, index := j } { s.slot { assoc := a, index := j } with role := .current } else if (s.slot { assoc := a, index := j }).epoch = e + 1 then s.setSlot { assoc := a, index := j } { s.slot { assoc := a, index := j } with role := .standby } else discardKey { assoc := a, index := j } s) s).pending = s.pending := by
  induction l generalizing s with
  | nil => simp
  | cons x l ih =>
    simp only [List.foldl_cons, ih]
    (repeat' split) <;> simp

@[simp] theorem assignRoles_frame (a : Fin 64) (e : Nat) (s : State) :
    (assignRoles a e s).device = s.device ∧ (assignRoles a e s).time = s.time ∧
    (assignRoles a e s).station = s.station ∧ (assignRoles a e s).readBuffer = s.readBuffer ∧
    (assignRoles a e s).serial = s.serial ∧ (assignRoles a e s).image = s.image ∧
    (assignRoles a e s).zeroizeLatch = s.zeroizeLatch ∧ (assignRoles a e s).assocs = s.assocs ∧
    (assignRoles a e s).segMap = s.segMap ∧ (assignRoles a e s).bus = s.bus ∧ (assignRoles a e s).buf = s.buf ∧
    (assignRoles a e s).disp = s.disp ∧ (assignRoles a e s).lanes = s.lanes ∧ (assignRoles a e s).campus = s.campus ∧
    (assignRoles a e s).rack = s.rack ∧ (assignRoles a e s).rackRx = s.rackRx ∧
    (assignRoles a e s).campusRx = s.campusRx ∧ (assignRoles a e s).engine = s.engine ∧
    (assignRoles a e s).status.heldZeroized = s.status.heldZeroized ∧
    (assignRoles a e s).status.replies = s.status.replies ∧ (assignRoles a e s).status.offered = s.status.offered ∧
    (assignRoles a e s).status.lastOffered = s.status.lastOffered ∧ (assignRoles a e s).freeIndex = s.freeIndex ∧
    (assignRoles a e s).pending = s.pending := by
  simp [assignRoles]

@[simp] theorem placeRecord_frame (a : Fin 64) (e : Nat) (h : Option Nat) (x : AssocState) (s : State) :
    (placeRecord a e h x s).device = s.device ∧ (placeRecord a e h x s).time = s.time ∧
    (placeRecord a e h x s).station = s.station ∧ (placeRecord a e h x s).readBuffer = s.readBuffer ∧
    (placeRecord a e h x s).serial = s.serial ∧ (placeRecord a e h x s).image = s.image ∧
    (placeRecord a e h x s).zeroizeLatch = s.zeroizeLatch ∧ (placeRecord a e h x s).keys = s.keys ∧
    (placeRecord a e h x s).segMap = s.segMap ∧ (placeRecord a e h x s).bus = s.bus ∧
    (placeRecord a e h x s).buf = s.buf ∧ (placeRecord a e h x s).disp = s.disp ∧
    (placeRecord a e h x s).lanes = s.lanes ∧ (placeRecord a e h x s).campus = s.campus ∧
    (placeRecord a e h x s).rack = s.rack ∧ (placeRecord a e h x s).rackRx = s.rackRx ∧
    (placeRecord a e h x s).campusRx = s.campusRx ∧ (placeRecord a e h x s).engine = s.engine ∧
    (placeRecord a e h x s).status = s.status ∧ (placeRecord a e h x s).counters = s.counters ∧
    (placeRecord a e h x s).freeIndex = s.freeIndex ∧ (placeRecord a e h x s).pending = s.pending := by
  simp [placeRecord]

@[simp] theorem reportPlacedIn_frame (a : Fin 64) (placed : Vector KeySlot 4) (l : List (Fin 4)) (s : State) :
    (reportPlaced a placed l s).device = s.device ∧ (reportPlaced a placed l s).time = s.time ∧
    (reportPlaced a placed l s).station = s.station ∧ (reportPlaced a placed l s).readBuffer = s.readBuffer ∧
    (reportPlaced a placed l s).serial = s.serial ∧ (reportPlaced a placed l s).image = s.image ∧
    (reportPlaced a placed l s).zeroizeLatch = s.zeroizeLatch ∧ (reportPlaced a placed l s).assocs = s.assocs ∧
    (reportPlaced a placed l s).keys = s.keys ∧ (reportPlaced a placed l s).segMap = s.segMap ∧
    (reportPlaced a placed l s).bus = s.bus ∧ (reportPlaced a placed l s).buf = s.buf ∧
    (reportPlaced a placed l s).disp.park = s.disp.park ∧
    (reportPlaced a placed l s).disp.parkedCells = s.disp.parkedCells ∧
    (reportPlaced a placed l s).disp.queueState = s.disp.queueState ∧ (reportPlaced a placed l s).lanes = s.lanes ∧
    (reportPlaced a placed l s).campus = s.campus ∧ (reportPlaced a placed l s).rack = s.rack ∧
    (reportPlaced a placed l s).rackRx = s.rackRx ∧ (reportPlaced a placed l s).campusRx = s.campusRx ∧
    (reportPlaced a placed l s).engine = s.engine ∧
    (reportPlaced a placed l s).status.heldZeroized = s.status.heldZeroized ∧
    (reportPlaced a placed l s).status.replies = s.status.replies ∧
    (reportPlaced a placed l s).status.offered = s.status.offered ∧
    (reportPlaced a placed l s).status.lastOffered = s.status.lastOffered ∧
    (reportPlaced a placed l s).freeIndex = s.freeIndex ∧ (reportPlaced a placed l s).pending = s.pending := by
  unfold reportPlaced
  induction l generalizing s with
  | nil => simp
  | cons x l ih =>
    simp only [List.foldl_cons, ih]
    (repeat' split) <;> simp

@[simp] theorem placeInEpoch_frame (a : Fin 64) (e v : Nat) (s : State) :
    (placeInEpoch a e v s).device = s.device ∧ (placeInEpoch a e v s).time = s.time ∧
    (placeInEpoch a e v s).station = s.station ∧ (placeInEpoch a e v s).readBuffer = s.readBuffer ∧
    (placeInEpoch a e v s).serial = s.serial ∧ (placeInEpoch a e v s).image = s.image ∧
    (placeInEpoch a e v s).zeroizeLatch = s.zeroizeLatch ∧ (placeInEpoch a e v s).segMap = s.segMap ∧
    (placeInEpoch a e v s).bus = s.bus ∧ (placeInEpoch a e v s).buf = s.buf ∧
    (placeInEpoch a e v s).disp.park = s.disp.park ∧ (placeInEpoch a e v s).disp.parkedCells = s.disp.parkedCells ∧
    (placeInEpoch a e v s).disp.queueState = s.disp.queueState ∧ (placeInEpoch a e v s).lanes = s.lanes ∧
    (placeInEpoch a e v s).campus = s.campus ∧ (placeInEpoch a e v s).rack = s.rack ∧
    (placeInEpoch a e v s).rackRx = s.rackRx ∧ (placeInEpoch a e v s).campusRx = s.campusRx ∧
    (placeInEpoch a e v s).engine = s.engine ∧ (placeInEpoch a e v s).status.heldZeroized = s.status.heldZeroized ∧
    (placeInEpoch a e v s).status.replies = s.status.replies ∧
    (placeInEpoch a e v s).status.offered = s.status.offered ∧
    (placeInEpoch a e v s).status.lastOffered = s.status.lastOffered ∧
    (placeInEpoch a e v s).freeIndex = s.freeIndex ∧ (placeInEpoch a e v s).pending = s.pending := by
  simp only [placeInEpoch]
  split <;> simp

@[simp] theorem placeBlind_frame (a : Fin 64) (f : Nat) (s : State) :
    (placeBlind a f s).device = s.device ∧ (placeBlind a f s).time = s.time ∧ (placeBlind a f s).station = s.station ∧
    (placeBlind a f s).readBuffer = s.readBuffer ∧ (placeBlind a f s).serial = s.serial ∧
    (placeBlind a f s).image = s.image ∧ (placeBlind a f s).zeroizeLatch = s.zeroizeLatch ∧
    (placeBlind a f s).segMap = s.segMap ∧ (placeBlind a f s).bus.errorCount = s.bus.errorCount ∧
    (placeBlind a f s).bus.quiet = s.bus.quiet ∧ (placeBlind a f s).bus.noAck = s.bus.noAck ∧
    (placeBlind a f s).bus.backoff = s.bus.backoff ∧ (placeBlind a f s).bus.settleTimer = s.bus.settleTimer ∧
    (placeBlind a f s).bus.idleSeen = s.bus.idleSeen ∧ (placeBlind a f s).buf.queues = s.buf.queues ∧
    (placeBlind a f s).buf.queueCells = s.buf.queueCells ∧ (placeBlind a f s).disp.park = s.disp.park ∧
    (placeBlind a f s).disp.parkedCells = s.disp.parkedCells ∧ (placeBlind a f s).campus = s.campus ∧
    (placeBlind a f s).rack = s.rack ∧ (placeBlind a f s).rackRx = s.rackRx ∧
    (placeBlind a f s).campusRx = s.campusRx ∧ (placeBlind a f s).engine = s.engine ∧
    (placeBlind a f s).status.heldZeroized = s.status.heldZeroized ∧
    (placeBlind a f s).status.replies = s.status.replies ∧ (placeBlind a f s).status.offered = s.status.offered ∧
    (placeBlind a f s).status.lastOffered = s.status.lastOffered ∧ (placeBlind a f s).freeIndex = s.freeIndex ∧
    (placeBlind a f s).pending = s.pending := by
  simp [placeBlind]

@[simp] theorem place_frame (a : Fin 64) (s : State) :
    (place a s).device = s.device ∧ (place a s).time = s.time ∧ (place a s).station = s.station ∧
    (place a s).readBuffer = s.readBuffer ∧ (place a s).serial = s.serial ∧ (place a s).image = s.image ∧
    (place a s).zeroizeLatch = s.zeroizeLatch ∧ (place a s).segMap = s.segMap ∧
    (place a s).bus.errorCount = s.bus.errorCount ∧ (place a s).bus.quiet = s.bus.quiet ∧
    (place a s).bus.noAck = s.bus.noAck ∧ (place a s).bus.backoff = s.bus.backoff ∧
    (place a s).bus.settleTimer = s.bus.settleTimer ∧ (place a s).bus.idleSeen = s.bus.idleSeen ∧
    (place a s).buf.queues = s.buf.queues ∧ (place a s).buf.queueCells = s.buf.queueCells ∧
    (place a s).disp.park = s.disp.park ∧ (place a s).disp.parkedCells = s.disp.parkedCells ∧
    (place a s).campus = s.campus ∧ (place a s).rack = s.rack ∧ (place a s).rackRx = s.rackRx ∧
    (place a s).campusRx = s.campusRx ∧ (place a s).engine = s.engine ∧
    (place a s).status.heldZeroized = s.status.heldZeroized ∧ (place a s).status.replies = s.status.replies ∧
    (place a s).status.offered = s.status.offered ∧ (place a s).status.lastOffered = s.status.lastOffered ∧
    (place a s).freeIndex = s.freeIndex ∧ (place a s).pending = s.pending := by
  unfold place
  (repeat' split) <;> simp

@[simp] theorem writeEmptySlot_frame (a : Fin 64) (r : Role) (i : Install) (s : State) :
    (writeEmptySlot a r i s).device = s.device ∧ (writeEmptySlot a r i s).time = s.time ∧
    (writeEmptySlot a r i s).station = s.station ∧ (writeEmptySlot a r i s).readBuffer = s.readBuffer ∧
    (writeEmptySlot a r i s).serial = s.serial ∧ (writeEmptySlot a r i s).image = s.image ∧
    (writeEmptySlot a r i s).zeroizeLatch = s.zeroizeLatch ∧ (writeEmptySlot a r i s).assocs = s.assocs ∧
    (writeEmptySlot a r i s).segMap = s.segMap ∧ (writeEmptySlot a r i s).bus = s.bus ∧
    (writeEmptySlot a r i s).buf = s.buf ∧ (writeEmptySlot a r i s).disp = s.disp ∧
    (writeEmptySlot a r i s).lanes = s.lanes ∧ (writeEmptySlot a r i s).campus = s.campus ∧
    (writeEmptySlot a r i s).rack = s.rack ∧ (writeEmptySlot a r i s).rackRx = s.rackRx ∧
    (writeEmptySlot a r i s).campusRx = s.campusRx ∧ (writeEmptySlot a r i s).engine = s.engine ∧
    (writeEmptySlot a r i s).status = s.status ∧ (writeEmptySlot a r i s).counters = s.counters ∧
    (writeEmptySlot a r i s).freeIndex = s.freeIndex ∧ (writeEmptySlot a r i s).pending = s.pending := by
  unfold writeEmptySlot
  (repeat' split) <;> simp

@[simp] theorem installCurrent_frame (a : Fin 64) (i : Install) (s : State) :
    (installCurrent a i s).device = s.device ∧ (installCurrent a i s).time = s.time ∧
    (installCurrent a i s).station = s.station ∧ (installCurrent a i s).readBuffer = s.readBuffer ∧
    (installCurrent a i s).serial = s.serial ∧ (installCurrent a i s).image = s.image ∧
    (installCurrent a i s).zeroizeLatch = s.zeroizeLatch ∧ (installCurrent a i s).segMap = s.segMap ∧
    (installCurrent a i s).bus = s.bus ∧ (installCurrent a i s).buf = s.buf ∧
    (installCurrent a i s).disp.park = s.disp.park ∧ (installCurrent a i s).disp.parkedCells = s.disp.parkedCells ∧
    (installCurrent a i s).disp.queueState = s.disp.queueState ∧ (installCurrent a i s).lanes = s.lanes ∧
    (installCurrent a i s).campus = s.campus ∧ (installCurrent a i s).rack = s.rack ∧
    (installCurrent a i s).rackRx = s.rackRx ∧ (installCurrent a i s).campusRx = s.campusRx ∧
    (installCurrent a i s).engine = s.engine ∧ (installCurrent a i s).status.heldZeroized = s.status.heldZeroized ∧
    (installCurrent a i s).status.replies = s.status.replies ∧
    (installCurrent a i s).status.offered = s.status.offered ∧
    (installCurrent a i s).status.lastOffered = s.status.lastOffered ∧
    (installCurrent a i s).freeIndex = s.freeIndex ∧ (installCurrent a i s).pending = s.pending := by
  simp [installCurrent]

@[simp] theorem installStandby_frame (a : Fin 64) (i : Install) (s : State) :
    (installStandby a i s).device = s.device ∧ (installStandby a i s).time = s.time ∧
    (installStandby a i s).station = s.station ∧ (installStandby a i s).readBuffer = s.readBuffer ∧
    (installStandby a i s).serial = s.serial ∧ (installStandby a i s).image = s.image ∧
    (installStandby a i s).zeroizeLatch = s.zeroizeLatch ∧ (installStandby a i s).segMap = s.segMap ∧
    (installStandby a i s).bus.errorCount = s.bus.errorCount ∧ (installStandby a i s).bus.quiet = s.bus.quiet ∧
    (installStandby a i s).bus.noAck = s.bus.noAck ∧ (installStandby a i s).bus.backoff = s.bus.backoff ∧
    (installStandby a i s).bus.settleTimer = s.bus.settleTimer ∧
    (installStandby a i s).bus.idleSeen = s.bus.idleSeen ∧ (installStandby a i s).bus.onBus = s.bus.onBus ∧
    (installStandby a i s).buf = s.buf ∧ (installStandby a i s).disp = s.disp ∧
    (installStandby a i s).lanes = s.lanes ∧ (installStandby a i s).campus = s.campus ∧
    (installStandby a i s).rack = s.rack ∧ (installStandby a i s).rackRx = s.rackRx ∧
    (installStandby a i s).campusRx = s.campusRx ∧ (installStandby a i s).engine = s.engine ∧
    (installStandby a i s).status.heldZeroized = s.status.heldZeroized ∧
    (installStandby a i s).status.replies = s.status.replies ∧
    (installStandby a i s).status.offered = s.status.offered ∧
    (installStandby a i s).status.lastOffered = s.status.lastOffered ∧
    (installStandby a i s).freeIndex = s.freeIndex ∧ (installStandby a i s).pending = s.pending := by
  unfold installStandby
  split <;> simp

@[simp] theorem refuseInstall_frame (x : CommandResult) (s : State) :
    ((refuseInstall x s).state).device = s.device ∧ ((refuseInstall x s).state).time = s.time ∧
    ((refuseInstall x s).state).station = s.station ∧ ((refuseInstall x s).state).readBuffer = s.readBuffer ∧
    ((refuseInstall x s).state).serial = s.serial ∧ ((refuseInstall x s).state).image = s.image ∧
    ((refuseInstall x s).state).zeroizeLatch = s.zeroizeLatch ∧ ((refuseInstall x s).state).assocs = s.assocs ∧
    ((refuseInstall x s).state).keys = s.keys ∧ ((refuseInstall x s).state).segMap = s.segMap ∧
    ((refuseInstall x s).state).bus = s.bus ∧ ((refuseInstall x s).state).buf = s.buf ∧
    ((refuseInstall x s).state).disp = s.disp ∧ ((refuseInstall x s).state).lanes = s.lanes ∧
    ((refuseInstall x s).state).campus = s.campus ∧ ((refuseInstall x s).state).rack = s.rack ∧
    ((refuseInstall x s).state).rackRx = s.rackRx ∧ ((refuseInstall x s).state).campusRx = s.campusRx ∧
    ((refuseInstall x s).state).engine = s.engine ∧ ((refuseInstall x s).state).status = s.status ∧
    ((refuseInstall x s).state).counters = s.counters ∧ ((refuseInstall x s).state).freeIndex = s.freeIndex ∧
    ((refuseInstall x s).state).pending = s.pending := by
  simp [refuseInstall]

@[simp] theorem installSettling_frame (a : Fin 64) (i : Install) (s : State) :
    ((installSettling a i s).state).device = s.device ∧ ((installSettling a i s).state).time = s.time ∧
    ((installSettling a i s).state).station = s.station ∧ ((installSettling a i s).state).readBuffer = s.readBuffer ∧
    ((installSettling a i s).state).serial = s.serial ∧ ((installSettling a i s).state).image = s.image ∧
    ((installSettling a i s).state).zeroizeLatch = s.zeroizeLatch ∧
    ((installSettling a i s).state).assocs = s.assocs ∧ ((installSettling a i s).state).segMap = s.segMap ∧
    ((installSettling a i s).state).bus = s.bus ∧ ((installSettling a i s).state).buf = s.buf ∧
    ((installSettling a i s).state).disp = s.disp ∧ ((installSettling a i s).state).lanes = s.lanes ∧
    ((installSettling a i s).state).campus = s.campus ∧ ((installSettling a i s).state).rack = s.rack ∧
    ((installSettling a i s).state).rackRx = s.rackRx ∧ ((installSettling a i s).state).campusRx = s.campusRx ∧
    ((installSettling a i s).state).engine = s.engine ∧
    ((installSettling a i s).state).status.heldZeroized = s.status.heldZeroized ∧
    ((installSettling a i s).state).status.replies = s.status.replies ∧
    ((installSettling a i s).state).status.offered = s.status.offered ∧
    ((installSettling a i s).state).status.lastOffered = s.status.lastOffered ∧
    ((installSettling a i s).state).freeIndex = s.freeIndex ∧ ((installSettling a i s).state).pending = s.pending := by
  unfold installSettling
  (repeat' split) <;> simp

@[simp] theorem installRunning_frame (a : Fin 64) (i : Install) (s : State) :
    ((installRunning a i s).state).device = s.device ∧ ((installRunning a i s).state).time = s.time ∧
    ((installRunning a i s).state).station = s.station ∧ ((installRunning a i s).state).readBuffer = s.readBuffer ∧
    ((installRunning a i s).state).serial = s.serial ∧ ((installRunning a i s).state).image = s.image ∧
    ((installRunning a i s).state).zeroizeLatch = s.zeroizeLatch ∧ ((installRunning a i s).state).segMap = s.segMap ∧
    ((installRunning a i s).state).bus.errorCount = s.bus.errorCount ∧
    ((installRunning a i s).state).bus.quiet = s.bus.quiet ∧ ((installRunning a i s).state).bus.noAck = s.bus.noAck ∧
    ((installRunning a i s).state).bus.backoff = s.bus.backoff ∧
    ((installRunning a i s).state).bus.settleTimer = s.bus.settleTimer ∧
    ((installRunning a i s).state).bus.idleSeen = s.bus.idleSeen ∧
    ((installRunning a i s).state).bus.onBus = s.bus.onBus ∧ ((installRunning a i s).state).buf = s.buf ∧
    ((installRunning a i s).state).disp.park = s.disp.park ∧
    ((installRunning a i s).state).disp.parkedCells = s.disp.parkedCells ∧
    ((installRunning a i s).state).disp.queueState = s.disp.queueState ∧
    ((installRunning a i s).state).lanes = s.lanes ∧ ((installRunning a i s).state).campus = s.campus ∧
    ((installRunning a i s).state).rack = s.rack ∧ ((installRunning a i s).state).rackRx = s.rackRx ∧
    ((installRunning a i s).state).campusRx = s.campusRx ∧ ((installRunning a i s).state).engine = s.engine ∧
    ((installRunning a i s).state).status.heldZeroized = s.status.heldZeroized ∧
    ((installRunning a i s).state).status.replies = s.status.replies ∧
    ((installRunning a i s).state).status.offered = s.status.offered ∧
    ((installRunning a i s).state).status.lastOffered = s.status.lastOffered ∧
    ((installRunning a i s).state).freeIndex = s.freeIndex ∧ ((installRunning a i s).state).pending = s.pending := by
  simp only [installRunning]
  (repeat' split) <;> simp

@[simp] theorem installDormant_frame (a : Fin 64) (i : Install) (s : State) :
    ((installDormant a i s).state).device = s.device ∧ ((installDormant a i s).state).time = s.time ∧
    ((installDormant a i s).state).station = s.station ∧ ((installDormant a i s).state).readBuffer = s.readBuffer ∧
    ((installDormant a i s).state).serial = s.serial ∧ ((installDormant a i s).state).image = s.image ∧
    ((installDormant a i s).state).zeroizeLatch = s.zeroizeLatch ∧ ((installDormant a i s).state).segMap = s.segMap ∧
    ((installDormant a i s).state).bus.errorCount = s.bus.errorCount ∧
    ((installDormant a i s).state).bus.quiet = s.bus.quiet ∧ ((installDormant a i s).state).bus.noAck = s.bus.noAck ∧
    ((installDormant a i s).state).bus.backoff = s.bus.backoff ∧
    ((installDormant a i s).state).bus.settleTimer = s.bus.settleTimer ∧
    ((installDormant a i s).state).bus.idleSeen = s.bus.idleSeen ∧
    ((installDormant a i s).state).buf.queues = s.buf.queues ∧
    ((installDormant a i s).state).buf.queueCells = s.buf.queueCells ∧
    ((installDormant a i s).state).disp.park = s.disp.park ∧
    ((installDormant a i s).state).disp.parkedCells = s.disp.parkedCells ∧
    ((installDormant a i s).state).campus = s.campus ∧ ((installDormant a i s).state).rack = s.rack ∧
    ((installDormant a i s).state).rackRx = s.rackRx ∧ ((installDormant a i s).state).campusRx = s.campusRx ∧
    ((installDormant a i s).state).engine = s.engine ∧
    ((installDormant a i s).state).status.heldZeroized = s.status.heldZeroized ∧
    ((installDormant a i s).state).status.replies = s.status.replies ∧
    ((installDormant a i s).state).status.offered = s.status.offered ∧
    ((installDormant a i s).state).status.lastOffered = s.status.lastOffered ∧
    ((installDormant a i s).state).freeIndex = s.freeIndex ∧ ((installDormant a i s).state).pending = s.pending := by
  simp only [installDormant]
  (repeat' split) <;> simp

@[simp] theorem decideInstall_frame (a : Fin 64) (i : Install) (s : State) :
    ((decideInstall a i s).state).device = s.device ∧ ((decideInstall a i s).state).time = s.time ∧
    ((decideInstall a i s).state).station = s.station ∧ ((decideInstall a i s).state).readBuffer = s.readBuffer ∧
    ((decideInstall a i s).state).serial = s.serial ∧ ((decideInstall a i s).state).image = s.image ∧
    ((decideInstall a i s).state).zeroizeLatch = s.zeroizeLatch ∧ ((decideInstall a i s).state).segMap = s.segMap ∧
    ((decideInstall a i s).state).bus.errorCount = s.bus.errorCount ∧
    ((decideInstall a i s).state).bus.quiet = s.bus.quiet ∧ ((decideInstall a i s).state).bus.noAck = s.bus.noAck ∧
    ((decideInstall a i s).state).bus.backoff = s.bus.backoff ∧
    ((decideInstall a i s).state).bus.settleTimer = s.bus.settleTimer ∧
    ((decideInstall a i s).state).bus.idleSeen = s.bus.idleSeen ∧
    ((decideInstall a i s).state).buf.queues = s.buf.queues ∧
    ((decideInstall a i s).state).buf.queueCells = s.buf.queueCells ∧
    ((decideInstall a i s).state).disp.park = s.disp.park ∧
    ((decideInstall a i s).state).disp.parkedCells = s.disp.parkedCells ∧
    ((decideInstall a i s).state).campus = s.campus ∧ ((decideInstall a i s).state).rack = s.rack ∧
    ((decideInstall a i s).state).rackRx = s.rackRx ∧ ((decideInstall a i s).state).campusRx = s.campusRx ∧
    ((decideInstall a i s).state).engine = s.engine ∧
    ((decideInstall a i s).state).status.heldZeroized = s.status.heldZeroized ∧
    ((decideInstall a i s).state).status.replies = s.status.replies ∧
    ((decideInstall a i s).state).status.offered = s.status.offered ∧
    ((decideInstall a i s).state).status.lastOffered = s.status.lastOffered ∧
    ((decideInstall a i s).state).freeIndex = s.freeIndex ∧ ((decideInstall a i s).state).pending = s.pending := by
  unfold decideInstall
  (repeat' split) <;> simp

@[simp] theorem discardStale_frame (a : Fin 64) (s : State) :
    (discardStale a s).device = s.device ∧ (discardStale a s).time = s.time ∧ (discardStale a s).station = s.station ∧
    (discardStale a s).readBuffer = s.readBuffer ∧ (discardStale a s).serial = s.serial ∧
    (discardStale a s).image = s.image ∧ (discardStale a s).zeroizeLatch = s.zeroizeLatch ∧
    (discardStale a s).keys = s.keys ∧ (discardStale a s).segMap = s.segMap ∧ (discardStale a s).bus = s.bus ∧
    (discardStale a s).buf = s.buf ∧ (discardStale a s).disp.park = s.disp.park ∧
    (discardStale a s).disp.parkedCells = s.disp.parkedCells ∧
    (discardStale a s).disp.queueState = s.disp.queueState ∧ (discardStale a s).lanes = s.lanes ∧
    (discardStale a s).campus = s.campus ∧ (discardStale a s).rack = s.rack ∧ (discardStale a s).rackRx = s.rackRx ∧
    (discardStale a s).campusRx = s.campusRx ∧ (discardStale a s).engine = s.engine ∧
    (discardStale a s).status.heldZeroized = s.status.heldZeroized ∧
    (discardStale a s).status.replies = s.status.replies ∧ (discardStale a s).status.offered = s.status.offered ∧
    (discardStale a s).status.lastOffered = s.status.lastOffered ∧ (discardStale a s).freeIndex = s.freeIndex ∧
    (discardStale a s).pending = s.pending := by
  unfold discardStale
  (repeat' split) <;> simp

@[simp] theorem rangeWalk_frame (n : Nat) (a : Fin 64) (s : State) :
    (rangeWalk n a s).device = s.device ∧ (rangeWalk n a s).time = s.time ∧ (rangeWalk n a s).station = s.station ∧
    (rangeWalk n a s).readBuffer = s.readBuffer ∧ (rangeWalk n a s).serial = s.serial ∧
    (rangeWalk n a s).image = s.image ∧ (rangeWalk n a s).zeroizeLatch = s.zeroizeLatch ∧
    (rangeWalk n a s).keys = s.keys ∧ (rangeWalk n a s).segMap = s.segMap ∧ (rangeWalk n a s).bus = s.bus ∧
    (rangeWalk n a s).buf = s.buf ∧ (rangeWalk n a s).disp.park = s.disp.park ∧
    (rangeWalk n a s).disp.parkedCells = s.disp.parkedCells ∧ (rangeWalk n a s).disp.queueState = s.disp.queueState ∧
    (rangeWalk n a s).lanes = s.lanes ∧ (rangeWalk n a s).campus = s.campus ∧ (rangeWalk n a s).rack = s.rack ∧
    (rangeWalk n a s).rackRx = s.rackRx ∧ (rangeWalk n a s).campusRx = s.campusRx ∧
    (rangeWalk n a s).engine = s.engine ∧ (rangeWalk n a s).status.heldZeroized = s.status.heldZeroized ∧
    (rangeWalk n a s).status.replies = s.status.replies ∧ (rangeWalk n a s).status.offered = s.status.offered ∧
    (rangeWalk n a s).status.lastOffered = s.status.lastOffered ∧ (rangeWalk n a s).freeIndex = s.freeIndex ∧
    (rangeWalk n a s).pending = s.pending := by
  induction n generalizing s with
  | zero => simp [rangeWalk]
  | succ n ih =>
    unfold rangeWalk
    split <;> simp [ih]

@[simp] theorem ladderTest_frame (a : Fin 64) (s : State) :
    (ladderTest a s).device = s.device ∧ (ladderTest a s).time = s.time ∧ (ladderTest a s).station = s.station ∧
    (ladderTest a s).readBuffer = s.readBuffer ∧ (ladderTest a s).serial = s.serial ∧
    (ladderTest a s).image = s.image ∧ (ladderTest a s).zeroizeLatch = s.zeroizeLatch ∧
    (ladderTest a s).keys = s.keys ∧ (ladderTest a s).segMap = s.segMap ∧ (ladderTest a s).bus = s.bus ∧
    (ladderTest a s).buf = s.buf ∧ (ladderTest a s).disp = s.disp ∧ (ladderTest a s).lanes = s.lanes ∧
    (ladderTest a s).campus = s.campus ∧ (ladderTest a s).rack = s.rack ∧ (ladderTest a s).rackRx = s.rackRx ∧
    (ladderTest a s).campusRx = s.campusRx ∧ (ladderTest a s).engine = s.engine ∧ (ladderTest a s).status = s.status ∧
    (ladderTest a s).counters = s.counters ∧ (ladderTest a s).freeIndex = s.freeIndex ∧
    (ladderTest a s).pending = s.pending := by
  unfold ladderTest
  (repeat' split) <;> simp

@[simp] theorem takeCounter_frame (a : Fin 64) (s : State) :
    (takeCounter a s).device = s.device ∧ (takeCounter a s).time = s.time ∧ (takeCounter a s).station = s.station ∧
    (takeCounter a s).readBuffer = s.readBuffer ∧ (takeCounter a s).serial = s.serial ∧
    (takeCounter a s).image = s.image ∧ (takeCounter a s).zeroizeLatch = s.zeroizeLatch ∧
    (takeCounter a s).keys = s.keys ∧ (takeCounter a s).segMap = s.segMap ∧ (takeCounter a s).bus = s.bus ∧
    (takeCounter a s).buf = s.buf ∧ (takeCounter a s).disp.park = s.disp.park ∧
    (takeCounter a s).disp.parkedCells = s.disp.parkedCells ∧ (takeCounter a s).disp.queueState = s.disp.queueState ∧
    (takeCounter a s).lanes = s.lanes ∧ (takeCounter a s).campus = s.campus ∧ (takeCounter a s).rack = s.rack ∧
    (takeCounter a s).rackRx = s.rackRx ∧ (takeCounter a s).campusRx = s.campusRx ∧
    (takeCounter a s).engine = s.engine ∧ (takeCounter a s).status = s.status ∧
    (takeCounter a s).counters = s.counters ∧ (takeCounter a s).freeIndex = s.freeIndex ∧
    (takeCounter a s).pending = s.pending := by
  unfold takeCounter
  split
  · dsimp only
    split <;> simp
  · simp

@[simp] theorem prefetchTest_frame (a : Fin 64) (s : State) :
    (prefetchTest a s).device = s.device ∧ (prefetchTest a s).time = s.time ∧ (prefetchTest a s).station = s.station ∧
    (prefetchTest a s).readBuffer = s.readBuffer ∧ (prefetchTest a s).serial = s.serial ∧
    (prefetchTest a s).image = s.image ∧ (prefetchTest a s).zeroizeLatch = s.zeroizeLatch ∧
    (prefetchTest a s).segMap = s.segMap ∧ (prefetchTest a s).bus.errorCount = s.bus.errorCount ∧
    (prefetchTest a s).bus.quiet = s.bus.quiet ∧ (prefetchTest a s).bus.noAck = s.bus.noAck ∧
    (prefetchTest a s).bus.backoff = s.bus.backoff ∧ (prefetchTest a s).bus.settleTimer = s.bus.settleTimer ∧
    (prefetchTest a s).bus.idleSeen = s.bus.idleSeen ∧ (prefetchTest a s).buf.queues = s.buf.queues ∧
    (prefetchTest a s).buf.queueCells = s.buf.queueCells ∧ (prefetchTest a s).disp.park = s.disp.park ∧
    (prefetchTest a s).disp.parkedCells = s.disp.parkedCells ∧ (prefetchTest a s).campus = s.campus ∧
    (prefetchTest a s).rack = s.rack ∧ (prefetchTest a s).rackRx = s.rackRx ∧
    (prefetchTest a s).campusRx = s.campusRx ∧ (prefetchTest a s).engine = s.engine ∧
    (prefetchTest a s).status.heldZeroized = s.status.heldZeroized ∧
    (prefetchTest a s).status.replies = s.status.replies ∧ (prefetchTest a s).status.offered = s.status.offered ∧
    (prefetchTest a s).status.lastOffered = s.status.lastOffered ∧ (prefetchTest a s).freeIndex = s.freeIndex ∧
    (prefetchTest a s).pending = s.pending := by
  unfold prefetchTest
  (repeat' split) <;> simp

@[simp] theorem raiseFront_frame (a : Fin 64) (v : Nat) (s : State) :
    (raiseFront a v s).device = s.device ∧ (raiseFront a v s).time = s.time ∧ (raiseFront a v s).station = s.station ∧
    (raiseFront a v s).readBuffer = s.readBuffer ∧ (raiseFront a v s).serial = s.serial ∧
    (raiseFront a v s).image = s.image ∧ (raiseFront a v s).zeroizeLatch = s.zeroizeLatch ∧
    (raiseFront a v s).keys = s.keys ∧ (raiseFront a v s).segMap = s.segMap ∧ (raiseFront a v s).bus = s.bus ∧
    (raiseFront a v s).buf = s.buf ∧ (raiseFront a v s).disp = s.disp ∧ (raiseFront a v s).lanes = s.lanes ∧
    (raiseFront a v s).campus = s.campus ∧ (raiseFront a v s).rack = s.rack ∧ (raiseFront a v s).rackRx = s.rackRx ∧
    (raiseFront a v s).campusRx = s.campusRx ∧ (raiseFront a v s).engine = s.engine ∧
    (raiseFront a v s).status = s.status ∧ (raiseFront a v s).counters = s.counters ∧
    (raiseFront a v s).freeIndex = s.freeIndex ∧ (raiseFront a v s).pending = s.pending := by
  simp [raiseFront]

@[simp] theorem queueRange_frame (a : Fin 64) (p q : Nat) (s : State) :
    (queueRange a p q s).device = s.device ∧ (queueRange a p q s).time = s.time ∧
    (queueRange a p q s).station = s.station ∧ (queueRange a p q s).readBuffer = s.readBuffer ∧
    (queueRange a p q s).serial = s.serial ∧ (queueRange a p q s).image = s.image ∧
    (queueRange a p q s).zeroizeLatch = s.zeroizeLatch ∧ (queueRange a p q s).keys = s.keys ∧
    (queueRange a p q s).segMap = s.segMap ∧ (queueRange a p q s).bus = s.bus ∧ (queueRange a p q s).buf = s.buf ∧
    (queueRange a p q s).disp = s.disp ∧ (queueRange a p q s).lanes = s.lanes ∧
    (queueRange a p q s).campus = s.campus ∧ (queueRange a p q s).rack = s.rack ∧
    (queueRange a p q s).rackRx = s.rackRx ∧ (queueRange a p q s).campusRx = s.campusRx ∧
    (queueRange a p q s).engine = s.engine ∧ (queueRange a p q s).status = s.status ∧
    (queueRange a p q s).counters = s.counters ∧ (queueRange a p q s).freeIndex = s.freeIndex ∧
    (queueRange a p q s).pending = s.pending := by
  simp [queueRange]

@[simp] theorem addRange_frame (a : Fin 64) (p q : Nat) (s : State) :
    (addRange a p q s).device = s.device ∧ (addRange a p q s).time = s.time ∧ (addRange a p q s).station = s.station ∧
    (addRange a p q s).readBuffer = s.readBuffer ∧ (addRange a p q s).serial = s.serial ∧
    (addRange a p q s).image = s.image ∧ (addRange a p q s).zeroizeLatch = s.zeroizeLatch ∧
    (addRange a p q s).keys = s.keys ∧ (addRange a p q s).segMap = s.segMap ∧ (addRange a p q s).bus = s.bus ∧
    (addRange a p q s).buf = s.buf ∧ (addRange a p q s).disp.park = s.disp.park ∧
    (addRange a p q s).disp.parkedCells = s.disp.parkedCells ∧
    (addRange a p q s).disp.queueState = s.disp.queueState ∧ (addRange a p q s).lanes = s.lanes ∧
    (addRange a p q s).campus = s.campus ∧ (addRange a p q s).rack = s.rack ∧ (addRange a p q s).rackRx = s.rackRx ∧
    (addRange a p q s).campusRx = s.campusRx ∧ (addRange a p q s).engine = s.engine ∧
    (addRange a p q s).status.heldZeroized = s.status.heldZeroized ∧
    (addRange a p q s).status.replies = s.status.replies ∧ (addRange a p q s).status.offered = s.status.offered ∧
    (addRange a p q s).status.lastOffered = s.status.lastOffered ∧ (addRange a p q s).freeIndex = s.freeIndex ∧
    (addRange a p q s).pending = s.pending := by
  unfold addRange
  (repeat' split) <;> simp

@[simp] theorem rekeyPointTest_frame (a : Fin 64) (q : Nat) (s : State) :
    (rekeyPointTest a q s).device = s.device ∧ (rekeyPointTest a q s).time = s.time ∧
    (rekeyPointTest a q s).station = s.station ∧ (rekeyPointTest a q s).readBuffer = s.readBuffer ∧
    (rekeyPointTest a q s).serial = s.serial ∧ (rekeyPointTest a q s).image = s.image ∧
    (rekeyPointTest a q s).zeroizeLatch = s.zeroizeLatch ∧ (rekeyPointTest a q s).segMap = s.segMap ∧
    (rekeyPointTest a q s).bus.errorCount = s.bus.errorCount ∧ (rekeyPointTest a q s).bus.quiet = s.bus.quiet ∧
    (rekeyPointTest a q s).bus.noAck = s.bus.noAck ∧ (rekeyPointTest a q s).bus.backoff = s.bus.backoff ∧
    (rekeyPointTest a q s).bus.settleTimer = s.bus.settleTimer ∧
    (rekeyPointTest a q s).bus.idleSeen = s.bus.idleSeen ∧ (rekeyPointTest a q s).buf.queues = s.buf.queues ∧
    (rekeyPointTest a q s).buf.queueCells = s.buf.queueCells ∧ (rekeyPointTest a q s).disp.park = s.disp.park ∧
    (rekeyPointTest a q s).disp.parkedCells = s.disp.parkedCells ∧ (rekeyPointTest a q s).campus = s.campus ∧
    (rekeyPointTest a q s).rack = s.rack ∧ (rekeyPointTest a q s).rackRx = s.rackRx ∧
    (rekeyPointTest a q s).campusRx = s.campusRx ∧ (rekeyPointTest a q s).engine = s.engine ∧
    (rekeyPointTest a q s).status.heldZeroized = s.status.heldZeroized ∧
    (rekeyPointTest a q s).status.replies = s.status.replies ∧
    (rekeyPointTest a q s).status.offered = s.status.offered ∧
    (rekeyPointTest a q s).status.lastOffered = s.status.lastOffered ∧
    (rekeyPointTest a q s).freeIndex = s.freeIndex ∧ (rekeyPointTest a q s).pending = s.pending := by
  unfold rekeyPointTest
  (repeat' split) <;> simp

@[simp] theorem winClaim_frame (a : Fin 64) (p q : Nat) (s : State) :
    (winClaim a p q s).device = s.device ∧ (winClaim a p q s).time = s.time ∧ (winClaim a p q s).station = s.station ∧
    (winClaim a p q s).readBuffer = s.readBuffer ∧ (winClaim a p q s).serial = s.serial ∧
    (winClaim a p q s).image = s.image ∧ (winClaim a p q s).zeroizeLatch = s.zeroizeLatch ∧
    (winClaim a p q s).segMap = s.segMap ∧ (winClaim a p q s).bus.errorCount = s.bus.errorCount ∧
    (winClaim a p q s).bus.quiet = s.bus.quiet ∧ (winClaim a p q s).bus.noAck = s.bus.noAck ∧
    (winClaim a p q s).bus.backoff = s.bus.backoff ∧ (winClaim a p q s).bus.settleTimer = s.bus.settleTimer ∧
    (winClaim a p q s).bus.idleSeen = s.bus.idleSeen ∧ (winClaim a p q s).buf.queues = s.buf.queues ∧
    (winClaim a p q s).buf.queueCells = s.buf.queueCells ∧ (winClaim a p q s).disp.park = s.disp.park ∧
    (winClaim a p q s).disp.parkedCells = s.disp.parkedCells ∧ (winClaim a p q s).campus = s.campus ∧
    (winClaim a p q s).rack = s.rack ∧ (winClaim a p q s).rackRx = s.rackRx ∧
    (winClaim a p q s).campusRx = s.campusRx ∧ (winClaim a p q s).engine = s.engine ∧
    (winClaim a p q s).status.heldZeroized = s.status.heldZeroized ∧
    (winClaim a p q s).status.replies = s.status.replies ∧ (winClaim a p q s).status.offered = s.status.offered ∧
    (winClaim a p q s).status.lastOffered = s.status.lastOffered ∧ (winClaim a p q s).freeIndex = s.freeIndex ∧
    (winClaim a p q s).pending = s.pending := by
  simp [winClaim]

@[simp] theorem countLate_frame (a : Fin 64) (e : Nat) (s : State) :
    (countLate a e s).device = s.device ∧ (countLate a e s).time = s.time ∧ (countLate a e s).station = s.station ∧
    (countLate a e s).readBuffer = s.readBuffer ∧ (countLate a e s).serial = s.serial ∧
    (countLate a e s).image = s.image ∧ (countLate a e s).zeroizeLatch = s.zeroizeLatch ∧
    (countLate a e s).assocs = s.assocs ∧ (countLate a e s).keys = s.keys ∧ (countLate a e s).segMap = s.segMap ∧
    (countLate a e s).bus = s.bus ∧ (countLate a e s).buf = s.buf ∧ (countLate a e s).disp = s.disp ∧
    (countLate a e s).lanes = s.lanes ∧ (countLate a e s).campus = s.campus ∧ (countLate a e s).rack = s.rack ∧
    (countLate a e s).rackRx = s.rackRx ∧ (countLate a e s).campusRx = s.campusRx ∧
    (countLate a e s).engine = s.engine ∧ (countLate a e s).status = s.status ∧
    (countLate a e s).freeIndex = s.freeIndex ∧ (countLate a e s).pending = s.pending := by
  unfold countLate
  (repeat' split) <;> simp

@[simp] theorem ownClaim_frame (a : Fin 64) (p q e : Nat) (w : Bool) (s : State) :
    (ownClaim a p q e w s).device = s.device ∧ (ownClaim a p q e w s).time = s.time ∧
    (ownClaim a p q e w s).station = s.station ∧ (ownClaim a p q e w s).readBuffer = s.readBuffer ∧
    (ownClaim a p q e w s).serial = s.serial ∧ (ownClaim a p q e w s).image = s.image ∧
    (ownClaim a p q e w s).zeroizeLatch = s.zeroizeLatch ∧ (ownClaim a p q e w s).segMap = s.segMap ∧
    (ownClaim a p q e w s).bus.errorCount = s.bus.errorCount ∧ (ownClaim a p q e w s).bus.quiet = s.bus.quiet ∧
    (ownClaim a p q e w s).bus.noAck = s.bus.noAck ∧ (ownClaim a p q e w s).bus.backoff = s.bus.backoff ∧
    (ownClaim a p q e w s).bus.settleTimer = s.bus.settleTimer ∧
    (ownClaim a p q e w s).bus.idleSeen = s.bus.idleSeen ∧ (ownClaim a p q e w s).buf.queues = s.buf.queues ∧
    (ownClaim a p q e w s).buf.queueCells = s.buf.queueCells ∧ (ownClaim a p q e w s).disp.park = s.disp.park ∧
    (ownClaim a p q e w s).disp.parkedCells = s.disp.parkedCells ∧ (ownClaim a p q e w s).campus = s.campus ∧
    (ownClaim a p q e w s).rack = s.rack ∧ (ownClaim a p q e w s).rackRx = s.rackRx ∧
    (ownClaim a p q e w s).campusRx = s.campusRx ∧ (ownClaim a p q e w s).engine = s.engine ∧
    (ownClaim a p q e w s).status.heldZeroized = s.status.heldZeroized ∧
    (ownClaim a p q e w s).status.replies = s.status.replies ∧
    (ownClaim a p q e w s).status.offered = s.status.offered ∧
    (ownClaim a p q e w s).status.lastOffered = s.status.lastOffered ∧
    (ownClaim a p q e w s).freeIndex = s.freeIndex ∧ (ownClaim a p q e w s).pending = s.pending := by
  unfold ownClaim
  (repeat' split) <;> simp

@[simp] theorem keepFirstPiece_frame (a : Fin 64) (p : Nat × Nat) (s : State) :
    (keepFirstPiece a p s).device = s.device ∧ (keepFirstPiece a p s).time = s.time ∧
    (keepFirstPiece a p s).station = s.station ∧ (keepFirstPiece a p s).readBuffer = s.readBuffer ∧
    (keepFirstPiece a p s).serial = s.serial ∧ (keepFirstPiece a p s).image = s.image ∧
    (keepFirstPiece a p s).zeroizeLatch = s.zeroizeLatch ∧ (keepFirstPiece a p s).keys = s.keys ∧
    (keepFirstPiece a p s).segMap = s.segMap ∧ (keepFirstPiece a p s).bus = s.bus ∧
    (keepFirstPiece a p s).buf = s.buf ∧ (keepFirstPiece a p s).disp.park = s.disp.park ∧
    (keepFirstPiece a p s).disp.parkedCells = s.disp.parkedCells ∧
    (keepFirstPiece a p s).disp.queueState = s.disp.queueState ∧ (keepFirstPiece a p s).lanes = s.lanes ∧
    (keepFirstPiece a p s).campus = s.campus ∧ (keepFirstPiece a p s).rack = s.rack ∧
    (keepFirstPiece a p s).rackRx = s.rackRx ∧ (keepFirstPiece a p s).campusRx = s.campusRx ∧
    (keepFirstPiece a p s).engine = s.engine ∧ (keepFirstPiece a p s).status = s.status ∧
    (keepFirstPiece a p s).counters = s.counters ∧ (keepFirstPiece a p s).freeIndex = s.freeIndex ∧
    (keepFirstPiece a p s).pending = s.pending := by
  unfold keepFirstPiece
  (repeat' split) <;> simp

@[simp] theorem overlapRemoval_frame (a : Fin 64) (p q : Nat) (s : State) :
    (overlapRemoval a p q s).device = s.device ∧ (overlapRemoval a p q s).time = s.time ∧
    (overlapRemoval a p q s).station = s.station ∧ (overlapRemoval a p q s).readBuffer = s.readBuffer ∧
    (overlapRemoval a p q s).serial = s.serial ∧ (overlapRemoval a p q s).image = s.image ∧
    (overlapRemoval a p q s).zeroizeLatch = s.zeroizeLatch ∧ (overlapRemoval a p q s).keys = s.keys ∧
    (overlapRemoval a p q s).segMap = s.segMap ∧ (overlapRemoval a p q s).bus = s.bus ∧
    (overlapRemoval a p q s).buf = s.buf ∧ (overlapRemoval a p q s).disp.park = s.disp.park ∧
    (overlapRemoval a p q s).disp.parkedCells = s.disp.parkedCells ∧
    (overlapRemoval a p q s).disp.queueState = s.disp.queueState ∧ (overlapRemoval a p q s).lanes = s.lanes ∧
    (overlapRemoval a p q s).campus = s.campus ∧ (overlapRemoval a p q s).rack = s.rack ∧
    (overlapRemoval a p q s).rackRx = s.rackRx ∧ (overlapRemoval a p q s).campusRx = s.campusRx ∧
    (overlapRemoval a p q s).engine = s.engine ∧
    (overlapRemoval a p q s).status.heldZeroized = s.status.heldZeroized ∧
    (overlapRemoval a p q s).status.replies = s.status.replies ∧
    (overlapRemoval a p q s).status.offered = s.status.offered ∧
    (overlapRemoval a p q s).status.lastOffered = s.status.lastOffered ∧
    (overlapRemoval a p q s).freeIndex = s.freeIndex ∧ (overlapRemoval a p q s).pending = s.pending := by
  simp only [overlapRemoval]
  (repeat' split) <;> simp

@[simp] theorem overlapAdvanceTest_frame (a : Fin 64) (p : Nat) (s : State) :
    (overlapAdvanceTest a p s).device = s.device ∧ (overlapAdvanceTest a p s).time = s.time ∧
    (overlapAdvanceTest a p s).station = s.station ∧ (overlapAdvanceTest a p s).readBuffer = s.readBuffer ∧
    (overlapAdvanceTest a p s).serial = s.serial ∧ (overlapAdvanceTest a p s).image = s.image ∧
    (overlapAdvanceTest a p s).zeroizeLatch = s.zeroizeLatch ∧ (overlapAdvanceTest a p s).segMap = s.segMap ∧
    (overlapAdvanceTest a p s).bus.errorCount = s.bus.errorCount ∧
    (overlapAdvanceTest a p s).bus.quiet = s.bus.quiet ∧ (overlapAdvanceTest a p s).bus.noAck = s.bus.noAck ∧
    (overlapAdvanceTest a p s).bus.backoff = s.bus.backoff ∧
    (overlapAdvanceTest a p s).bus.settleTimer = s.bus.settleTimer ∧
    (overlapAdvanceTest a p s).bus.idleSeen = s.bus.idleSeen ∧ (overlapAdvanceTest a p s).buf.queues = s.buf.queues ∧
    (overlapAdvanceTest a p s).buf.queueCells = s.buf.queueCells ∧
    (overlapAdvanceTest a p s).disp.park = s.disp.park ∧
    (overlapAdvanceTest a p s).disp.parkedCells = s.disp.parkedCells ∧ (overlapAdvanceTest a p s).campus = s.campus ∧
    (overlapAdvanceTest a p s).rack = s.rack ∧ (overlapAdvanceTest a p s).rackRx = s.rackRx ∧
    (overlapAdvanceTest a p s).campusRx = s.campusRx ∧ (overlapAdvanceTest a p s).engine = s.engine ∧
    (overlapAdvanceTest a p s).status.heldZeroized = s.status.heldZeroized ∧
    (overlapAdvanceTest a p s).status.replies = s.status.replies ∧
    (overlapAdvanceTest a p s).status.offered = s.status.offered ∧
    (overlapAdvanceTest a p s).status.lastOffered = s.status.lastOffered ∧
    (overlapAdvanceTest a p s).freeIndex = s.freeIndex ∧ (overlapAdvanceTest a p s).pending = s.pending := by
  unfold overlapAdvanceTest
  (repeat' split) <;> simp

@[simp] theorem accumulate_frame (a : Fin 64) (c : Nat) (s : State) :
    (accumulate a c s).device = s.device ∧ (accumulate a c s).time = s.time ∧ (accumulate a c s).station = s.station ∧
    (accumulate a c s).readBuffer = s.readBuffer ∧ (accumulate a c s).serial = s.serial ∧
    (accumulate a c s).image = s.image ∧ (accumulate a c s).zeroizeLatch = s.zeroizeLatch ∧
    (accumulate a c s).keys = s.keys ∧ (accumulate a c s).segMap = s.segMap ∧ (accumulate a c s).bus = s.bus ∧
    (accumulate a c s).buf = s.buf ∧ (accumulate a c s).disp = s.disp ∧ (accumulate a c s).lanes = s.lanes ∧
    (accumulate a c s).campus = s.campus ∧ (accumulate a c s).rack = s.rack ∧ (accumulate a c s).rackRx = s.rackRx ∧
    (accumulate a c s).campusRx = s.campusRx ∧ (accumulate a c s).engine = s.engine ∧
    (accumulate a c s).status = s.status ∧ (accumulate a c s).counters = s.counters ∧
    (accumulate a c s).freeIndex = s.freeIndex ∧ (accumulate a c s).pending = s.pending := by
  simp [accumulate]

@[simp] theorem peerClaimInEpoch_frame (a : Fin 64) (p q : Nat) (s : State) :
    (peerClaimInEpoch a p q s).device = s.device ∧ (peerClaimInEpoch a p q s).time = s.time ∧
    (peerClaimInEpoch a p q s).station = s.station ∧ (peerClaimInEpoch a p q s).readBuffer = s.readBuffer ∧
    (peerClaimInEpoch a p q s).serial = s.serial ∧ (peerClaimInEpoch a p q s).image = s.image ∧
    (peerClaimInEpoch a p q s).zeroizeLatch = s.zeroizeLatch ∧ (peerClaimInEpoch a p q s).segMap = s.segMap ∧
    (peerClaimInEpoch a p q s).bus.errorCount = s.bus.errorCount ∧
    (peerClaimInEpoch a p q s).bus.quiet = s.bus.quiet ∧ (peerClaimInEpoch a p q s).bus.noAck = s.bus.noAck ∧
    (peerClaimInEpoch a p q s).bus.backoff = s.bus.backoff ∧
    (peerClaimInEpoch a p q s).bus.settleTimer = s.bus.settleTimer ∧
    (peerClaimInEpoch a p q s).bus.idleSeen = s.bus.idleSeen ∧ (peerClaimInEpoch a p q s).buf.queues = s.buf.queues ∧
    (peerClaimInEpoch a p q s).buf.queueCells = s.buf.queueCells ∧
    (peerClaimInEpoch a p q s).disp.park = s.disp.park ∧
    (peerClaimInEpoch a p q s).disp.parkedCells = s.disp.parkedCells ∧ (peerClaimInEpoch a p q s).campus = s.campus ∧
    (peerClaimInEpoch a p q s).rack = s.rack ∧ (peerClaimInEpoch a p q s).rackRx = s.rackRx ∧
    (peerClaimInEpoch a p q s).campusRx = s.campusRx ∧ (peerClaimInEpoch a p q s).engine = s.engine ∧
    (peerClaimInEpoch a p q s).status.heldZeroized = s.status.heldZeroized ∧
    (peerClaimInEpoch a p q s).status.replies = s.status.replies ∧
    (peerClaimInEpoch a p q s).status.offered = s.status.offered ∧
    (peerClaimInEpoch a p q s).status.lastOffered = s.status.lastOffered ∧
    (peerClaimInEpoch a p q s).freeIndex = s.freeIndex ∧ (peerClaimInEpoch a p q s).pending = s.pending := by
  unfold peerClaimInEpoch
  (repeat' split) <;> simp

@[simp] theorem recordSettleView_frame (a : Fin 64) (e v : Nat) (s : State) :
    (recordSettleView a e v s).device = s.device ∧ (recordSettleView a e v s).time = s.time ∧
    (recordSettleView a e v s).station = s.station ∧ (recordSettleView a e v s).readBuffer = s.readBuffer ∧
    (recordSettleView a e v s).serial = s.serial ∧ (recordSettleView a e v s).image = s.image ∧
    (recordSettleView a e v s).zeroizeLatch = s.zeroizeLatch ∧ (recordSettleView a e v s).keys = s.keys ∧
    (recordSettleView a e v s).segMap = s.segMap ∧ (recordSettleView a e v s).bus = s.bus ∧
    (recordSettleView a e v s).buf = s.buf ∧ (recordSettleView a e v s).disp = s.disp ∧
    (recordSettleView a e v s).lanes = s.lanes ∧ (recordSettleView a e v s).campus = s.campus ∧
    (recordSettleView a e v s).rack = s.rack ∧ (recordSettleView a e v s).rackRx = s.rackRx ∧
    (recordSettleView a e v s).campusRx = s.campusRx ∧ (recordSettleView a e v s).engine = s.engine ∧
    (recordSettleView a e v s).status = s.status ∧ (recordSettleView a e v s).counters = s.counters ∧
    (recordSettleView a e v s).freeIndex = s.freeIndex ∧ (recordSettleView a e v s).pending = s.pending := by
  simp [recordSettleView]

@[simp] theorem peerClaim_frame (a : Fin 64) (p q e : Nat) (x : BitVec 3) (s : State) :
    (peerClaim a p q e x s).device = s.device ∧ (peerClaim a p q e x s).time = s.time ∧
    (peerClaim a p q e x s).station = s.station ∧ (peerClaim a p q e x s).readBuffer = s.readBuffer ∧
    (peerClaim a p q e x s).serial = s.serial ∧ (peerClaim a p q e x s).image = s.image ∧
    (peerClaim a p q e x s).zeroizeLatch = s.zeroizeLatch ∧ (peerClaim a p q e x s).segMap = s.segMap ∧
    (peerClaim a p q e x s).bus.errorCount = s.bus.errorCount ∧ (peerClaim a p q e x s).bus.quiet = s.bus.quiet ∧
    (peerClaim a p q e x s).bus.noAck = s.bus.noAck ∧ (peerClaim a p q e x s).bus.backoff = s.bus.backoff ∧
    (peerClaim a p q e x s).bus.settleTimer = s.bus.settleTimer ∧
    (peerClaim a p q e x s).bus.idleSeen = s.bus.idleSeen ∧ (peerClaim a p q e x s).buf.queues = s.buf.queues ∧
    (peerClaim a p q e x s).buf.queueCells = s.buf.queueCells ∧ (peerClaim a p q e x s).disp.park = s.disp.park ∧
    (peerClaim a p q e x s).disp.parkedCells = s.disp.parkedCells ∧ (peerClaim a p q e x s).campus = s.campus ∧
    (peerClaim a p q e x s).rack = s.rack ∧ (peerClaim a p q e x s).rackRx = s.rackRx ∧
    (peerClaim a p q e x s).campusRx = s.campusRx ∧ (peerClaim a p q e x s).engine = s.engine ∧
    (peerClaim a p q e x s).status.heldZeroized = s.status.heldZeroized ∧
    (peerClaim a p q e x s).status.replies = s.status.replies ∧
    (peerClaim a p q e x s).status.offered = s.status.offered ∧
    (peerClaim a p q e x s).status.lastOffered = s.status.lastOffered ∧
    (peerClaim a p q e x s).freeIndex = s.freeIndex ∧ (peerClaim a p q e x s).pending = s.pending := by
  simp only [peerClaim]
  (repeat' split) <;> simp

@[simp] theorem beaconDelivered_frame (a : Fin 64) (e v : Nat) (x : BitVec 3) (s : State) :
    (beaconDelivered a e v x s).device = s.device ∧ (beaconDelivered a e v x s).time = s.time ∧
    (beaconDelivered a e v x s).station = s.station ∧ (beaconDelivered a e v x s).readBuffer = s.readBuffer ∧
    (beaconDelivered a e v x s).serial = s.serial ∧ (beaconDelivered a e v x s).image = s.image ∧
    (beaconDelivered a e v x s).zeroizeLatch = s.zeroizeLatch ∧ (beaconDelivered a e v x s).segMap = s.segMap ∧
    (beaconDelivered a e v x s).bus.errorCount = s.bus.errorCount ∧
    (beaconDelivered a e v x s).bus.quiet = s.bus.quiet ∧ (beaconDelivered a e v x s).bus.noAck = s.bus.noAck ∧
    (beaconDelivered a e v x s).bus.backoff = s.bus.backoff ∧
    (beaconDelivered a e v x s).bus.settleTimer = s.bus.settleTimer ∧
    (beaconDelivered a e v x s).bus.idleSeen = s.bus.idleSeen ∧
    (beaconDelivered a e v x s).buf.queues = s.buf.queues ∧
    (beaconDelivered a e v x s).buf.queueCells = s.buf.queueCells ∧
    (beaconDelivered a e v x s).disp.park = s.disp.park ∧
    (beaconDelivered a e v x s).disp.parkedCells = s.disp.parkedCells ∧
    (beaconDelivered a e v x s).campus = s.campus ∧ (beaconDelivered a e v x s).rack = s.rack ∧
    (beaconDelivered a e v x s).rackRx = s.rackRx ∧ (beaconDelivered a e v x s).campusRx = s.campusRx ∧
    (beaconDelivered a e v x s).engine = s.engine ∧
    (beaconDelivered a e v x s).status.heldZeroized = s.status.heldZeroized ∧
    (beaconDelivered a e v x s).status.replies = s.status.replies ∧
    (beaconDelivered a e v x s).status.offered = s.status.offered ∧
    (beaconDelivered a e v x s).status.lastOffered = s.status.lastOffered ∧
    (beaconDelivered a e v x s).freeIndex = s.freeIndex ∧ (beaconDelivered a e v x s).pending = s.pending := by
  simp only [beaconDelivered]
  (repeat' split) <;> simp

@[simp] theorem advanceDelivered_frame (a : Fin 64) (e : Nat) (x : AdvanceReason) (y : BitVec 3) (s : State) :
    (advanceDelivered a e x y s).device = s.device ∧ (advanceDelivered a e x y s).time = s.time ∧
    (advanceDelivered a e x y s).station = s.station ∧ (advanceDelivered a e x y s).readBuffer = s.readBuffer ∧
    (advanceDelivered a e x y s).serial = s.serial ∧ (advanceDelivered a e x y s).image = s.image ∧
    (advanceDelivered a e x y s).zeroizeLatch = s.zeroizeLatch ∧ (advanceDelivered a e x y s).segMap = s.segMap ∧
    (advanceDelivered a e x y s).bus.errorCount = s.bus.errorCount ∧
    (advanceDelivered a e x y s).bus.quiet = s.bus.quiet ∧ (advanceDelivered a e x y s).bus.noAck = s.bus.noAck ∧
    (advanceDelivered a e x y s).bus.backoff = s.bus.backoff ∧
    (advanceDelivered a e x y s).bus.settleTimer = s.bus.settleTimer ∧
    (advanceDelivered a e x y s).bus.idleSeen = s.bus.idleSeen ∧
    (advanceDelivered a e x y s).buf.queues = s.buf.queues ∧
    (advanceDelivered a e x y s).buf.queueCells = s.buf.queueCells ∧
    (advanceDelivered a e x y s).disp.park = s.disp.park ∧
    (advanceDelivered a e x y s).disp.parkedCells = s.disp.parkedCells ∧
    (advanceDelivered a e x y s).campus = s.campus ∧ (advanceDelivered a e x y s).rack = s.rack ∧
    (advanceDelivered a e x y s).rackRx = s.rackRx ∧ (advanceDelivered a e x y s).campusRx = s.campusRx ∧
    (advanceDelivered a e x y s).engine = s.engine ∧
    (advanceDelivered a e x y s).status.heldZeroized = s.status.heldZeroized ∧
    (advanceDelivered a e x y s).status.replies = s.status.replies ∧
    (advanceDelivered a e x y s).status.offered = s.status.offered ∧
    (advanceDelivered a e x y s).status.lastOffered = s.status.lastOffered ∧
    (advanceDelivered a e x y s).freeIndex = s.freeIndex ∧ (advanceDelivered a e x y s).pending = s.pending := by
  unfold advanceDelivered
  (repeat' split) <;> simp

@[simp] theorem loseCurrentKey_frame (a : Fin 64) (s : State) :
    (loseCurrentKey a s).device = s.device ∧ (loseCurrentKey a s).time = s.time ∧
    (loseCurrentKey a s).station = s.station ∧ (loseCurrentKey a s).readBuffer = s.readBuffer ∧
    (loseCurrentKey a s).serial = s.serial ∧ (loseCurrentKey a s).image = s.image ∧
    (loseCurrentKey a s).zeroizeLatch = s.zeroizeLatch ∧ (loseCurrentKey a s).keys = s.keys ∧
    (loseCurrentKey a s).segMap = s.segMap ∧ (loseCurrentKey a s).bus.errorCount = s.bus.errorCount ∧
    (loseCurrentKey a s).bus.quiet = s.bus.quiet ∧ (loseCurrentKey a s).bus.noAck = s.bus.noAck ∧
    (loseCurrentKey a s).bus.backoff = s.bus.backoff ∧ (loseCurrentKey a s).bus.settleTimer = s.bus.settleTimer ∧
    (loseCurrentKey a s).bus.idleSeen = s.bus.idleSeen ∧ (loseCurrentKey a s).buf = s.buf ∧
    (loseCurrentKey a s).disp = s.disp ∧ (loseCurrentKey a s).lanes = s.lanes ∧
    (loseCurrentKey a s).campus = s.campus ∧ (loseCurrentKey a s).rack = s.rack ∧
    (loseCurrentKey a s).rackRx = s.rackRx ∧ (loseCurrentKey a s).campusRx = s.campusRx ∧
    (loseCurrentKey a s).engine = s.engine ∧ (loseCurrentKey a s).status.heldZeroized = s.status.heldZeroized ∧
    (loseCurrentKey a s).status.replies = s.status.replies ∧ (loseCurrentKey a s).status.offered = s.status.offered ∧
    (loseCurrentKey a s).status.lastOffered = s.status.lastOffered ∧ (loseCurrentKey a s).freeIndex = s.freeIndex ∧
    (loseCurrentKey a s).pending = s.pending := by
  simp [loseCurrentKey]

end Sys2Proof.Machine
end

