-- ==== Sys2Proof/Laws/Bus.lean ====
section
/-! SUPPORT. What the operations of the bus controller leave as it was. -/

namespace Sys2Proof.Machine

@[simp] theorem beginMessage_frame (m : BusMessage) (s : State) :
    (beginMessage m s).device = s.device ∧ (beginMessage m s).time = s.time ∧ (beginMessage m s).station = s.station ∧
    (beginMessage m s).readBuffer = s.readBuffer ∧ (beginMessage m s).serial = s.serial ∧
    (beginMessage m s).image = s.image ∧ (beginMessage m s).zeroizeLatch = s.zeroizeLatch ∧
    (beginMessage m s).assocs = s.assocs ∧ (beginMessage m s).keys = s.keys ∧ (beginMessage m s).segMap = s.segMap ∧
    (beginMessage m s).bus.txList = s.bus.txList ∧ (beginMessage m s).bus.errorCount = s.bus.errorCount ∧
    (beginMessage m s).bus.quiet = s.bus.quiet ∧ (beginMessage m s).bus.noAck = s.bus.noAck ∧
    (beginMessage m s).bus.settleTimer = s.bus.settleTimer ∧ (beginMessage m s).buf = s.buf ∧
    (beginMessage m s).disp = s.disp ∧ (beginMessage m s).lanes = s.lanes ∧ (beginMessage m s).campus = s.campus ∧
    (beginMessage m s).rack = s.rack ∧ (beginMessage m s).rackRx = s.rackRx ∧
    (beginMessage m s).campusRx = s.campusRx ∧ (beginMessage m s).engine = s.engine ∧
    (beginMessage m s).status = s.status ∧ (beginMessage m s).counters = s.counters ∧
    (beginMessage m s).freeIndex = s.freeIndex ∧ (beginMessage m s).pending = s.pending := by
  simp [beginMessage]

@[simp] theorem attempt_frame (n : Nat) (s : State) :
    (attempt n s).device = s.device ∧ (attempt n s).time = s.time ∧ (attempt n s).station = s.station ∧
    (attempt n s).readBuffer = s.readBuffer ∧ (attempt n s).serial = s.serial ∧ (attempt n s).image = s.image ∧
    (attempt n s).zeroizeLatch = s.zeroizeLatch ∧ (attempt n s).segMap = s.segMap ∧
    (attempt n s).bus.errorCount = s.bus.errorCount ∧ (attempt n s).bus.quiet = s.bus.quiet ∧
    (attempt n s).bus.noAck = s.bus.noAck ∧ (attempt n s).bus.settleTimer = s.bus.settleTimer ∧
    (attempt n s).buf.queues = s.buf.queues ∧ (attempt n s).buf.queueCells = s.buf.queueCells ∧
    (attempt n s).disp.park = s.disp.park ∧ (attempt n s).disp.parkedCells = s.disp.parkedCells ∧
    (attempt n s).campus = s.campus ∧ (attempt n s).rack = s.rack ∧ (attempt n s).rackRx = s.rackRx ∧
    (attempt n s).campusRx = s.campusRx ∧ (attempt n s).engine = s.engine ∧
    (attempt n s).status.heldZeroized = s.status.heldZeroized ∧ (attempt n s).status.replies = s.status.replies ∧
    (attempt n s).status.offered = s.status.offered ∧ (attempt n s).status.lastOffered = s.status.lastOffered ∧
    (attempt n s).freeIndex = s.freeIndex ∧ (attempt n s).pending = s.pending := by
  induction n generalizing s with
  | zero => simp [attempt]
  | succ n ih =>
    unfold attempt
    (repeat' split) <;> simp [ih]

@[simp] theorem quietTest_frame (s : State) :
    (quietTest s).device = s.device ∧ (quietTest s).time = s.time ∧ (quietTest s).station = s.station ∧
    (quietTest s).readBuffer = s.readBuffer ∧ (quietTest s).serial = s.serial ∧ (quietTest s).image = s.image ∧
    (quietTest s).zeroizeLatch = s.zeroizeLatch ∧ (quietTest s).assocs = s.assocs ∧ (quietTest s).keys = s.keys ∧
    (quietTest s).segMap = s.segMap ∧ (quietTest s).bus.txList = s.bus.txList ∧
    (quietTest s).bus.errorCount = s.bus.errorCount ∧ (quietTest s).bus.noAck = s.bus.noAck ∧
    (quietTest s).bus.backoff = s.bus.backoff ∧ (quietTest s).bus.settleTimer = s.bus.settleTimer ∧
    (quietTest s).bus.idleSeen = s.bus.idleSeen ∧ (quietTest s).bus.onBus = s.bus.onBus ∧ (quietTest s).buf = s.buf ∧
    (quietTest s).disp = s.disp ∧ (quietTest s).lanes = s.lanes ∧ (quietTest s).campus = s.campus ∧
    (quietTest s).rack = s.rack ∧ (quietTest s).rackRx = s.rackRx ∧ (quietTest s).campusRx = s.campusRx ∧
    (quietTest s).engine = s.engine ∧ (quietTest s).status.heldZeroized = s.status.heldZeroized ∧
    (quietTest s).status.replies = s.status.replies ∧ (quietTest s).status.offered = s.status.offered ∧
    (quietTest s).status.lastOffered = s.status.lastOffered ∧ (quietTest s).freeIndex = s.freeIndex ∧
    (quietTest s).pending = s.pending := by
  unfold quietTest
  (repeat' split) <;> simp

@[simp] theorem setErrorCount_frame (n : Nat) (s : State) :
    (setErrorCount n s).device = s.device ∧ (setErrorCount n s).time = s.time ∧
    (setErrorCount n s).station = s.station ∧ (setErrorCount n s).readBuffer = s.readBuffer ∧
    (setErrorCount n s).serial = s.serial ∧ (setErrorCount n s).image = s.image ∧
    (setErrorCount n s).zeroizeLatch = s.zeroizeLatch ∧ (setErrorCount n s).assocs = s.assocs ∧
    (setErrorCount n s).keys = s.keys ∧ (setErrorCount n s).segMap = s.segMap ∧
    (setErrorCount n s).bus.txList = s.bus.txList ∧ (setErrorCount n s).bus.noAck = s.bus.noAck ∧
    (setErrorCount n s).bus.backoff = s.bus.backoff ∧ (setErrorCount n s).bus.settleTimer = s.bus.settleTimer ∧
    (setErrorCount n s).bus.idleSeen = s.bus.idleSeen ∧ (setErrorCount n s).bus.onBus = s.bus.onBus ∧
    (setErrorCount n s).buf = s.buf ∧ (setErrorCount n s).disp = s.disp ∧ (setErrorCount n s).lanes = s.lanes ∧
    (setErrorCount n s).campus = s.campus ∧ (setErrorCount n s).rack = s.rack ∧
    (setErrorCount n s).rackRx = s.rackRx ∧ (setErrorCount n s).campusRx = s.campusRx ∧
    (setErrorCount n s).engine = s.engine ∧ (setErrorCount n s).status.heldZeroized = s.status.heldZeroized ∧
    (setErrorCount n s).status.replies = s.status.replies ∧ (setErrorCount n s).status.offered = s.status.offered ∧
    (setErrorCount n s).status.lastOffered = s.status.lastOffered ∧ (setErrorCount n s).freeIndex = s.freeIndex ∧
    (setErrorCount n s).pending = s.pending := by
  simp [setErrorCount]

@[simp] theorem errorDown_frame (s : State) :
    (errorDown s).device = s.device ∧ (errorDown s).time = s.time ∧ (errorDown s).station = s.station ∧
    (errorDown s).readBuffer = s.readBuffer ∧ (errorDown s).serial = s.serial ∧ (errorDown s).image = s.image ∧
    (errorDown s).zeroizeLatch = s.zeroizeLatch ∧ (errorDown s).assocs = s.assocs ∧ (errorDown s).keys = s.keys ∧
    (errorDown s).segMap = s.segMap ∧ (errorDown s).bus.txList = s.bus.txList ∧
    (errorDown s).bus.noAck = s.bus.noAck ∧ (errorDown s).bus.backoff = s.bus.backoff ∧
    (errorDown s).bus.settleTimer = s.bus.settleTimer ∧ (errorDown s).bus.idleSeen = s.bus.idleSeen ∧
    (errorDown s).bus.onBus = s.bus.onBus ∧ (errorDown s).buf = s.buf ∧ (errorDown s).disp = s.disp ∧
    (errorDown s).lanes = s.lanes ∧ (errorDown s).campus = s.campus ∧ (errorDown s).rack = s.rack ∧
    (errorDown s).rackRx = s.rackRx ∧ (errorDown s).campusRx = s.campusRx ∧ (errorDown s).engine = s.engine ∧
    (errorDown s).status.heldZeroized = s.status.heldZeroized ∧ (errorDown s).status.replies = s.status.replies ∧
    (errorDown s).status.offered = s.status.offered ∧ (errorDown s).status.lastOffered = s.status.lastOffered ∧
    (errorDown s).freeIndex = s.freeIndex ∧ (errorDown s).pending = s.pending := by
  simp [errorDown]

@[simp] theorem errorUp_frame (n : Nat) (s : State) :
    (errorUp n s).device = s.device ∧ (errorUp n s).time = s.time ∧ (errorUp n s).station = s.station ∧
    (errorUp n s).readBuffer = s.readBuffer ∧ (errorUp n s).serial = s.serial ∧ (errorUp n s).image = s.image ∧
    (errorUp n s).zeroizeLatch = s.zeroizeLatch ∧ (errorUp n s).assocs = s.assocs ∧ (errorUp n s).keys = s.keys ∧
    (errorUp n s).segMap = s.segMap ∧ (errorUp n s).bus.txList = s.bus.txList ∧
    (errorUp n s).bus.noAck = s.bus.noAck ∧ (errorUp n s).bus.backoff = s.bus.backoff ∧
    (errorUp n s).bus.settleTimer = s.bus.settleTimer ∧ (errorUp n s).bus.idleSeen = s.bus.idleSeen ∧
    (errorUp n s).bus.onBus = s.bus.onBus ∧ (errorUp n s).buf = s.buf ∧ (errorUp n s).disp = s.disp ∧
    (errorUp n s).lanes = s.lanes ∧ (errorUp n s).campus = s.campus ∧ (errorUp n s).rack = s.rack ∧
    (errorUp n s).rackRx = s.rackRx ∧ (errorUp n s).campusRx = s.campusRx ∧ (errorUp n s).engine = s.engine ∧
    (errorUp n s).status.heldZeroized = s.status.heldZeroized ∧ (errorUp n s).status.replies = s.status.replies ∧
    (errorUp n s).status.offered = s.status.offered ∧ (errorUp n s).status.lastOffered = s.status.lastOffered ∧
    (errorUp n s).freeIndex = s.freeIndex ∧ (errorUp n s).pending = s.pending := by
  simp [errorUp]

@[simp] theorem oweBackoff_frame (s : State) :
    (oweBackoff s).device = s.device ∧ (oweBackoff s).time = s.time ∧ (oweBackoff s).station = s.station ∧
    (oweBackoff s).readBuffer = s.readBuffer ∧ (oweBackoff s).serial = s.serial ∧ (oweBackoff s).image = s.image ∧
    (oweBackoff s).zeroizeLatch = s.zeroizeLatch ∧ (oweBackoff s).assocs = s.assocs ∧ (oweBackoff s).keys = s.keys ∧
    (oweBackoff s).segMap = s.segMap ∧ (oweBackoff s).bus.txList = s.bus.txList ∧
    (oweBackoff s).bus.errorCount = s.bus.errorCount ∧ (oweBackoff s).bus.quiet = s.bus.quiet ∧
    (oweBackoff s).bus.noAck = s.bus.noAck ∧ (oweBackoff s).bus.settleTimer = s.bus.settleTimer ∧
    (oweBackoff s).bus.idleSeen = s.bus.idleSeen ∧ (oweBackoff s).bus.onBus = s.bus.onBus ∧
    (oweBackoff s).buf = s.buf ∧ (oweBackoff s).disp = s.disp ∧ (oweBackoff s).lanes = s.lanes ∧
    (oweBackoff s).campus = s.campus ∧ (oweBackoff s).rack = s.rack ∧ (oweBackoff s).rackRx = s.rackRx ∧
    (oweBackoff s).campusRx = s.campusRx ∧ (oweBackoff s).engine = s.engine ∧ (oweBackoff s).status = s.status ∧
    (oweBackoff s).counters = s.counters ∧ (oweBackoff s).freeIndex = s.freeIndex ∧ (oweBackoff s).pending = s.pending := by
  simp [oweBackoff]

@[simp] theorem clearOnBus_frame (s : State) :
    (clearOnBus s).device = s.device ∧ (clearOnBus s).time = s.time ∧ (clearOnBus s).station = s.station ∧
    (clearOnBus s).readBuffer = s.readBuffer ∧ (clearOnBus s).serial = s.serial ∧ (clearOnBus s).image = s.image ∧
    (clearOnBus s).zeroizeLatch = s.zeroizeLatch ∧ (clearOnBus s).assocs = s.assocs ∧ (clearOnBus s).keys = s.keys ∧
    (clearOnBus s).segMap = s.segMap ∧ (clearOnBus s).bus.txList = s.bus.txList ∧
    (clearOnBus s).bus.errorCount = s.bus.errorCount ∧ (clearOnBus s).bus.quiet = s.bus.quiet ∧
    (clearOnBus s).bus.noAck = s.bus.noAck ∧ (clearOnBus s).bus.backoff = s.bus.backoff ∧
    (clearOnBus s).bus.settleTimer = s.bus.settleTimer ∧ (clearOnBus s).bus.idleSeen = s.bus.idleSeen ∧
    (clearOnBus s).buf = s.buf ∧ (clearOnBus s).disp = s.disp ∧ (clearOnBus s).lanes = s.lanes ∧
    (clearOnBus s).campus = s.campus ∧ (clearOnBus s).rack = s.rack ∧ (clearOnBus s).rackRx = s.rackRx ∧
    (clearOnBus s).campusRx = s.campusRx ∧ (clearOnBus s).engine = s.engine ∧ (clearOnBus s).status = s.status ∧
    (clearOnBus s).counters = s.counters ∧ (clearOnBus s).freeIndex = s.freeIndex ∧ (clearOnBus s).pending = s.pending := by
  simp [clearOnBus]

@[simp] theorem ownVoid_frame (s : State) :
    (ownVoid s).device = s.device ∧ (ownVoid s).time = s.time ∧ (ownVoid s).station = s.station ∧
    (ownVoid s).readBuffer = s.readBuffer ∧ (ownVoid s).serial = s.serial ∧ (ownVoid s).image = s.image ∧
    (ownVoid s).zeroizeLatch = s.zeroizeLatch ∧ (ownVoid s).assocs = s.assocs ∧ (ownVoid s).keys = s.keys ∧
    (ownVoid s).segMap = s.segMap ∧ (ownVoid s).bus.txList = s.bus.txList ∧ (ownVoid s).bus.noAck = s.bus.noAck ∧
    (ownVoid s).bus.settleTimer = s.bus.settleTimer ∧ (ownVoid s).bus.idleSeen = s.bus.idleSeen ∧
    (ownVoid s).buf = s.buf ∧ (ownVoid s).disp = s.disp ∧ (ownVoid s).lanes = s.lanes ∧
    (ownVoid s).campus = s.campus ∧ (ownVoid s).rack = s.rack ∧ (ownVoid s).rackRx = s.rackRx ∧
    (ownVoid s).campusRx = s.campusRx ∧ (ownVoid s).engine = s.engine ∧
    (ownVoid s).status.heldZeroized = s.status.heldZeroized ∧ (ownVoid s).status.replies = s.status.replies ∧
    (ownVoid s).status.offered = s.status.offered ∧ (ownVoid s).status.lastOffered = s.status.lastOffered ∧
    (ownVoid s).freeIndex = s.freeIndex ∧ (ownVoid s).pending = s.pending := by
  simp [ownVoid]

@[simp] theorem ownNoAck_frame (a : Fin 64) (e : Nat) (s : State) :
    (ownNoAck a e s).device = s.device ∧ (ownNoAck a e s).time = s.time ∧ (ownNoAck a e s).station = s.station ∧
    (ownNoAck a e s).readBuffer = s.readBuffer ∧ (ownNoAck a e s).serial = s.serial ∧
    (ownNoAck a e s).image = s.image ∧ (ownNoAck a e s).zeroizeLatch = s.zeroizeLatch ∧
    (ownNoAck a e s).assocs = s.assocs ∧ (ownNoAck a e s).keys = s.keys ∧ (ownNoAck a e s).segMap = s.segMap ∧
    (ownNoAck a e s).bus.txList = s.bus.txList ∧ (ownNoAck a e s).bus.errorCount = s.bus.errorCount ∧
    (ownNoAck a e s).bus.quiet = s.bus.quiet ∧ (ownNoAck a e s).bus.settleTimer = s.bus.settleTimer ∧
    (ownNoAck a e s).bus.idleSeen = s.bus.idleSeen ∧ (ownNoAck a e s).buf = s.buf ∧ (ownNoAck a e s).disp = s.disp ∧
    (ownNoAck a e s).lanes = s.lanes ∧ (ownNoAck a e s).campus = s.campus ∧ (ownNoAck a e s).rack = s.rack ∧
    (ownNoAck a e s).rackRx = s.rackRx ∧ (ownNoAck a e s).campusRx = s.campusRx ∧ (ownNoAck a e s).engine = s.engine ∧
    (ownNoAck a e s).status.heldZeroized = s.status.heldZeroized ∧
    (ownNoAck a e s).status.replies = s.status.replies ∧ (ownNoAck a e s).status.offered = s.status.offered ∧
    (ownNoAck a e s).status.lastOffered = s.status.lastOffered ∧ (ownNoAck a e s).freeIndex = s.freeIndex ∧
    (ownNoAck a e s).pending = s.pending := by
  simp only [ownNoAck]
  split <;> simp

@[simp] theorem cancelByMessage_frame (o : Bool) (m : BusMessage) (s : State) :
    (cancelByMessage o m s).device = s.device ∧ (cancelByMessage o m s).time = s.time ∧
    (cancelByMessage o m s).station = s.station ∧ (cancelByMessage o m s).readBuffer = s.readBuffer ∧
    (cancelByMessage o m s).serial = s.serial ∧ (cancelByMessage o m s).image = s.image ∧
    (cancelByMessage o m s).zeroizeLatch = s.zeroizeLatch ∧ (cancelByMessage o m s).assocs = s.assocs ∧
    (cancelByMessage o m s).keys = s.keys ∧ (cancelByMessage o m s).segMap = s.segMap ∧
    (cancelByMessage o m s).bus.errorCount = s.bus.errorCount ∧ (cancelByMessage o m s).bus.quiet = s.bus.quiet ∧
    (cancelByMessage o m s).bus.noAck = s.bus.noAck ∧ (cancelByMessage o m s).bus.backoff = s.bus.backoff ∧
    (cancelByMessage o m s).bus.settleTimer = s.bus.settleTimer ∧
    (cancelByMessage o m s).bus.idleSeen = s.bus.idleSeen ∧ (cancelByMessage o m s).bus.onBus = s.bus.onBus ∧
    (cancelByMessage o m s).buf = s.buf ∧ (cancelByMessage o m s).disp = s.disp ∧
    (cancelByMessage o m s).lanes = s.lanes ∧ (cancelByMessage o m s).campus = s.campus ∧
    (cancelByMessage o m s).rack = s.rack ∧ (cancelByMessage o m s).rackRx = s.rackRx ∧
    (cancelByMessage o m s).campusRx = s.campusRx ∧ (cancelByMessage o m s).engine = s.engine ∧
    (cancelByMessage o m s).status = s.status ∧ (cancelByMessage o m s).counters = s.counters ∧
    (cancelByMessage o m s).freeIndex = s.freeIndex ∧ (cancelByMessage o m s).pending = s.pending := by
  unfold cancelByMessage
  (repeat' split) <;> simp

@[simp] theorem scheduleBeaconsIn_frame (l : List (Fin 64)) (s : State) :
    (l.foldl (fun s a => if (s.assoc a).state.frontKnown then requestTx .beacon a s else s) s).device = s.device ∧
    (l.foldl (fun s a => if (s.assoc a).state.frontKnown then requestTx .beacon a s else s) s).time = s.time ∧
    (l.foldl (fun s a => if (s.assoc a).state.frontKnown then requestTx .beacon a s else s) s).station = s.station ∧
    (l.foldl (fun s a => if (s.assoc a).state.frontKnown then requestTx .beacon a s else s) s).readBuffer = s.readBuffer ∧
    (l.foldl (fun s a => if (s.assoc a).state.frontKnown then requestTx .beacon a s else s) s).serial = s.serial ∧
    (l.foldl (fun s a => if (s.assoc a).state.frontKnown then requestTx .beacon a s else s) s).image = s.image ∧
    (l.foldl (fun s a => if (s.assoc a).state.frontKnown then requestTx .beacon a s else s) s).zeroizeLatch = s.zeroizeLatch ∧
    (l.foldl (fun s a => if (s.assoc a).state.frontKnown then requestTx .beacon a s else s) s).assocs = s.assocs ∧
    (l.foldl (fun s a => if (s.assoc a).state.frontKnown then requestTx .beacon a s else s) s).keys = s.keys ∧
    (l.foldl (fun s a => if (s.assoc a).state.frontKnown then requestTx .beacon a s else s) s).segMap = s.segMap ∧
    (l.foldl (fun s a => if (s.assoc a).state.frontKnown then requestTx .beacon a s else s) s).bus.errorCount = s.bus.errorCount ∧
    (l.foldl (fun s a => if (s.assoc a).state.frontKnown then requestTx .beacon a s else s) s).bus.quiet = s.bus.quiet ∧
    (l.foldl (fun s a => if (s.assoc a).state.frontKnown then requestTx .beacon a s else s) s).bus.noAck = s.bus.noAck ∧
    (l.foldl (fun s a => if (s.assoc a).state.frontKnown then requestTx .beacon a s else s) s).bus.backoff = s.bus.backoff ∧
    (l.foldl (fun s a => if (s.assoc a).state.frontKnown then requestTx .beacon a s else s) s).bus.settleTimer = s.bus.settleTimer ∧
    (l.foldl (fun s a => if (s.assoc a).state.frontKnown then requestTx .beacon a s else s) s).bus.idleSeen = s.bus.idleSeen ∧
    (l.foldl (fun s a => if (s.assoc a).state.frontKnown then requestTx .beacon a s else s) s).bus.onBus = s.bus.onBus ∧
    (l.foldl (fun s a => if (s.assoc a).state.frontKnown then requestTx .beacon a s else s) s).buf = s.buf ∧
    (l.foldl (fun s a => if (s.assoc a).state.frontKnown then requestTx .beacon a s else s) s).disp = s.disp ∧
    (l.foldl (fun s a => if (s.assoc a).state.frontKnown then requestTx .beacon a s else s) s).lanes = s.lanes ∧
    (l.foldl (fun s a => if (s.assoc a).state.frontKnown then requestTx .beacon a s else s) s).campus = s.campus ∧
    (l.foldl (fun s a => if (s.assoc a).state.frontKnown then requestTx .beacon a s else s) s).rack = s.rack ∧
    (l.foldl (fun s a => if (s.assoc a).state.frontKnown then requestTx .beacon a s else s) s).rackRx = s.rackRx ∧
    (l.foldl (fun s a => if (s.assoc a).state.frontKnown then requestTx .beacon a s else s) s).campusRx = s.campusRx ∧
    (l.foldl (fun s a => if (s.assoc a).state.frontKnown then requestTx .beacon a s else s) s).engine = s.engine ∧
    (l.foldl (fun s a => if (s.assoc a).state.frontKnown then requestTx .beacon a s else s) s).status = s.status ∧
    (l.foldl (fun s a => if (s.assoc a).state.frontKnown then requestTx .beacon a s else s) s).counters = s.counters ∧
    (l.foldl (fun s a => if (s.assoc a).state.frontKnown then requestTx .beacon a s else s) s).freeIndex = s.freeIndex ∧
    (l.foldl (fun s a => if (s.assoc a).state.frontKnown then requestTx .beacon a s else s) s).pending = s.pending := by
  induction l generalizing s with
  | nil => simp
  | cons x l ih =>
    simp only [List.foldl_cons, ih]
    split <;> simp

@[simp] theorem scheduleBeacons_frame (s : State) :
    (scheduleBeacons s).device = s.device ∧ (scheduleBeacons s).time = s.time ∧
    (scheduleBeacons s).station = s.station ∧ (scheduleBeacons s).readBuffer = s.readBuffer ∧
    (scheduleBeacons s).serial = s.serial ∧ (scheduleBeacons s).image = s.image ∧
    (scheduleBeacons s).zeroizeLatch = s.zeroizeLatch ∧ (scheduleBeacons s).assocs = s.assocs ∧
    (scheduleBeacons s).keys = s.keys ∧ (scheduleBeacons s).segMap = s.segMap ∧
    (scheduleBeacons s).bus.errorCount = s.bus.errorCount ∧ (scheduleBeacons s).bus.quiet = s.bus.quiet ∧
    (scheduleBeacons s).bus.noAck = s.bus.noAck ∧ (scheduleBeacons s).bus.backoff = s.bus.backoff ∧
    (scheduleBeacons s).bus.settleTimer = s.bus.settleTimer ∧ (scheduleBeacons s).bus.idleSeen = s.bus.idleSeen ∧
    (scheduleBeacons s).bus.onBus = s.bus.onBus ∧ (scheduleBeacons s).buf = s.buf ∧
    (scheduleBeacons s).disp = s.disp ∧ (scheduleBeacons s).lanes = s.lanes ∧ (scheduleBeacons s).campus = s.campus ∧
    (scheduleBeacons s).rack = s.rack ∧ (scheduleBeacons s).rackRx = s.rackRx ∧
    (scheduleBeacons s).campusRx = s.campusRx ∧ (scheduleBeacons s).engine = s.engine ∧
    (scheduleBeacons s).status = s.status ∧ (scheduleBeacons s).counters = s.counters ∧
    (scheduleBeacons s).freeIndex = s.freeIndex ∧ (scheduleBeacons s).pending = s.pending := by
  simp [scheduleBeacons]

@[simp] theorem handMessage_frame (o w : Bool) (m : BusMessage) (s : State) :
    (handMessage o w m s).device = s.device ∧ (handMessage o w m s).time = s.time ∧
    (handMessage o w m s).station = s.station ∧ (handMessage o w m s).readBuffer = s.readBuffer ∧
    (handMessage o w m s).serial = s.serial ∧ (handMessage o w m s).image = s.image ∧
    (handMessage o w m s).zeroizeLatch = s.zeroizeLatch ∧ (handMessage o w m s).segMap = s.segMap ∧
    (handMessage o w m s).bus.errorCount = s.bus.errorCount ∧ (handMessage o w m s).bus.quiet = s.bus.quiet ∧
    (handMessage o w m s).bus.noAck = s.bus.noAck ∧ (handMessage o w m s).bus.backoff = s.bus.backoff ∧
    (handMessage o w m s).bus.settleTimer = s.bus.settleTimer ∧ (handMessage o w m s).bus.idleSeen = s.bus.idleSeen ∧
    (handMessage o w m s).buf.queues = s.buf.queues ∧ (handMessage o w m s).buf.queueCells = s.buf.queueCells ∧
    (handMessage o w m s).disp.park = s.disp.park ∧ (handMessage o w m s).disp.parkedCells = s.disp.parkedCells ∧
    (handMessage o w m s).campus = s.campus ∧ (handMessage o w m s).rack = s.rack ∧
    (handMessage o w m s).rackRx = s.rackRx ∧ (handMessage o w m s).campusRx = s.campusRx ∧
    (handMessage o w m s).engine = s.engine ∧ (handMessage o w m s).status.heldZeroized = s.status.heldZeroized ∧
    (handMessage o w m s).status.replies = s.status.replies ∧
    (handMessage o w m s).status.offered = s.status.offered ∧
    (handMessage o w m s).status.lastOffered = s.status.lastOffered ∧ (handMessage o w m s).freeIndex = s.freeIndex ∧
    (handMessage o w m s).pending = s.pending := by
  unfold handMessage
  (repeat' split) <;> simp

@[simp] theorem applyMessage_frame (o w : Bool) (m : BusMessage) (s : State) :
    (applyMessage o w m s).device = s.device ∧ (applyMessage o w m s).time = s.time ∧
    (applyMessage o w m s).station = s.station ∧ (applyMessage o w m s).readBuffer = s.readBuffer ∧
    (applyMessage o w m s).serial = s.serial ∧ (applyMessage o w m s).image = s.image ∧
    (applyMessage o w m s).zeroizeLatch = s.zeroizeLatch ∧ (applyMessage o w m s).segMap = s.segMap ∧
    (applyMessage o w m s).bus.errorCount = s.bus.errorCount ∧ (applyMessage o w m s).bus.quiet = s.bus.quiet ∧
    (applyMessage o w m s).bus.noAck = s.bus.noAck ∧ (applyMessage o w m s).bus.backoff = s.bus.backoff ∧
    (applyMessage o w m s).bus.settleTimer = s.bus.settleTimer ∧
    (applyMessage o w m s).bus.idleSeen = s.bus.idleSeen ∧ (applyMessage o w m s).buf.queues = s.buf.queues ∧
    (applyMessage o w m s).buf.queueCells = s.buf.queueCells ∧ (applyMessage o w m s).disp.park = s.disp.park ∧
    (applyMessage o w m s).disp.parkedCells = s.disp.parkedCells ∧ (applyMessage o w m s).campus = s.campus ∧
    (applyMessage o w m s).rack = s.rack ∧ (applyMessage o w m s).rackRx = s.rackRx ∧
    (applyMessage o w m s).campusRx = s.campusRx ∧ (applyMessage o w m s).engine = s.engine ∧
    (applyMessage o w m s).status.heldZeroized = s.status.heldZeroized ∧
    (applyMessage o w m s).status.replies = s.status.replies ∧
    (applyMessage o w m s).status.offered = s.status.offered ∧
    (applyMessage o w m s).status.lastOffered = s.status.lastOffered ∧
    (applyMessage o w m s).freeIndex = s.freeIndex ∧ (applyMessage o w m s).pending = s.pending := by
  simp [applyMessage]

@[simp] theorem ownDelivered_frame (o : OwnMessage) (s : State) :
    (ownDelivered o s).device = s.device ∧ (ownDelivered o s).time = s.time ∧ (ownDelivered o s).station = s.station ∧
    (ownDelivered o s).readBuffer = s.readBuffer ∧ (ownDelivered o s).serial = s.serial ∧
    (ownDelivered o s).image = s.image ∧ (ownDelivered o s).zeroizeLatch = s.zeroizeLatch ∧
    (ownDelivered o s).segMap = s.segMap ∧ (ownDelivered o s).bus.settleTimer = s.bus.settleTimer ∧
    (ownDelivered o s).buf.queues = s.buf.queues ∧ (ownDelivered o s).buf.queueCells = s.buf.queueCells ∧
    (ownDelivered o s).disp.park = s.disp.park ∧ (ownDelivered o s).disp.parkedCells = s.disp.parkedCells ∧
    (ownDelivered o s).campus = s.campus ∧ (ownDelivered o s).rack = s.rack ∧ (ownDelivered o s).rackRx = s.rackRx ∧
    (ownDelivered o s).campusRx = s.campusRx ∧ (ownDelivered o s).engine = s.engine ∧
    (ownDelivered o s).status.heldZeroized = s.status.heldZeroized ∧
    (ownDelivered o s).status.replies = s.status.replies ∧ (ownDelivered o s).status.offered = s.status.offered ∧
    (ownDelivered o s).status.lastOffered = s.status.lastOffered ∧ (ownDelivered o s).freeIndex = s.freeIndex ∧
    (ownDelivered o s).pending = s.pending := by
  simp only [ownDelivered]
  (repeat' split) <;> simp

@[simp] theorem asSender_frame (o : OwnMessage) (x : BusOutcome) (s : State) :
    (asSender o x s).device = s.device ∧ (asSender o x s).time = s.time ∧ (asSender o x s).station = s.station ∧
    (asSender o x s).readBuffer = s.readBuffer ∧ (asSender o x s).serial = s.serial ∧
    (asSender o x s).image = s.image ∧ (asSender o x s).zeroizeLatch = s.zeroizeLatch ∧
    (asSender o x s).segMap = s.segMap ∧ (asSender o x s).bus.settleTimer = s.bus.settleTimer ∧
    (asSender o x s).buf.queues = s.buf.queues ∧ (asSender o x s).buf.queueCells = s.buf.queueCells ∧
    (asSender o x s).disp.park = s.disp.park ∧ (asSender o x s).disp.parkedCells = s.disp.parkedCells ∧
    (asSender o x s).campus = s.campus ∧ (asSender o x s).rack = s.rack ∧ (asSender o x s).rackRx = s.rackRx ∧
    (asSender o x s).campusRx = s.campusRx ∧ (asSender o x s).engine = s.engine ∧
    (asSender o x s).status.heldZeroized = s.status.heldZeroized ∧
    (asSender o x s).status.replies = s.status.replies ∧ (asSender o x s).status.offered = s.status.offered ∧
    (asSender o x s).status.lastOffered = s.status.lastOffered ∧ (asSender o x s).freeIndex = s.freeIndex ∧
    (asSender o x s).pending = s.pending := by
  unfold asSender
  (repeat' split) <;> simp

@[simp] theorem asReceiver_frame (m : BusMessage) (c : Bool) (x : BusOutcome) (s : State) :
    (asReceiver m c x s).device = s.device ∧ (asReceiver m c x s).time = s.time ∧
    (asReceiver m c x s).station = s.station ∧ (asReceiver m c x s).readBuffer = s.readBuffer ∧
    (asReceiver m c x s).serial = s.serial ∧ (asReceiver m c x s).image = s.image ∧
    (asReceiver m c x s).zeroizeLatch = s.zeroizeLatch ∧ (asReceiver m c x s).segMap = s.segMap ∧
    (asReceiver m c x s).bus.noAck = s.bus.noAck ∧ (asReceiver m c x s).bus.backoff = s.bus.backoff ∧
    (asReceiver m c x s).bus.settleTimer = s.bus.settleTimer ∧ (asReceiver m c x s).bus.idleSeen = s.bus.idleSeen ∧
    (asReceiver m c x s).buf.queues = s.buf.queues ∧ (asReceiver m c x s).buf.queueCells = s.buf.queueCells ∧
    (asReceiver m c x s).disp.park = s.disp.park ∧ (asReceiver m c x s).disp.parkedCells = s.disp.parkedCells ∧
    (asReceiver m c x s).campus = s.campus ∧ (asReceiver m c x s).rack = s.rack ∧
    (asReceiver m c x s).rackRx = s.rackRx ∧ (asReceiver m c x s).campusRx = s.campusRx ∧
    (asReceiver m c x s).engine = s.engine ∧ (asReceiver m c x s).status.heldZeroized = s.status.heldZeroized ∧
    (asReceiver m c x s).status.replies = s.status.replies ∧ (asReceiver m c x s).status.offered = s.status.offered ∧
    (asReceiver m c x s).status.lastOffered = s.status.lastOffered ∧ (asReceiver m c x s).freeIndex = s.freeIndex ∧
    (asReceiver m c x s).pending = s.pending := by
  simp only [asReceiver]
  (repeat' split) <;> simp

@[simp] theorem spendBackoff_frame (s : State) :
    (spendBackoff s).device = s.device ∧ (spendBackoff s).time = s.time ∧ (spendBackoff s).station = s.station ∧
    (spendBackoff s).readBuffer = s.readBuffer ∧ (spendBackoff s).serial = s.serial ∧
    (spendBackoff s).image = s.image ∧ (spendBackoff s).zeroizeLatch = s.zeroizeLatch ∧
    (spendBackoff s).assocs = s.assocs ∧ (spendBackoff s).keys = s.keys ∧ (spendBackoff s).segMap = s.segMap ∧
    (spendBackoff s).bus.txList = s.bus.txList ∧ (spendBackoff s).bus.errorCount = s.bus.errorCount ∧
    (spendBackoff s).bus.quiet = s.bus.quiet ∧ (spendBackoff s).bus.noAck = s.bus.noAck ∧
    (spendBackoff s).bus.settleTimer = s.bus.settleTimer ∧ (spendBackoff s).bus.idleSeen = s.bus.idleSeen ∧
    (spendBackoff s).bus.onBus = s.bus.onBus ∧ (spendBackoff s).buf = s.buf ∧ (spendBackoff s).disp = s.disp ∧
    (spendBackoff s).lanes = s.lanes ∧ (spendBackoff s).campus = s.campus ∧ (spendBackoff s).rack = s.rack ∧
    (spendBackoff s).rackRx = s.rackRx ∧ (spendBackoff s).campusRx = s.campusRx ∧ (spendBackoff s).engine = s.engine ∧
    (spendBackoff s).status = s.status ∧ (spendBackoff s).counters = s.counters ∧
    (spendBackoff s).freeIndex = s.freeIndex ∧ (spendBackoff s).pending = s.pending := by
  unfold spendBackoff
  (repeat' split) <;> simp

@[simp] theorem loseArbitration_frame (o : OwnMessage) (s : State) :
    (loseArbitration o s).device = s.device ∧ (loseArbitration o s).time = s.time ∧
    (loseArbitration o s).station = s.station ∧ (loseArbitration o s).readBuffer = s.readBuffer ∧
    (loseArbitration o s).serial = s.serial ∧ (loseArbitration o s).image = s.image ∧
    (loseArbitration o s).zeroizeLatch = s.zeroizeLatch ∧ (loseArbitration o s).assocs = s.assocs ∧
    (loseArbitration o s).keys = s.keys ∧ (loseArbitration o s).segMap = s.segMap ∧
    (loseArbitration o s).bus.txList = s.bus.txList ∧ (loseArbitration o s).bus.errorCount = s.bus.errorCount ∧
    (loseArbitration o s).bus.quiet = s.bus.quiet ∧ (loseArbitration o s).bus.noAck = s.bus.noAck ∧
    (loseArbitration o s).bus.backoff = s.bus.backoff ∧ (loseArbitration o s).bus.settleTimer = s.bus.settleTimer ∧
    (loseArbitration o s).bus.idleSeen = s.bus.idleSeen ∧ (loseArbitration o s).buf = s.buf ∧
    (loseArbitration o s).disp = s.disp ∧ (loseArbitration o s).lanes = s.lanes ∧
    (loseArbitration o s).campus = s.campus ∧ (loseArbitration o s).rack = s.rack ∧
    (loseArbitration o s).rackRx = s.rackRx ∧ (loseArbitration o s).campusRx = s.campusRx ∧
    (loseArbitration o s).engine = s.engine ∧ (loseArbitration o s).status = s.status ∧
    (loseArbitration o s).freeIndex = s.freeIndex ∧ (loseArbitration o s).pending = s.pending := by
  simp only [loseArbitration]
  split <;> simp

@[simp] theorem messageCompletes_frame (m : BusMessage) (e : BusEnding) (s : State) :
    (messageCompletes m e s).device = s.device ∧ (messageCompletes m e s).time = s.time ∧
    (messageCompletes m e s).station = s.station ∧ (messageCompletes m e s).readBuffer = s.readBuffer ∧
    (messageCompletes m e s).serial = s.serial ∧ (messageCompletes m e s).image = s.image ∧
    (messageCompletes m e s).zeroizeLatch = s.zeroizeLatch ∧ (messageCompletes m e s).segMap = s.segMap ∧
    (messageCompletes m e s).bus.settleTimer = s.bus.settleTimer ∧
    (messageCompletes m e s).buf.queues = s.buf.queues ∧ (messageCompletes m e s).buf.queueCells = s.buf.queueCells ∧
    (messageCompletes m e s).disp.park = s.disp.park ∧
    (messageCompletes m e s).disp.parkedCells = s.disp.parkedCells ∧ (messageCompletes m e s).campus = s.campus ∧
    (messageCompletes m e s).rack = s.rack ∧ (messageCompletes m e s).rackRx = s.rackRx ∧
    (messageCompletes m e s).campusRx = s.campusRx ∧ (messageCompletes m e s).engine = s.engine ∧
    (messageCompletes m e s).status.heldZeroized = s.status.heldZeroized ∧
    (messageCompletes m e s).status.replies = s.status.replies ∧
    (messageCompletes m e s).status.offered = s.status.offered ∧
    (messageCompletes m e s).status.lastOffered = s.status.lastOffered ∧
    (messageCompletes m e s).freeIndex = s.freeIndex ∧ (messageCompletes m e s).pending = s.pending := by
  simp only [messageCompletes]
  (repeat' split) <;> simp

@[simp] theorem busMessage_frame (m : BusMessage) (e : BusEnding) (s : State) :
    (busMessage m e s).device = s.device ∧ (busMessage m e s).time = s.time ∧ (busMessage m e s).station = s.station ∧
    (busMessage m e s).readBuffer = s.readBuffer ∧ (busMessage m e s).serial = s.serial ∧
    (busMessage m e s).image = s.image ∧ (busMessage m e s).zeroizeLatch = s.zeroizeLatch ∧
    (busMessage m e s).segMap = s.segMap ∧ (busMessage m e s).bus.settleTimer = s.bus.settleTimer ∧
    (busMessage m e s).buf.queues = s.buf.queues ∧ (busMessage m e s).buf.queueCells = s.buf.queueCells ∧
    (busMessage m e s).disp.parkedCells = s.disp.parkedCells ∧
    (busMessage m e s).campus.pauseTimer = s.campus.pauseTimer ∧ (busMessage m e s).campus.fifo = s.campus.fifo ∧
    (busMessage m e s).rack.pauseTimer = s.rack.pauseTimer ∧ (busMessage m e s).rackRx = s.rackRx ∧
    (busMessage m e s).campusRx = s.campusRx ∧ (busMessage m e s).engine = s.engine ∧
    (busMessage m e s).status.replies = s.status.replies ∧ (busMessage m e s).pending = s.pending := by
  by_cases h : s.takesPart e = true <;> simp [busMessage, h]

end Sys2Proof.Machine
end

