-- ==== Sys2Proof/Laws/Frames.lean ====
section
/-! SUPPORT. What the operations on frames and on the move scan leave as it was. -/

namespace Sys2Proof.Machine

@[simp] theorem takeLinkControl_frame (d : List Byte) (s : State) :
    (takeLinkControl d s).device = s.device ∧ (takeLinkControl d s).time = s.time ∧
    (takeLinkControl d s).station = s.station ∧ (takeLinkControl d s).readBuffer = s.readBuffer ∧
    (takeLinkControl d s).serial = s.serial ∧ (takeLinkControl d s).image = s.image ∧
    (takeLinkControl d s).zeroizeLatch = s.zeroizeLatch ∧ (takeLinkControl d s).assocs = s.assocs ∧
    (takeLinkControl d s).keys = s.keys ∧ (takeLinkControl d s).segMap = s.segMap ∧
    (takeLinkControl d s).bus = s.bus ∧ (takeLinkControl d s).buf = s.buf ∧ (takeLinkControl d s).disp = s.disp ∧
    (takeLinkControl d s).lanes = s.lanes ∧ (takeLinkControl d s).campus = s.campus ∧
    (takeLinkControl d s).rack.sending = s.rack.sending ∧ (takeLinkControl d s).rack.cutShort = s.rack.cutShort ∧
    (takeLinkControl d s).rackRx = s.rackRx ∧ (takeLinkControl d s).campusRx = s.campusRx ∧
    (takeLinkControl d s).engine = s.engine ∧ (takeLinkControl d s).status = s.status ∧
    (takeLinkControl d s).freeIndex = s.freeIndex ∧ (takeLinkControl d s).pending = s.pending := by
  unfold takeLinkControl
  (repeat' split) <;> simp

@[simp] theorem divertCommand_frame (d : List Byte) (s : State) :
    (divertCommand d s).device = s.device ∧ (divertCommand d s).time = s.time ∧
    (divertCommand d s).station = s.station ∧ (divertCommand d s).readBuffer = s.readBuffer ∧
    (divertCommand d s).serial = s.serial ∧ (divertCommand d s).image = s.image ∧
    (divertCommand d s).zeroizeLatch = s.zeroizeLatch ∧ (divertCommand d s).assocs = s.assocs ∧
    (divertCommand d s).keys = s.keys ∧ (divertCommand d s).segMap = s.segMap ∧ (divertCommand d s).bus = s.bus ∧
    (divertCommand d s).buf = s.buf ∧ (divertCommand d s).disp = s.disp ∧ (divertCommand d s).lanes = s.lanes ∧
    (divertCommand d s).campus = s.campus ∧ (divertCommand d s).rack = s.rack ∧
    (divertCommand d s).rackRx = s.rackRx ∧ (divertCommand d s).campusRx = s.campusRx ∧
    (divertCommand d s).engine.commandKey = s.engine.commandKey ∧
    (divertCommand d s).engine.wrapKey = s.engine.wrapKey ∧
    (divertCommand d s).engine.unwrapStore = s.engine.unwrapStore ∧ (divertCommand d s).engine.scan = s.engine.scan ∧
    (divertCommand d s).engine.written = s.engine.written ∧
    (divertCommand d s).status.heldZeroized = s.status.heldZeroized ∧
    (divertCommand d s).status.replies = s.status.replies ∧ (divertCommand d s).status.offered = s.status.offered ∧
    (divertCommand d s).status.lastOffered = s.status.lastOffered ∧ (divertCommand d s).freeIndex = s.freeIndex ∧
    (divertCommand d s).pending = s.pending := by
  unfold divertCommand
  (repeat' split) <;> simp

@[simp] theorem appendFrame_frame (h : Nat) (x : FrameAction) (q : Fin 8) (d : List Byte) (s : State) :
    (appendFrame h x q d s).device = s.device ∧ (appendFrame h x q d s).time = s.time ∧
    (appendFrame h x q d s).station = s.station ∧ (appendFrame h x q d s).readBuffer = s.readBuffer ∧
    (appendFrame h x q d s).serial = s.serial ∧ (appendFrame h x q d s).image = s.image ∧
    (appendFrame h x q d s).zeroizeLatch = s.zeroizeLatch ∧ (appendFrame h x q d s).assocs = s.assocs ∧
    (appendFrame h x q d s).keys = s.keys ∧ (appendFrame h x q d s).segMap = s.segMap ∧
    (appendFrame h x q d s).bus = s.bus ∧ (appendFrame h x q d s).disp = s.disp ∧
    (appendFrame h x q d s).lanes = s.lanes ∧ (appendFrame h x q d s).campus = s.campus ∧
    (appendFrame h x q d s).rack = s.rack ∧ (appendFrame h x q d s).rackRx = s.rackRx ∧
    (appendFrame h x q d s).campusRx = s.campusRx ∧ (appendFrame h x q d s).engine = s.engine ∧
    (appendFrame h x q d s).status = s.status ∧ (appendFrame h x q d s).counters = s.counters ∧
    (appendFrame h x q d s).freeIndex = s.freeIndex ∧ (appendFrame h x q d s).pending = s.pending := by
  simp [appendFrame]

@[simp] theorem roomTest_frame (x : FrameAction) (q : Fin 8) (r : RackReception) (s : State) :
    (roomTest x q r s).device = s.device ∧ (roomTest x q r s).time = s.time ∧ (roomTest x q r s).station = s.station ∧
    (roomTest x q r s).readBuffer = s.readBuffer ∧ (roomTest x q r s).serial = s.serial ∧
    (roomTest x q r s).image = s.image ∧ (roomTest x q r s).zeroizeLatch = s.zeroizeLatch ∧
    (roomTest x q r s).assocs = s.assocs ∧ (roomTest x q r s).keys = s.keys ∧ (roomTest x q r s).segMap = s.segMap ∧
    (roomTest x q r s).bus = s.bus ∧ (roomTest x q r s).disp = s.disp ∧ (roomTest x q r s).lanes = s.lanes ∧
    (roomTest x q r s).campus = s.campus ∧ (roomTest x q r s).rack = s.rack ∧ (roomTest x q r s).rackRx = s.rackRx ∧
    (roomTest x q r s).campusRx = s.campusRx ∧ (roomTest x q r s).engine = s.engine ∧
    (roomTest x q r s).status = s.status ∧ (roomTest x q r s).freeIndex = s.freeIndex ∧
    (roomTest x q r s).pending = s.pending := by
  unfold roomTest
  (repeat' split) <;> simp

@[simp] theorem classify_frame (r : RackReception) (s : State) :
    (classify r s).device = s.device ∧ (classify r s).time = s.time ∧ (classify r s).station = s.station ∧
    (classify r s).readBuffer = s.readBuffer ∧ (classify r s).serial = s.serial ∧ (classify r s).image = s.image ∧
    (classify r s).zeroizeLatch = s.zeroizeLatch ∧ (classify r s).assocs = s.assocs ∧ (classify r s).keys = s.keys ∧
    (classify r s).segMap = s.segMap ∧ (classify r s).bus = s.bus ∧ (classify r s).disp = s.disp ∧
    (classify r s).lanes = s.lanes ∧ (classify r s).campus = s.campus ∧ (classify r s).rack = s.rack ∧
    (classify r s).rackRx = s.rackRx ∧ (classify r s).campusRx = s.campusRx ∧ (classify r s).engine = s.engine ∧
    (classify r s).status = s.status ∧ (classify r s).freeIndex = s.freeIndex ∧ (classify r s).pending = s.pending := by
  unfold classify
  (repeat' split) <;> simp

@[simp] theorem receiveStages_frame (r : RackReception) (s : State) :
    (receiveStages r s).device = s.device ∧ (receiveStages r s).time = s.time ∧
    (receiveStages r s).station = s.station ∧ (receiveStages r s).readBuffer = s.readBuffer ∧
    (receiveStages r s).serial = s.serial ∧ (receiveStages r s).image = s.image ∧
    (receiveStages r s).zeroizeLatch = s.zeroizeLatch ∧ (receiveStages r s).assocs = s.assocs ∧
    (receiveStages r s).keys = s.keys ∧ (receiveStages r s).segMap = s.segMap ∧ (receiveStages r s).bus = s.bus ∧
    (receiveStages r s).disp = s.disp ∧ (receiveStages r s).lanes = s.lanes ∧ (receiveStages r s).campus = s.campus ∧
    (receiveStages r s).rack.sending = s.rack.sending ∧ (receiveStages r s).rack.cutShort = s.rack.cutShort ∧
    (receiveStages r s).rackRx = s.rackRx ∧ (receiveStages r s).campusRx = s.campusRx ∧
    (receiveStages r s).engine.commandKey = s.engine.commandKey ∧
    (receiveStages r s).engine.wrapKey = s.engine.wrapKey ∧
    (receiveStages r s).engine.unwrapStore = s.engine.unwrapStore ∧ (receiveStages r s).engine.scan = s.engine.scan ∧
    (receiveStages r s).engine.written = s.engine.written ∧
    (receiveStages r s).status.heldZeroized = s.status.heldZeroized ∧
    (receiveStages r s).status.replies = s.status.replies ∧ (receiveStages r s).status.offered = s.status.offered ∧
    (receiveStages r s).status.lastOffered = s.status.lastOffered ∧ (receiveStages r s).freeIndex = s.freeIndex ∧
    (receiveStages r s).pending = s.pending := by
  simp only [receiveStages]
  (repeat' split) <;> simp

/-- A reception writes no more cells than are free (R94). -/
theorem cellsWritten_le (r : RackReception) (s : State) : s.cellsWritten r ≤ s.buf.freeCells := by
  unfold State.cellsWritten
  simp only
  split
  · omega
  · rename_i h
    simp only [State.receptionShort, Bool.or_eq_true, decide_eq_true_eq, not_or, not_lt] at h
    exact h.2

@[simp] theorem storeBytes_frame (r : RackReception) (s : State) :
    (storeBytes r s).device = s.device ∧ (storeBytes r s).time = s.time ∧ (storeBytes r s).station = s.station ∧
    (storeBytes r s).readBuffer = s.readBuffer ∧ (storeBytes r s).serial = s.serial ∧
    (storeBytes r s).image = s.image ∧ (storeBytes r s).zeroizeLatch = s.zeroizeLatch ∧
    (storeBytes r s).assocs = s.assocs ∧ (storeBytes r s).keys = s.keys ∧ (storeBytes r s).segMap = s.segMap ∧
    (storeBytes r s).bus = s.bus ∧ (storeBytes r s).buf.pool = s.buf.pool ∧
    (storeBytes r s).buf.freeCells = s.buf.freeCells ∧ (storeBytes r s).buf.queues = s.buf.queues ∧
    (storeBytes r s).buf.queueCells = s.buf.queueCells ∧ (storeBytes r s).buf.pausing = s.buf.pausing ∧
    (storeBytes r s).buf.pauseRequest = s.buf.pauseRequest ∧ (storeBytes r s).buf.repeatTimer = s.buf.repeatTimer ∧
    (storeBytes r s).disp = s.disp ∧ (storeBytes r s).lanes = s.lanes ∧ (storeBytes r s).campus = s.campus ∧
    (storeBytes r s).rack = s.rack ∧ (storeBytes r s).rackRx = s.rackRx ∧ (storeBytes r s).campusRx = s.campusRx ∧
    (storeBytes r s).engine = s.engine ∧ (storeBytes r s).status = s.status ∧ (storeBytes r s).counters = s.counters ∧
    (storeBytes r s).freeIndex = s.freeIndex ∧ (storeBytes r s).pending = s.pending := by
  simp [storeBytes]

@[simp] theorem rackReceptionEnds_frame (s : State) :
    (rackReceptionEnds s).device = s.device ∧ (rackReceptionEnds s).time = s.time ∧
    (rackReceptionEnds s).station = s.station ∧ (rackReceptionEnds s).readBuffer = s.readBuffer ∧
    (rackReceptionEnds s).serial = s.serial ∧ (rackReceptionEnds s).image = s.image ∧
    (rackReceptionEnds s).zeroizeLatch = s.zeroizeLatch ∧ (rackReceptionEnds s).assocs = s.assocs ∧
    (rackReceptionEnds s).keys = s.keys ∧ (rackReceptionEnds s).segMap = s.segMap ∧
    (rackReceptionEnds s).bus = s.bus ∧ (rackReceptionEnds s).buf = s.buf ∧ (rackReceptionEnds s).disp = s.disp ∧
    (rackReceptionEnds s).lanes = s.lanes ∧ (rackReceptionEnds s).campus = s.campus ∧
    (rackReceptionEnds s).rack = s.rack ∧ (rackReceptionEnds s).campusRx = s.campusRx ∧
    (rackReceptionEnds s).engine = s.engine ∧ (rackReceptionEnds s).status = s.status ∧
    (rackReceptionEnds s).counters = s.counters ∧ (rackReceptionEnds s).freeIndex = s.freeIndex ∧
    (rackReceptionEnds s).pending = s.pending := by
  simp [rackReceptionEnds]

@[simp] theorem campusReceptionEnds_frame (s : State) :
    (campusReceptionEnds s).device = s.device ∧ (campusReceptionEnds s).time = s.time ∧
    (campusReceptionEnds s).station = s.station ∧ (campusReceptionEnds s).readBuffer = s.readBuffer ∧
    (campusReceptionEnds s).serial = s.serial ∧ (campusReceptionEnds s).image = s.image ∧
    (campusReceptionEnds s).zeroizeLatch = s.zeroizeLatch ∧ (campusReceptionEnds s).assocs = s.assocs ∧
    (campusReceptionEnds s).keys = s.keys ∧ (campusReceptionEnds s).segMap = s.segMap ∧
    (campusReceptionEnds s).bus = s.bus ∧ (campusReceptionEnds s).buf = s.buf ∧
    (campusReceptionEnds s).disp = s.disp ∧ (campusReceptionEnds s).lanes = s.lanes ∧
    (campusReceptionEnds s).campus = s.campus ∧ (campusReceptionEnds s).rack = s.rack ∧
    (campusReceptionEnds s).rackRx = s.rackRx ∧ (campusReceptionEnds s).engine = s.engine ∧
    (campusReceptionEnds s).status = s.status ∧ (campusReceptionEnds s).counters = s.counters ∧
    (campusReceptionEnds s).freeIndex = s.freeIndex ∧ (campusReceptionEnds s).pending = s.pending := by
  simp [campusReceptionEnds]

@[simp] theorem receiveInert_frame (r : RackReception) (s : State) :
    (receiveInert r s).device = s.device ∧ (receiveInert r s).time = s.time ∧ (receiveInert r s).station = s.station ∧
    (receiveInert r s).readBuffer = s.readBuffer ∧ (receiveInert r s).serial = s.serial ∧
    (receiveInert r s).image = s.image ∧ (receiveInert r s).zeroizeLatch = s.zeroizeLatch ∧
    (receiveInert r s).assocs = s.assocs ∧ (receiveInert r s).keys = s.keys ∧ (receiveInert r s).segMap = s.segMap ∧
    (receiveInert r s).bus = s.bus ∧ (receiveInert r s).buf = s.buf ∧ (receiveInert r s).disp = s.disp ∧
    (receiveInert r s).lanes = s.lanes ∧ (receiveInert r s).campus = s.campus ∧
    (receiveInert r s).rack.sending = s.rack.sending ∧ (receiveInert r s).rack.cutShort = s.rack.cutShort ∧
    (receiveInert r s).rackRx = s.rackRx ∧ (receiveInert r s).campusRx = s.campusRx ∧
    (receiveInert r s).engine = s.engine ∧ (receiveInert r s).status = s.status ∧
    (receiveInert r s).freeIndex = s.freeIndex ∧ (receiveInert r s).pending = s.pending := by
  simp only [receiveInert]
  (repeat' split) <;> simp

@[simp] theorem receiveRack_frame (r : RackReception) (s : State) :
    (receiveRack r s).device = s.device ∧ (receiveRack r s).time = s.time ∧ (receiveRack r s).station = s.station ∧
    (receiveRack r s).readBuffer = s.readBuffer ∧ (receiveRack r s).serial = s.serial ∧
    (receiveRack r s).image = s.image ∧ (receiveRack r s).zeroizeLatch = s.zeroizeLatch ∧
    (receiveRack r s).assocs = s.assocs ∧ (receiveRack r s).keys = s.keys ∧ (receiveRack r s).segMap = s.segMap ∧
    (receiveRack r s).bus = s.bus ∧ (receiveRack r s).disp = s.disp ∧ (receiveRack r s).lanes = s.lanes ∧
    (receiveRack r s).campus = s.campus ∧ (receiveRack r s).rack.sending = s.rack.sending ∧
    (receiveRack r s).rack.cutShort = s.rack.cutShort ∧ (receiveRack r s).rackRx = s.rackRx ∧
    (receiveRack r s).campusRx = s.campusRx ∧ (receiveRack r s).engine.commandKey = s.engine.commandKey ∧
    (receiveRack r s).engine.wrapKey = s.engine.wrapKey ∧
    (receiveRack r s).engine.unwrapStore = s.engine.unwrapStore ∧ (receiveRack r s).engine.scan = s.engine.scan ∧
    (receiveRack r s).engine.written = s.engine.written ∧
    (receiveRack r s).status.heldZeroized = s.status.heldZeroized ∧
    (receiveRack r s).status.replies = s.status.replies ∧ (receiveRack r s).status.offered = s.status.offered ∧
    (receiveRack r s).status.lastOffered = s.status.lastOffered ∧ (receiveRack r s).freeIndex = s.freeIndex ∧
    (receiveRack r s).pending = s.pending := by
  unfold receiveRack
  (repeat' split) <;> simp

@[simp] theorem receiveInbound_frame (r : InboundReception) (s : State) :
    (receiveInbound r s).device = s.device ∧ (receiveInbound r s).time = s.time ∧
    (receiveInbound r s).station = s.station ∧ (receiveInbound r s).readBuffer = s.readBuffer ∧
    (receiveInbound r s).serial = s.serial ∧ (receiveInbound r s).image = s.image ∧
    (receiveInbound r s).zeroizeLatch = s.zeroizeLatch ∧ (receiveInbound r s).assocs = s.assocs ∧
    (receiveInbound r s).keys = s.keys ∧ (receiveInbound r s).segMap = s.segMap ∧ (receiveInbound r s).bus = s.bus ∧
    (receiveInbound r s).buf = s.buf ∧ (receiveInbound r s).disp = s.disp ∧ (receiveInbound r s).lanes = s.lanes ∧
    (receiveInbound r s).campus.sending = s.campus.sending ∧
    (receiveInbound r s).campus.cutShort = s.campus.cutShort ∧ (receiveInbound r s).rack = s.rack ∧
    (receiveInbound r s).rackRx = s.rackRx ∧ (receiveInbound r s).campusRx = s.campusRx ∧
    (receiveInbound r s).engine = s.engine ∧ (receiveInbound r s).status = s.status ∧
    (receiveInbound r s).freeIndex = s.freeIndex ∧ (receiveInbound r s).pending = s.pending := by
  simp only [receiveInbound]
  (repeat' split) <;> simp

@[simp] theorem replySent_frame (s : State) :
    (replySent s).device = s.device ∧ (replySent s).time = s.time ∧ (replySent s).station = s.station ∧
    (replySent s).readBuffer = s.readBuffer ∧ (replySent s).serial = s.serial ∧ (replySent s).image = s.image ∧
    (replySent s).zeroizeLatch = s.zeroizeLatch ∧ (replySent s).assocs = s.assocs ∧ (replySent s).keys = s.keys ∧
    (replySent s).segMap = s.segMap ∧ (replySent s).bus = s.bus ∧ (replySent s).buf = s.buf ∧
    (replySent s).disp = s.disp ∧ (replySent s).lanes = s.lanes ∧ (replySent s).campus = s.campus ∧
    (replySent s).rack = s.rack ∧ (replySent s).rackRx = s.rackRx ∧ (replySent s).campusRx = s.campusRx ∧
    (replySent s).engine.input = s.engine.input ∧ (replySent s).engine.commandKey = s.engine.commandKey ∧
    (replySent s).engine.wrapKey = s.engine.wrapKey ∧ (replySent s).engine.unwrapStore = s.engine.unwrapStore ∧
    (replySent s).engine.scan = s.engine.scan ∧ (replySent s).engine.written = s.engine.written ∧
    (replySent s).status.notices = s.status.notices ∧ (replySent s).status.heldZeroized = s.status.heldZeroized ∧
    (replySent s).status.offered = s.status.offered ∧ (replySent s).status.lastOffered = s.status.lastOffered ∧
    (replySent s).status.alert = s.status.alert ∧ (replySent s).counters = s.counters ∧
    (replySent s).freeIndex = s.freeIndex ∧ (replySent s).pending = s.pending := by
  simp [replySent]

@[simp] theorem rackFrameEnds_frame (k : RackFrameKind) (s : State) :
    (rackFrameEnds k s).device = s.device ∧ (rackFrameEnds k s).time = s.time ∧
    (rackFrameEnds k s).station = s.station ∧ (rackFrameEnds k s).readBuffer = s.readBuffer ∧
    (rackFrameEnds k s).serial = s.serial ∧ (rackFrameEnds k s).image = s.image ∧
    (rackFrameEnds k s).zeroizeLatch = s.zeroizeLatch ∧ (rackFrameEnds k s).assocs = s.assocs ∧
    (rackFrameEnds k s).keys = s.keys ∧ (rackFrameEnds k s).segMap = s.segMap ∧ (rackFrameEnds k s).bus = s.bus ∧
    (rackFrameEnds k s).buf = s.buf ∧ (rackFrameEnds k s).disp = s.disp ∧ (rackFrameEnds k s).lanes = s.lanes ∧
    (rackFrameEnds k s).campus.sending = s.campus.sending ∧ (rackFrameEnds k s).campus.cutShort = s.campus.cutShort ∧
    (rackFrameEnds k s).campus.pauseTimer = s.campus.pauseTimer ∧ (rackFrameEnds k s).rack = s.rack ∧
    (rackFrameEnds k s).rackRx = s.rackRx ∧ (rackFrameEnds k s).campusRx = s.campusRx ∧
    (rackFrameEnds k s).engine.input = s.engine.input ∧ (rackFrameEnds k s).engine.commandKey = s.engine.commandKey ∧
    (rackFrameEnds k s).engine.wrapKey = s.engine.wrapKey ∧
    (rackFrameEnds k s).engine.unwrapStore = s.engine.unwrapStore ∧ (rackFrameEnds k s).engine.scan = s.engine.scan ∧
    (rackFrameEnds k s).engine.written = s.engine.written ∧ (rackFrameEnds k s).status.notices = s.status.notices ∧
    (rackFrameEnds k s).status.heldZeroized = s.status.heldZeroized ∧
    (rackFrameEnds k s).status.offered = s.status.offered ∧
    (rackFrameEnds k s).status.lastOffered = s.status.lastOffered ∧
    (rackFrameEnds k s).status.alert = s.status.alert ∧ (rackFrameEnds k s).counters = s.counters ∧
    (rackFrameEnds k s).freeIndex = s.freeIndex ∧ (rackFrameEnds k s).pending = s.pending := by
  unfold rackFrameEnds
  (repeat' split) <;> simp

@[simp] theorem serveCounter_frame (a : Fin 64) (s : State) :
    ((serveCounter a s).1).device = s.device ∧ ((serveCounter a s).1).time = s.time ∧
    ((serveCounter a s).1).station = s.station ∧ ((serveCounter a s).1).readBuffer = s.readBuffer ∧
    ((serveCounter a s).1).serial = s.serial ∧ ((serveCounter a s).1).image = s.image ∧
    ((serveCounter a s).1).zeroizeLatch = s.zeroizeLatch ∧ ((serveCounter a s).1).segMap = s.segMap ∧
    ((serveCounter a s).1).bus.errorCount = s.bus.errorCount ∧ ((serveCounter a s).1).bus.quiet = s.bus.quiet ∧
    ((serveCounter a s).1).bus.noAck = s.bus.noAck ∧ ((serveCounter a s).1).bus.backoff = s.bus.backoff ∧
    ((serveCounter a s).1).bus.settleTimer = s.bus.settleTimer ∧
    ((serveCounter a s).1).bus.idleSeen = s.bus.idleSeen ∧ ((serveCounter a s).1).buf.queues = s.buf.queues ∧
    ((serveCounter a s).1).buf.queueCells = s.buf.queueCells ∧ ((serveCounter a s).1).disp.park = s.disp.park ∧
    ((serveCounter a s).1).disp.parkedCells = s.disp.parkedCells ∧ ((serveCounter a s).1).campus = s.campus ∧
    ((serveCounter a s).1).rack = s.rack ∧ ((serveCounter a s).1).rackRx = s.rackRx ∧
    ((serveCounter a s).1).campusRx = s.campusRx ∧ ((serveCounter a s).1).engine = s.engine ∧
    ((serveCounter a s).1).status.heldZeroized = s.status.heldZeroized ∧
    ((serveCounter a s).1).status.replies = s.status.replies ∧
    ((serveCounter a s).1).status.offered = s.status.offered ∧
    ((serveCounter a s).1).status.lastOffered = s.status.lastOffered ∧
    ((serveCounter a s).1).freeIndex = s.freeIndex ∧ ((serveCounter a s).1).pending = s.pending := by
  simp only [serveCounter]
  (repeat' split) <;> simp

@[simp] theorem checkFrame_frame (d : Descriptor) (s : State) :
    ((checkFrame d s).1).device = s.device ∧ ((checkFrame d s).1).time = s.time ∧
    ((checkFrame d s).1).station = s.station ∧ ((checkFrame d s).1).readBuffer = s.readBuffer ∧
    ((checkFrame d s).1).serial = s.serial ∧ ((checkFrame d s).1).image = s.image ∧
    ((checkFrame d s).1).zeroizeLatch = s.zeroizeLatch ∧ ((checkFrame d s).1).segMap = s.segMap ∧
    ((checkFrame d s).1).bus.errorCount = s.bus.errorCount ∧ ((checkFrame d s).1).bus.quiet = s.bus.quiet ∧
    ((checkFrame d s).1).bus.noAck = s.bus.noAck ∧ ((checkFrame d s).1).bus.backoff = s.bus.backoff ∧
    ((checkFrame d s).1).bus.settleTimer = s.bus.settleTimer ∧ ((checkFrame d s).1).bus.idleSeen = s.bus.idleSeen ∧
    ((checkFrame d s).1).buf.queues = s.buf.queues ∧ ((checkFrame d s).1).buf.queueCells = s.buf.queueCells ∧
    ((checkFrame d s).1).disp.park = s.disp.park ∧ ((checkFrame d s).1).disp.parkedCells = s.disp.parkedCells ∧
    ((checkFrame d s).1).campus = s.campus ∧ ((checkFrame d s).1).rack = s.rack ∧
    ((checkFrame d s).1).rackRx = s.rackRx ∧ ((checkFrame d s).1).campusRx = s.campusRx ∧
    ((checkFrame d s).1).engine = s.engine ∧ ((checkFrame d s).1).status.heldZeroized = s.status.heldZeroized ∧
    ((checkFrame d s).1).status.replies = s.status.replies ∧ ((checkFrame d s).1).status.offered = s.status.offered ∧
    ((checkFrame d s).1).status.lastOffered = s.status.lastOffered ∧ ((checkFrame d s).1).freeIndex = s.freeIndex ∧
    ((checkFrame d s).1).pending = s.pending := by
  unfold checkFrame
  (repeat' split) <;> simp

@[simp] theorem dropFrame_frame (h : Nat) (d : Descriptor) (c : ExcClass) (v : Nat) (s : State) :
    (dropFrame h d c v s).device = s.device ∧ (dropFrame h d c v s).time = s.time ∧
    (dropFrame h d c v s).station = s.station ∧ (dropFrame h d c v s).readBuffer = s.readBuffer ∧
    (dropFrame h d c v s).serial = s.serial ∧ (dropFrame h d c v s).image = s.image ∧
    (dropFrame h d c v s).zeroizeLatch = s.zeroizeLatch ∧ (dropFrame h d c v s).assocs = s.assocs ∧
    (dropFrame h d c v s).keys = s.keys ∧ (dropFrame h d c v s).segMap = s.segMap ∧
    (dropFrame h d c v s).bus = s.bus ∧ (dropFrame h d c v s).buf.queues = s.buf.queues ∧
    (dropFrame h d c v s).buf.queueCells = s.buf.queueCells ∧ (dropFrame h d c v s).disp = s.disp ∧
    (dropFrame h d c v s).lanes = s.lanes ∧ (dropFrame h d c v s).campus = s.campus ∧
    (dropFrame h d c v s).rack = s.rack ∧ (dropFrame h d c v s).rackRx = s.rackRx ∧
    (dropFrame h d c v s).campusRx = s.campusRx ∧ (dropFrame h d c v s).engine = s.engine ∧
    (dropFrame h d c v s).status.heldZeroized = s.status.heldZeroized ∧
    (dropFrame h d c v s).status.replies = s.status.replies ∧
    (dropFrame h d c v s).status.offered = s.status.offered ∧
    (dropFrame h d c v s).status.lastOffered = s.status.lastOffered ∧ (dropFrame h d c v s).freeIndex = s.freeIndex ∧
    (dropFrame h d c v s).pending = s.pending := by
  unfold dropFrame
  (repeat' split) <;> simp

@[simp] theorem handOff_frame (h : Nat) (d : Descriptor) (x : Option Assigned) (s : State) :
    (handOff h d x s).device = s.device ∧ (handOff h d x s).time = s.time ∧ (handOff h d x s).station = s.station ∧
    (handOff h d x s).readBuffer = s.readBuffer ∧ (handOff h d x s).serial = s.serial ∧
    (handOff h d x s).image = s.image ∧ (handOff h d x s).zeroizeLatch = s.zeroizeLatch ∧
    (handOff h d x s).assocs = s.assocs ∧ (handOff h d x s).keys = s.keys ∧ (handOff h d x s).segMap = s.segMap ∧
    (handOff h d x s).bus = s.bus ∧ (handOff h d x s).buf.freeCells = s.buf.freeCells ∧
    (handOff h d x s).buf.queues = s.buf.queues ∧ (handOff h d x s).buf.queueCells = s.buf.queueCells ∧
    (handOff h d x s).buf.pausing = s.buf.pausing ∧ (handOff h d x s).buf.pauseRequest = s.buf.pauseRequest ∧
    (handOff h d x s).buf.repeatTimer = s.buf.repeatTimer ∧ (handOff h d x s).buf.leftover = s.buf.leftover ∧
    (handOff h d x s).disp = s.disp ∧ (handOff h d x s).campus = s.campus ∧ (handOff h d x s).rack = s.rack ∧
    (handOff h d x s).rackRx = s.rackRx ∧ (handOff h d x s).campusRx = s.campusRx ∧
    (handOff h d x s).engine = s.engine ∧ (handOff h d x s).status = s.status ∧
    (handOff h d x s).counters = s.counters ∧ (handOff h d x s).freeIndex = s.freeIndex ∧
    (handOff h d x s).pending = s.pending := by
  unfold handOff
  (repeat' split) <;> simp

@[simp] theorem sendToLane_frame (a : Fin 64) (h : Nat) (d : Descriptor) (s : State) :
    (sendToLane a h d s).device = s.device ∧ (sendToLane a h d s).time = s.time ∧
    (sendToLane a h d s).station = s.station ∧ (sendToLane a h d s).readBuffer = s.readBuffer ∧
    (sendToLane a h d s).serial = s.serial ∧ (sendToLane a h d s).image = s.image ∧
    (sendToLane a h d s).zeroizeLatch = s.zeroizeLatch ∧ (sendToLane a h d s).segMap = s.segMap ∧
    (sendToLane a h d s).bus.errorCount = s.bus.errorCount ∧ (sendToLane a h d s).bus.quiet = s.bus.quiet ∧
    (sendToLane a h d s).bus.noAck = s.bus.noAck ∧ (sendToLane a h d s).bus.backoff = s.bus.backoff ∧
    (sendToLane a h d s).bus.settleTimer = s.bus.settleTimer ∧ (sendToLane a h d s).bus.idleSeen = s.bus.idleSeen ∧
    (sendToLane a h d s).buf.queues = s.buf.queues ∧ (sendToLane a h d s).buf.queueCells = s.buf.queueCells ∧
    (sendToLane a h d s).disp.park = s.disp.park ∧ (sendToLane a h d s).disp.parkedCells = s.disp.parkedCells ∧
    (sendToLane a h d s).campus = s.campus ∧ (sendToLane a h d s).rack = s.rack ∧
    (sendToLane a h d s).rackRx = s.rackRx ∧ (sendToLane a h d s).campusRx = s.campusRx ∧
    (sendToLane a h d s).engine = s.engine ∧ (sendToLane a h d s).status.heldZeroized = s.status.heldZeroized ∧
    (sendToLane a h d s).status.replies = s.status.replies ∧ (sendToLane a h d s).status.offered = s.status.offered ∧
    (sendToLane a h d s).status.lastOffered = s.status.lastOffered ∧ (sendToLane a h d s).freeIndex = s.freeIndex ∧
    (sendToLane a h d s).pending = s.pending := by
  simp [sendToLane]

@[simp] theorem parkFrame_frame (a : Fin 64) (h : Nat) (d : Descriptor) (c : ExcClass) (b : Bool) (s : State) :
    (parkFrame a h d c b s).device = s.device ∧ (parkFrame a h d c b s).time = s.time ∧
    (parkFrame a h d c b s).station = s.station ∧ (parkFrame a h d c b s).readBuffer = s.readBuffer ∧
    (parkFrame a h d c b s).serial = s.serial ∧ (parkFrame a h d c b s).image = s.image ∧
    (parkFrame a h d c b s).zeroizeLatch = s.zeroizeLatch ∧ (parkFrame a h d c b s).assocs = s.assocs ∧
    (parkFrame a h d c b s).keys = s.keys ∧ (parkFrame a h d c b s).segMap = s.segMap ∧
    (parkFrame a h d c b s).bus = s.bus ∧ (parkFrame a h d c b s).buf.queues = s.buf.queues ∧
    (parkFrame a h d c b s).buf.queueCells = s.buf.queueCells ∧
    (parkFrame a h d c b s).disp.queueState = s.disp.queueState ∧ (parkFrame a h d c b s).disp.marks = s.disp.marks ∧
    (parkFrame a h d c b s).lanes = s.lanes ∧ (parkFrame a h d c b s).campus = s.campus ∧
    (parkFrame a h d c b s).rack = s.rack ∧ (parkFrame a h d c b s).rackRx = s.rackRx ∧
    (parkFrame a h d c b s).campusRx = s.campusRx ∧ (parkFrame a h d c b s).engine = s.engine ∧
    (parkFrame a h d c b s).status.heldZeroized = s.status.heldZeroized ∧
    (parkFrame a h d c b s).status.replies = s.status.replies ∧
    (parkFrame a h d c b s).status.offered = s.status.offered ∧
    (parkFrame a h d c b s).status.lastOffered = s.status.lastOffered ∧
    (parkFrame a h d c b s).freeIndex = s.freeIndex ∧ (parkFrame a h d c b s).pending = s.pending := by
  unfold parkFrame
  (repeat' split) <;> simp

@[simp] theorem unpark_frame (h n : Nat) (s : State) :
    (unpark h n s).device = s.device ∧ (unpark h n s).time = s.time ∧ (unpark h n s).station = s.station ∧
    (unpark h n s).readBuffer = s.readBuffer ∧ (unpark h n s).serial = s.serial ∧ (unpark h n s).image = s.image ∧
    (unpark h n s).zeroizeLatch = s.zeroizeLatch ∧ (unpark h n s).assocs = s.assocs ∧ (unpark h n s).keys = s.keys ∧
    (unpark h n s).segMap = s.segMap ∧ (unpark h n s).bus = s.bus ∧ (unpark h n s).buf = s.buf ∧
    (unpark h n s).disp.queueState = s.disp.queueState ∧ (unpark h n s).disp.marks = s.disp.marks ∧
    (unpark h n s).lanes = s.lanes ∧ (unpark h n s).campus = s.campus ∧ (unpark h n s).rack = s.rack ∧
    (unpark h n s).rackRx = s.rackRx ∧ (unpark h n s).campusRx = s.campusRx ∧ (unpark h n s).engine = s.engine ∧
    (unpark h n s).status = s.status ∧ (unpark h n s).counters = s.counters ∧ (unpark h n s).freeIndex = s.freeIndex ∧
    (unpark h n s).pending = s.pending := by
  simp [unpark]

@[simp] theorem repark_frame (e : ParkEntry) (c : ExcClass) (s : State) :
    (repark e c s).device = s.device ∧ (repark e c s).time = s.time ∧ (repark e c s).station = s.station ∧
    (repark e c s).readBuffer = s.readBuffer ∧ (repark e c s).serial = s.serial ∧ (repark e c s).image = s.image ∧
    (repark e c s).zeroizeLatch = s.zeroizeLatch ∧ (repark e c s).assocs = s.assocs ∧ (repark e c s).keys = s.keys ∧
    (repark e c s).segMap = s.segMap ∧ (repark e c s).bus = s.bus ∧ (repark e c s).buf = s.buf ∧
    (repark e c s).disp.parkedCells = s.disp.parkedCells ∧ (repark e c s).disp.queueState = s.disp.queueState ∧
    (repark e c s).disp.marks = s.disp.marks ∧ (repark e c s).lanes = s.lanes ∧ (repark e c s).campus = s.campus ∧
    (repark e c s).rack = s.rack ∧ (repark e c s).rackRx = s.rackRx ∧ (repark e c s).campusRx = s.campusRx ∧
    (repark e c s).engine = s.engine ∧ (repark e c s).status.heldZeroized = s.status.heldZeroized ∧
    (repark e c s).status.replies = s.status.replies ∧ (repark e c s).status.offered = s.status.offered ∧
    (repark e c s).status.lastOffered = s.status.lastOffered ∧ (repark e c s).freeIndex = s.freeIndex ∧
    (repark e c s).pending = s.pending := by
  simp only [repark]
  split <;> simp

@[simp] theorem takeHead_frame (q : Fin 8) (r : List Nat) (n : Nat) (s : State) :
    (takeHead q r n s).device = s.device ∧ (takeHead q r n s).time = s.time ∧ (takeHead q r n s).station = s.station ∧
    (takeHead q r n s).readBuffer = s.readBuffer ∧ (takeHead q r n s).serial = s.serial ∧
    (takeHead q r n s).image = s.image ∧ (takeHead q r n s).zeroizeLatch = s.zeroizeLatch ∧
    (takeHead q r n s).assocs = s.assocs ∧ (takeHead q r n s).keys = s.keys ∧ (takeHead q r n s).segMap = s.segMap ∧
    (takeHead q r n s).bus = s.bus ∧ (takeHead q r n s).buf.pool = s.buf.pool ∧
    (takeHead q r n s).buf.freeCells = s.buf.freeCells ∧ (takeHead q r n s).buf.pausing = s.buf.pausing ∧
    (takeHead q r n s).buf.pauseRequest = s.buf.pauseRequest ∧
    (takeHead q r n s).buf.repeatTimer = s.buf.repeatTimer ∧ (takeHead q r n s).buf.leftover = s.buf.leftover ∧
    (takeHead q r n s).disp = s.disp ∧ (takeHead q r n s).lanes = s.lanes ∧ (takeHead q r n s).campus = s.campus ∧
    (takeHead q r n s).rack = s.rack ∧ (takeHead q r n s).rackRx = s.rackRx ∧
    (takeHead q r n s).campusRx = s.campusRx ∧ (takeHead q r n s).engine = s.engine ∧
    (takeHead q r n s).status = s.status ∧ (takeHead q r n s).counters = s.counters ∧
    (takeHead q r n s).freeIndex = s.freeIndex ∧ (takeHead q r n s).pending = s.pending := by
  simp [takeHead]

@[simp] theorem settleQueued_frame (h : Nat) (d : Descriptor) (r : State × Verdict) :
    (settleQueued h d r).device = r.1.device ∧ (settleQueued h d r).time = r.1.time ∧
    (settleQueued h d r).station = r.1.station ∧ (settleQueued h d r).readBuffer = r.1.readBuffer ∧
    (settleQueued h d r).serial = r.1.serial ∧ (settleQueued h d r).image = r.1.image ∧
    (settleQueued h d r).zeroizeLatch = r.1.zeroizeLatch ∧ (settleQueued h d r).segMap = r.1.segMap ∧
    (settleQueued h d r).bus.errorCount = r.1.bus.errorCount ∧ (settleQueued h d r).bus.quiet = r.1.bus.quiet ∧
    (settleQueued h d r).bus.noAck = r.1.bus.noAck ∧ (settleQueued h d r).bus.backoff = r.1.bus.backoff ∧
    (settleQueued h d r).bus.settleTimer = r.1.bus.settleTimer ∧
    (settleQueued h d r).bus.idleSeen = r.1.bus.idleSeen ∧ (settleQueued h d r).buf.queues = r.1.buf.queues ∧
    (settleQueued h d r).buf.queueCells = r.1.buf.queueCells ∧ (settleQueued h d r).campus = r.1.campus ∧
    (settleQueued h d r).rack = r.1.rack ∧ (settleQueued h d r).rackRx = r.1.rackRx ∧
    (settleQueued h d r).campusRx = r.1.campusRx ∧ (settleQueued h d r).engine = r.1.engine ∧
    (settleQueued h d r).status.heldZeroized = r.1.status.heldZeroized ∧
    (settleQueued h d r).status.replies = r.1.status.replies ∧
    (settleQueued h d r).status.offered = r.1.status.offered ∧
    (settleQueued h d r).status.lastOffered = r.1.status.lastOffered ∧
    (settleQueued h d r).freeIndex = r.1.freeIndex ∧ (settleQueued h d r).pending = r.1.pending := by
  unfold settleQueued
  (repeat' split) <;> simp

@[simp] theorem dispatchQueued_frame (q : Fin 8) (h : Nat) (r : List Nat) (s : State) :
    (dispatchQueued q h r s).device = s.device ∧ (dispatchQueued q h r s).time = s.time ∧
    (dispatchQueued q h r s).station = s.station ∧ (dispatchQueued q h r s).readBuffer = s.readBuffer ∧
    (dispatchQueued q h r s).serial = s.serial ∧ (dispatchQueued q h r s).image = s.image ∧
    (dispatchQueued q h r s).zeroizeLatch = s.zeroizeLatch ∧ (dispatchQueued q h r s).segMap = s.segMap ∧
    (dispatchQueued q h r s).bus.errorCount = s.bus.errorCount ∧ (dispatchQueued q h r s).bus.quiet = s.bus.quiet ∧
    (dispatchQueued q h r s).bus.noAck = s.bus.noAck ∧ (dispatchQueued q h r s).bus.backoff = s.bus.backoff ∧
    (dispatchQueued q h r s).bus.settleTimer = s.bus.settleTimer ∧
    (dispatchQueued q h r s).bus.idleSeen = s.bus.idleSeen ∧ (dispatchQueued q h r s).campus = s.campus ∧
    (dispatchQueued q h r s).rack = s.rack ∧ (dispatchQueued q h r s).rackRx = s.rackRx ∧
    (dispatchQueued q h r s).campusRx = s.campusRx ∧ (dispatchQueued q h r s).engine = s.engine ∧
    (dispatchQueued q h r s).status.heldZeroized = s.status.heldZeroized ∧
    (dispatchQueued q h r s).status.replies = s.status.replies ∧
    (dispatchQueued q h r s).status.offered = s.status.offered ∧
    (dispatchQueued q h r s).status.lastOffered = s.status.lastOffered ∧
    (dispatchQueued q h r s).freeIndex = s.freeIndex ∧ (dispatchQueued q h r s).pending = s.pending := by
  unfold dispatchQueued
  split
  · simp
  · dsimp only
    split <;> simp

@[simp] theorem settleParked_frame (e : ParkEntry) (d : Descriptor) (r : State × Verdict) :
    (settleParked e d r).device = r.1.device ∧ (settleParked e d r).time = r.1.time ∧
    (settleParked e d r).station = r.1.station ∧ (settleParked e d r).readBuffer = r.1.readBuffer ∧
    (settleParked e d r).serial = r.1.serial ∧ (settleParked e d r).image = r.1.image ∧
    (settleParked e d r).zeroizeLatch = r.1.zeroizeLatch ∧ (settleParked e d r).segMap = r.1.segMap ∧
    (settleParked e d r).bus.errorCount = r.1.bus.errorCount ∧ (settleParked e d r).bus.quiet = r.1.bus.quiet ∧
    (settleParked e d r).bus.noAck = r.1.bus.noAck ∧ (settleParked e d r).bus.backoff = r.1.bus.backoff ∧
    (settleParked e d r).bus.settleTimer = r.1.bus.settleTimer ∧
    (settleParked e d r).bus.idleSeen = r.1.bus.idleSeen ∧ (settleParked e d r).buf.queues = r.1.buf.queues ∧
    (settleParked e d r).buf.queueCells = r.1.buf.queueCells ∧ (settleParked e d r).campus = r.1.campus ∧
    (settleParked e d r).rack = r.1.rack ∧ (settleParked e d r).rackRx = r.1.rackRx ∧
    (settleParked e d r).campusRx = r.1.campusRx ∧ (settleParked e d r).engine = r.1.engine ∧
    (settleParked e d r).status.heldZeroized = r.1.status.heldZeroized ∧
    (settleParked e d r).status.replies = r.1.status.replies ∧
    (settleParked e d r).status.offered = r.1.status.offered ∧
    (settleParked e d r).status.lastOffered = r.1.status.lastOffered ∧
    (settleParked e d r).freeIndex = r.1.freeIndex ∧ (settleParked e d r).pending = r.1.pending := by
  unfold settleParked
  (repeat' split) <;> simp

@[simp] theorem dispatchParked_frame (e : ParkEntry) (s : State) :
    (dispatchParked e s).device = s.device ∧ (dispatchParked e s).time = s.time ∧
    (dispatchParked e s).station = s.station ∧ (dispatchParked e s).readBuffer = s.readBuffer ∧
    (dispatchParked e s).serial = s.serial ∧ (dispatchParked e s).image = s.image ∧
    (dispatchParked e s).zeroizeLatch = s.zeroizeLatch ∧ (dispatchParked e s).segMap = s.segMap ∧
    (dispatchParked e s).bus.errorCount = s.bus.errorCount ∧ (dispatchParked e s).bus.quiet = s.bus.quiet ∧
    (dispatchParked e s).bus.noAck = s.bus.noAck ∧ (dispatchParked e s).bus.backoff = s.bus.backoff ∧
    (dispatchParked e s).bus.settleTimer = s.bus.settleTimer ∧ (dispatchParked e s).bus.idleSeen = s.bus.idleSeen ∧
    (dispatchParked e s).buf.queues = s.buf.queues ∧ (dispatchParked e s).buf.queueCells = s.buf.queueCells ∧
    (dispatchParked e s).campus = s.campus ∧ (dispatchParked e s).rack = s.rack ∧
    (dispatchParked e s).rackRx = s.rackRx ∧ (dispatchParked e s).campusRx = s.campusRx ∧
    (dispatchParked e s).engine = s.engine ∧ (dispatchParked e s).status.heldZeroized = s.status.heldZeroized ∧
    (dispatchParked e s).status.replies = s.status.replies ∧ (dispatchParked e s).status.offered = s.status.offered ∧
    (dispatchParked e s).status.lastOffered = s.status.lastOffered ∧ (dispatchParked e s).freeIndex = s.freeIndex ∧
    (dispatchParked e s).pending = s.pending := by
  unfold dispatchParked
  (repeat' split) <;> simp

@[simp] theorem dispatchCandidate_frame (c : Candidate) (s : State) :
    (dispatchCandidate c s).device = s.device ∧ (dispatchCandidate c s).time = s.time ∧
    (dispatchCandidate c s).station = s.station ∧ (dispatchCandidate c s).readBuffer = s.readBuffer ∧
    (dispatchCandidate c s).serial = s.serial ∧ (dispatchCandidate c s).image = s.image ∧
    (dispatchCandidate c s).zeroizeLatch = s.zeroizeLatch ∧ (dispatchCandidate c s).segMap = s.segMap ∧
    (dispatchCandidate c s).bus.errorCount = s.bus.errorCount ∧ (dispatchCandidate c s).bus.quiet = s.bus.quiet ∧
    (dispatchCandidate c s).bus.noAck = s.bus.noAck ∧ (dispatchCandidate c s).bus.backoff = s.bus.backoff ∧
    (dispatchCandidate c s).bus.settleTimer = s.bus.settleTimer ∧
    (dispatchCandidate c s).bus.idleSeen = s.bus.idleSeen ∧ (dispatchCandidate c s).campus = s.campus ∧
    (dispatchCandidate c s).rack = s.rack ∧ (dispatchCandidate c s).rackRx = s.rackRx ∧
    (dispatchCandidate c s).campusRx = s.campusRx ∧ (dispatchCandidate c s).engine = s.engine ∧
    (dispatchCandidate c s).status.heldZeroized = s.status.heldZeroized ∧
    (dispatchCandidate c s).status.replies = s.status.replies ∧
    (dispatchCandidate c s).status.offered = s.status.offered ∧
    (dispatchCandidate c s).status.lastOffered = s.status.lastOffered ∧
    (dispatchCandidate c s).freeIndex = s.freeIndex ∧ (dispatchCandidate c s).pending = s.pending := by
  unfold dispatchCandidate
  (repeat' split) <;> simp

@[simp] theorem timeoutEntry_frame (e : ParkEntry) (s : State) :
    (timeoutEntry e s).device = s.device ∧ (timeoutEntry e s).time = s.time ∧ (timeoutEntry e s).station = s.station ∧
    (timeoutEntry e s).readBuffer = s.readBuffer ∧ (timeoutEntry e s).serial = s.serial ∧
    (timeoutEntry e s).image = s.image ∧ (timeoutEntry e s).zeroizeLatch = s.zeroizeLatch ∧
    (timeoutEntry e s).assocs = s.assocs ∧ (timeoutEntry e s).keys = s.keys ∧ (timeoutEntry e s).segMap = s.segMap ∧
    (timeoutEntry e s).bus = s.bus ∧ (timeoutEntry e s).buf.queues = s.buf.queues ∧
    (timeoutEntry e s).buf.queueCells = s.buf.queueCells ∧ (timeoutEntry e s).disp.queueState = s.disp.queueState ∧
    (timeoutEntry e s).disp.marks = s.disp.marks ∧ (timeoutEntry e s).lanes = s.lanes ∧
    (timeoutEntry e s).campus = s.campus ∧ (timeoutEntry e s).rack = s.rack ∧ (timeoutEntry e s).rackRx = s.rackRx ∧
    (timeoutEntry e s).campusRx = s.campusRx ∧ (timeoutEntry e s).engine = s.engine ∧
    (timeoutEntry e s).status.heldZeroized = s.status.heldZeroized ∧
    (timeoutEntry e s).status.replies = s.status.replies ∧ (timeoutEntry e s).status.offered = s.status.offered ∧
    (timeoutEntry e s).status.lastOffered = s.status.lastOffered ∧ (timeoutEntry e s).freeIndex = s.freeIndex ∧
    (timeoutEntry e s).pending = s.pending := by
  unfold timeoutEntry
  (repeat' split) <;> simp

@[simp] theorem removeFromQueue_frame (a : Fin 64) (s : State) (q : Fin 8) :
    (removeFromQueue a s q).device = s.device ∧ (removeFromQueue a s q).time = s.time ∧
    (removeFromQueue a s q).station = s.station ∧ (removeFromQueue a s q).readBuffer = s.readBuffer ∧
    (removeFromQueue a s q).serial = s.serial ∧ (removeFromQueue a s q).image = s.image ∧
    (removeFromQueue a s q).zeroizeLatch = s.zeroizeLatch ∧ (removeFromQueue a s q).assocs = s.assocs ∧
    (removeFromQueue a s q).keys = s.keys ∧ (removeFromQueue a s q).segMap = s.segMap ∧
    (removeFromQueue a s q).bus = s.bus ∧ (removeFromQueue a s q).buf.pool = s.buf.pool ∧
    (removeFromQueue a s q).buf.freeCells = s.buf.freeCells ∧ (removeFromQueue a s q).buf.pausing = s.buf.pausing ∧
    (removeFromQueue a s q).buf.pauseRequest = s.buf.pauseRequest ∧
    (removeFromQueue a s q).buf.repeatTimer = s.buf.repeatTimer ∧
    (removeFromQueue a s q).buf.leftover = s.buf.leftover ∧ (removeFromQueue a s q).disp = s.disp ∧
    (removeFromQueue a s q).lanes = s.lanes ∧ (removeFromQueue a s q).campus = s.campus ∧
    (removeFromQueue a s q).rack = s.rack ∧ (removeFromQueue a s q).rackRx = s.rackRx ∧
    (removeFromQueue a s q).campusRx = s.campusRx ∧ (removeFromQueue a s q).engine = s.engine ∧
    (removeFromQueue a s q).status = s.status ∧ (removeFromQueue a s q).counters = s.counters ∧
    (removeFromQueue a s q).freeIndex = s.freeIndex ∧ (removeFromQueue a s q).pending = s.pending := by
  simp [removeFromQueue]

@[simp] theorem removeFromQueues_frame (a : Fin 64) (l : List (Fin 8)) (s : State) :
    (l.foldl (removeFromQueue a) s).device = s.device ∧ (l.foldl (removeFromQueue a) s).time = s.time ∧
    (l.foldl (removeFromQueue a) s).station = s.station ∧ (l.foldl (removeFromQueue a) s).readBuffer = s.readBuffer ∧
    (l.foldl (removeFromQueue a) s).serial = s.serial ∧ (l.foldl (removeFromQueue a) s).image = s.image ∧
    (l.foldl (removeFromQueue a) s).zeroizeLatch = s.zeroizeLatch ∧
    (l.foldl (removeFromQueue a) s).assocs = s.assocs ∧ (l.foldl (removeFromQueue a) s).keys = s.keys ∧
    (l.foldl (removeFromQueue a) s).segMap = s.segMap ∧ (l.foldl (removeFromQueue a) s).bus = s.bus ∧
    (l.foldl (removeFromQueue a) s).buf.pool = s.buf.pool ∧
    (l.foldl (removeFromQueue a) s).buf.freeCells = s.buf.freeCells ∧
    (l.foldl (removeFromQueue a) s).buf.pausing = s.buf.pausing ∧
    (l.foldl (removeFromQueue a) s).buf.pauseRequest = s.buf.pauseRequest ∧
    (l.foldl (removeFromQueue a) s).buf.repeatTimer = s.buf.repeatTimer ∧
    (l.foldl (removeFromQueue a) s).buf.leftover = s.buf.leftover ∧ (l.foldl (removeFromQueue a) s).disp = s.disp ∧
    (l.foldl (removeFromQueue a) s).lanes = s.lanes ∧ (l.foldl (removeFromQueue a) s).campus = s.campus ∧
    (l.foldl (removeFromQueue a) s).rack = s.rack ∧ (l.foldl (removeFromQueue a) s).rackRx = s.rackRx ∧
    (l.foldl (removeFromQueue a) s).campusRx = s.campusRx ∧ (l.foldl (removeFromQueue a) s).engine = s.engine ∧
    (l.foldl (removeFromQueue a) s).status = s.status ∧ (l.foldl (removeFromQueue a) s).counters = s.counters ∧
    (l.foldl (removeFromQueue a) s).freeIndex = s.freeIndex ∧ (l.foldl (removeFromQueue a) s).pending = s.pending := by
  induction l generalizing s with
  | nil => simp
  | cons x l ih => simp [ih]

@[simp] theorem removeFromPark_frame (a : Fin 64) (s : State) :
    (removeFromPark a s).device = s.device ∧ (removeFromPark a s).time = s.time ∧
    (removeFromPark a s).station = s.station ∧ (removeFromPark a s).readBuffer = s.readBuffer ∧
    (removeFromPark a s).serial = s.serial ∧ (removeFromPark a s).image = s.image ∧
    (removeFromPark a s).zeroizeLatch = s.zeroizeLatch ∧ (removeFromPark a s).assocs = s.assocs ∧
    (removeFromPark a s).keys = s.keys ∧ (removeFromPark a s).segMap = s.segMap ∧ (removeFromPark a s).bus = s.bus ∧
    (removeFromPark a s).buf = s.buf ∧ (removeFromPark a s).disp.queueState = s.disp.queueState ∧
    (removeFromPark a s).disp.marks = s.disp.marks ∧ (removeFromPark a s).lanes = s.lanes ∧
    (removeFromPark a s).campus = s.campus ∧ (removeFromPark a s).rack = s.rack ∧
    (removeFromPark a s).rackRx = s.rackRx ∧ (removeFromPark a s).campusRx = s.campusRx ∧
    (removeFromPark a s).engine = s.engine ∧ (removeFromPark a s).status = s.status ∧
    (removeFromPark a s).counters = s.counters ∧ (removeFromPark a s).freeIndex = s.freeIndex ∧
    (removeFromPark a s).pending = s.pending := by
  simp [removeFromPark]

@[simp] theorem releaseEach_frame (l : List Nat) (s : State) :
    (releaseEach l s).device = s.device ∧ (releaseEach l s).time = s.time ∧ (releaseEach l s).station = s.station ∧
    (releaseEach l s).readBuffer = s.readBuffer ∧ (releaseEach l s).serial = s.serial ∧ (releaseEach l s).image = s.image ∧
    (releaseEach l s).zeroizeLatch = s.zeroizeLatch ∧ (releaseEach l s).assocs = s.assocs ∧ (releaseEach l s).keys = s.keys ∧
    (releaseEach l s).segMap = s.segMap ∧ (releaseEach l s).bus = s.bus ∧ (releaseEach l s).buf.queues = s.buf.queues ∧
    (releaseEach l s).buf.queueCells = s.buf.queueCells ∧ (releaseEach l s).disp = s.disp ∧
    (releaseEach l s).lanes = s.lanes ∧ (releaseEach l s).campus = s.campus ∧ (releaseEach l s).rack = s.rack ∧
    (releaseEach l s).rackRx = s.rackRx ∧ (releaseEach l s).campusRx = s.campusRx ∧ (releaseEach l s).engine = s.engine ∧
    (releaseEach l s).status = s.status ∧ (releaseEach l s).counters = s.counters ∧
    (releaseEach l s).freeIndex = s.freeIndex ∧ (releaseEach l s).pending = s.pending := by
  unfold releaseEach
  induction l generalizing s with
  | nil => simp
  | cons x l ih => simp [ih]

@[simp] theorem removeFrames_frame (a : Fin 64) (s : State) :
    (removeFrames a s).device = s.device ∧ (removeFrames a s).time = s.time ∧ (removeFrames a s).station = s.station ∧
    (removeFrames a s).readBuffer = s.readBuffer ∧ (removeFrames a s).serial = s.serial ∧
    (removeFrames a s).image = s.image ∧ (removeFrames a s).zeroizeLatch = s.zeroizeLatch ∧
    (removeFrames a s).assocs = s.assocs ∧ (removeFrames a s).keys = s.keys ∧ (removeFrames a s).segMap = s.segMap ∧
    (removeFrames a s).bus = s.bus ∧ (removeFrames a s).disp.queueState = s.disp.queueState ∧
    (removeFrames a s).disp.marks = s.disp.marks ∧ (removeFrames a s).lanes = s.lanes ∧
    (removeFrames a s).campus = s.campus ∧ (removeFrames a s).rack = s.rack ∧ (removeFrames a s).rackRx = s.rackRx ∧
    (removeFrames a s).campusRx = s.campusRx ∧ (removeFrames a s).engine = s.engine ∧
    (removeFrames a s).status = s.status ∧ (removeFrames a s).counters = s.counters ∧
    (removeFrames a s).freeIndex = s.freeIndex ∧ (removeFrames a s).pending = s.pending := by
  simp [removeFrames]

@[simp] theorem abortLane_frame (a : Fin 64) (s : State) (l : Fin 4) :
    (abortLane a s l).device = s.device ∧ (abortLane a s l).time = s.time ∧ (abortLane a s l).station = s.station ∧
    (abortLane a s l).readBuffer = s.readBuffer ∧ (abortLane a s l).serial = s.serial ∧
    (abortLane a s l).image = s.image ∧ (abortLane a s l).zeroizeLatch = s.zeroizeLatch ∧
    (abortLane a s l).assocs = s.assocs ∧ (abortLane a s l).keys = s.keys ∧ (abortLane a s l).segMap = s.segMap ∧
    (abortLane a s l).bus = s.bus ∧ (abortLane a s l).buf.queues = s.buf.queues ∧
    (abortLane a s l).buf.queueCells = s.buf.queueCells ∧ (abortLane a s l).disp.park = s.disp.park ∧
    (abortLane a s l).disp.parkedCells = s.disp.parkedCells ∧ (abortLane a s l).disp.marks = s.disp.marks ∧
    (abortLane a s l).campus = s.campus ∧ (abortLane a s l).rack = s.rack ∧ (abortLane a s l).rackRx = s.rackRx ∧
    (abortLane a s l).campusRx = s.campusRx ∧ (abortLane a s l).engine = s.engine ∧
    (abortLane a s l).status.heldZeroized = s.status.heldZeroized ∧
    (abortLane a s l).status.replies = s.status.replies ∧ (abortLane a s l).status.offered = s.status.offered ∧
    (abortLane a s l).status.lastOffered = s.status.lastOffered ∧ (abortLane a s l).freeIndex = s.freeIndex ∧
    (abortLane a s l).pending = s.pending := by
  simp [abortLane]

@[simp] theorem abortLanes_frame (a : Fin 64) (l : List (Fin 4)) (s : State) :
    (l.foldl (abortLane a) s).device = s.device ∧ (l.foldl (abortLane a) s).time = s.time ∧
    (l.foldl (abortLane a) s).station = s.station ∧ (l.foldl (abortLane a) s).readBuffer = s.readBuffer ∧
    (l.foldl (abortLane a) s).serial = s.serial ∧ (l.foldl (abortLane a) s).image = s.image ∧
    (l.foldl (abortLane a) s).zeroizeLatch = s.zeroizeLatch ∧ (l.foldl (abortLane a) s).assocs = s.assocs ∧
    (l.foldl (abortLane a) s).keys = s.keys ∧ (l.foldl (abortLane a) s).segMap = s.segMap ∧
    (l.foldl (abortLane a) s).bus = s.bus ∧ (l.foldl (abortLane a) s).buf.queues = s.buf.queues ∧
    (l.foldl (abortLane a) s).buf.queueCells = s.buf.queueCells ∧ (l.foldl (abortLane a) s).disp.park = s.disp.park ∧
    (l.foldl (abortLane a) s).disp.parkedCells = s.disp.parkedCells ∧
    (l.foldl (abortLane a) s).disp.marks = s.disp.marks ∧ (l.foldl (abortLane a) s).campus = s.campus ∧
    (l.foldl (abortLane a) s).rack = s.rack ∧ (l.foldl (abortLane a) s).rackRx = s.rackRx ∧
    (l.foldl (abortLane a) s).campusRx = s.campusRx ∧ (l.foldl (abortLane a) s).engine = s.engine ∧
    (l.foldl (abortLane a) s).status.heldZeroized = s.status.heldZeroized ∧
    (l.foldl (abortLane a) s).status.replies = s.status.replies ∧
    (l.foldl (abortLane a) s).status.offered = s.status.offered ∧
    (l.foldl (abortLane a) s).status.lastOffered = s.status.lastOffered ∧
    (l.foldl (abortLane a) s).freeIndex = s.freeIndex ∧ (l.foldl (abortLane a) s).pending = s.pending := by
  induction l generalizing s with
  | nil => simp
  | cons x l ih => simp [ih]

@[simp] theorem failedKeyState_frame (a : Fin 64) (r : Role) (s : State) :
    (failedKeyState a r s).device = s.device ∧ (failedKeyState a r s).time = s.time ∧
    (failedKeyState a r s).station = s.station ∧ (failedKeyState a r s).readBuffer = s.readBuffer ∧
    (failedKeyState a r s).serial = s.serial ∧ (failedKeyState a r s).image = s.image ∧
    (failedKeyState a r s).zeroizeLatch = s.zeroizeLatch ∧ (failedKeyState a r s).keys = s.keys ∧
    (failedKeyState a r s).segMap = s.segMap ∧ (failedKeyState a r s).bus.errorCount = s.bus.errorCount ∧
    (failedKeyState a r s).bus.quiet = s.bus.quiet ∧ (failedKeyState a r s).bus.noAck = s.bus.noAck ∧
    (failedKeyState a r s).bus.backoff = s.bus.backoff ∧ (failedKeyState a r s).bus.settleTimer = s.bus.settleTimer ∧
    (failedKeyState a r s).bus.idleSeen = s.bus.idleSeen ∧ (failedKeyState a r s).buf = s.buf ∧
    (failedKeyState a r s).disp = s.disp ∧ (failedKeyState a r s).lanes = s.lanes ∧
    (failedKeyState a r s).campus = s.campus ∧ (failedKeyState a r s).rack = s.rack ∧
    (failedKeyState a r s).rackRx = s.rackRx ∧ (failedKeyState a r s).campusRx = s.campusRx ∧
    (failedKeyState a r s).engine = s.engine ∧ (failedKeyState a r s).status.heldZeroized = s.status.heldZeroized ∧
    (failedKeyState a r s).status.replies = s.status.replies ∧
    (failedKeyState a r s).status.offered = s.status.offered ∧
    (failedKeyState a r s).status.lastOffered = s.status.lastOffered ∧
    (failedKeyState a r s).freeIndex = s.freeIndex ∧ (failedKeyState a r s).pending = s.pending := by
  unfold failedKeyState
  (repeat' split) <;> simp

@[simp] theorem keyCheckFailure_frame (r : SlotRef) (s : State) :
    (keyCheckFailure r s).device = s.device ∧ (keyCheckFailure r s).time = s.time ∧
    (keyCheckFailure r s).station = s.station ∧ (keyCheckFailure r s).readBuffer = s.readBuffer ∧
    (keyCheckFailure r s).serial = s.serial ∧ (keyCheckFailure r s).image = s.image ∧
    (keyCheckFailure r s).zeroizeLatch = s.zeroizeLatch ∧ (keyCheckFailure r s).segMap = s.segMap ∧
    (keyCheckFailure r s).bus.errorCount = s.bus.errorCount ∧ (keyCheckFailure r s).bus.quiet = s.bus.quiet ∧
    (keyCheckFailure r s).bus.noAck = s.bus.noAck ∧ (keyCheckFailure r s).bus.backoff = s.bus.backoff ∧
    (keyCheckFailure r s).bus.settleTimer = s.bus.settleTimer ∧ (keyCheckFailure r s).bus.idleSeen = s.bus.idleSeen ∧
    (keyCheckFailure r s).buf.queues = s.buf.queues ∧ (keyCheckFailure r s).buf.queueCells = s.buf.queueCells ∧
    (keyCheckFailure r s).disp.park = s.disp.park ∧ (keyCheckFailure r s).disp.parkedCells = s.disp.parkedCells ∧
    (keyCheckFailure r s).disp.marks = s.disp.marks ∧ (keyCheckFailure r s).campus = s.campus ∧
    (keyCheckFailure r s).rack = s.rack ∧ (keyCheckFailure r s).rackRx = s.rackRx ∧
    (keyCheckFailure r s).campusRx = s.campusRx ∧ (keyCheckFailure r s).engine = s.engine ∧
    (keyCheckFailure r s).status.heldZeroized = s.status.heldZeroized ∧
    (keyCheckFailure r s).status.replies = s.status.replies ∧
    (keyCheckFailure r s).status.offered = s.status.offered ∧
    (keyCheckFailure r s).status.lastOffered = s.status.lastOffered ∧ (keyCheckFailure r s).freeIndex = s.freeIndex ∧
    (keyCheckFailure r s).pending = s.pending := by
  simp [keyCheckFailure]

@[simp] theorem finishEntry_frame (h : Nat) (x : List Byte) (s : State) :
    (finishEntry h x s).device = s.device ∧ (finishEntry h x s).time = s.time ∧
    (finishEntry h x s).station = s.station ∧ (finishEntry h x s).readBuffer = s.readBuffer ∧
    (finishEntry h x s).serial = s.serial ∧ (finishEntry h x s).image = s.image ∧
    (finishEntry h x s).zeroizeLatch = s.zeroizeLatch ∧ (finishEntry h x s).assocs = s.assocs ∧
    (finishEntry h x s).keys = s.keys ∧ (finishEntry h x s).segMap = s.segMap ∧ (finishEntry h x s).bus = s.bus ∧
    (finishEntry h x s).buf = s.buf ∧ (finishEntry h x s).disp = s.disp ∧
    (finishEntry h x s).lanes.lanes = s.lanes.lanes ∧ (finishEntry h x s).lanes.inFlight = s.lanes.inFlight ∧
    (finishEntry h x s).campus = s.campus ∧ (finishEntry h x s).rack = s.rack ∧
    (finishEntry h x s).rackRx = s.rackRx ∧ (finishEntry h x s).campusRx = s.campusRx ∧
    (finishEntry h x s).engine = s.engine ∧ (finishEntry h x s).status = s.status ∧
    (finishEntry h x s).counters = s.counters ∧ (finishEntry h x s).freeIndex = s.freeIndex ∧
    (finishEntry h x s).pending = s.pending := by
  simp [finishEntry]

@[simp] theorem writeCipherText_frame (h : Nat) (d : Descriptor) (k : BitVec 256) (s : State) :
    (writeCipherText h d k s).device = s.device ∧ (writeCipherText h d k s).time = s.time ∧
    (writeCipherText h d k s).station = s.station ∧ (writeCipherText h d k s).readBuffer = s.readBuffer ∧
    (writeCipherText h d k s).serial = s.serial ∧ (writeCipherText h d k s).image = s.image ∧
    (writeCipherText h d k s).zeroizeLatch = s.zeroizeLatch ∧ (writeCipherText h d k s).assocs = s.assocs ∧
    (writeCipherText h d k s).keys = s.keys ∧ (writeCipherText h d k s).segMap = s.segMap ∧
    (writeCipherText h d k s).bus = s.bus ∧ (writeCipherText h d k s).buf.freeCells = s.buf.freeCells ∧
    (writeCipherText h d k s).buf.queues = s.buf.queues ∧
    (writeCipherText h d k s).buf.queueCells = s.buf.queueCells ∧
    (writeCipherText h d k s).buf.pausing = s.buf.pausing ∧
    (writeCipherText h d k s).buf.pauseRequest = s.buf.pauseRequest ∧
    (writeCipherText h d k s).buf.repeatTimer = s.buf.repeatTimer ∧
    (writeCipherText h d k s).buf.leftover = s.buf.leftover ∧ (writeCipherText h d k s).disp = s.disp ∧
    (writeCipherText h d k s).lanes = s.lanes ∧ (writeCipherText h d k s).campus = s.campus ∧
    (writeCipherText h d k s).rack = s.rack ∧ (writeCipherText h d k s).rackRx = s.rackRx ∧
    (writeCipherText h d k s).campusRx = s.campusRx ∧ (writeCipherText h d k s).engine = s.engine ∧
    (writeCipherText h d k s).status = s.status ∧ (writeCipherText h d k s).counters = s.counters ∧
    (writeCipherText h d k s).freeIndex = s.freeIndex ∧ (writeCipherText h d k s).pending = s.pending := by
  simp [writeCipherText]

@[simp] theorem releaseUse_frame (r : SlotRef) (s : State) :
    (releaseUse r s).device = s.device ∧ (releaseUse r s).time = s.time ∧ (releaseUse r s).station = s.station ∧
    (releaseUse r s).readBuffer = s.readBuffer ∧ (releaseUse r s).serial = s.serial ∧
    (releaseUse r s).image = s.image ∧ (releaseUse r s).zeroizeLatch = s.zeroizeLatch ∧
    (releaseUse r s).assocs = s.assocs ∧ (releaseUse r s).segMap = s.segMap ∧ (releaseUse r s).bus = s.bus ∧
    (releaseUse r s).buf = s.buf ∧ (releaseUse r s).disp = s.disp ∧ (releaseUse r s).lanes = s.lanes ∧
    (releaseUse r s).campus = s.campus ∧ (releaseUse r s).rack = s.rack ∧ (releaseUse r s).rackRx = s.rackRx ∧
    (releaseUse r s).campusRx = s.campusRx ∧ (releaseUse r s).engine = s.engine ∧ (releaseUse r s).status = s.status ∧
    (releaseUse r s).counters = s.counters ∧ (releaseUse r s).freeIndex = s.freeIndex ∧
    (releaseUse r s).pending = s.pending := by
  simp only [releaseUse]
  split <;> simp

@[simp] theorem finishEncrypt_frame (l : Fin 4) (h : Nat) (r : SlotRef) (k : BitVec 256) (s : State) :
    (finishEncrypt l h r k s).device = s.device ∧ (finishEncrypt l h r k s).time = s.time ∧
    (finishEncrypt l h r k s).station = s.station ∧ (finishEncrypt l h r k s).readBuffer = s.readBuffer ∧
    (finishEncrypt l h r k s).serial = s.serial ∧ (finishEncrypt l h r k s).image = s.image ∧
    (finishEncrypt l h r k s).zeroizeLatch = s.zeroizeLatch ∧ (finishEncrypt l h r k s).assocs = s.assocs ∧
    (finishEncrypt l h r k s).segMap = s.segMap ∧ (finishEncrypt l h r k s).bus = s.bus ∧
    (finishEncrypt l h r k s).buf.freeCells = s.buf.freeCells ∧ (finishEncrypt l h r k s).buf.queues = s.buf.queues ∧
    (finishEncrypt l h r k s).buf.queueCells = s.buf.queueCells ∧
    (finishEncrypt l h r k s).buf.pausing = s.buf.pausing ∧
    (finishEncrypt l h r k s).buf.pauseRequest = s.buf.pauseRequest ∧
    (finishEncrypt l h r k s).buf.repeatTimer = s.buf.repeatTimer ∧
    (finishEncrypt l h r k s).buf.leftover = s.buf.leftover ∧ (finishEncrypt l h r k s).disp = s.disp ∧
    (finishEncrypt l h r k s).lanes.inFlight = s.lanes.inFlight ∧ (finishEncrypt l h r k s).campus = s.campus ∧
    (finishEncrypt l h r k s).rack = s.rack ∧ (finishEncrypt l h r k s).rackRx = s.rackRx ∧
    (finishEncrypt l h r k s).campusRx = s.campusRx ∧ (finishEncrypt l h r k s).engine = s.engine ∧
    (finishEncrypt l h r k s).status = s.status ∧ (finishEncrypt l h r k s).counters = s.counters ∧
    (finishEncrypt l h r k s).freeIndex = s.freeIndex ∧ (finishEncrypt l h r k s).pending = s.pending := by
  unfold finishEncrypt
  split <;> simp

@[simp] theorem countSent_frame (e : CompletionEntry) (n : Nat) (s : State) :
    (countSent e n s).device = s.device ∧ (countSent e n s).time = s.time ∧ (countSent e n s).station = s.station ∧
    (countSent e n s).readBuffer = s.readBuffer ∧ (countSent e n s).serial = s.serial ∧
    (countSent e n s).image = s.image ∧ (countSent e n s).zeroizeLatch = s.zeroizeLatch ∧
    (countSent e n s).assocs = s.assocs ∧ (countSent e n s).keys = s.keys ∧ (countSent e n s).segMap = s.segMap ∧
    (countSent e n s).bus = s.bus ∧ (countSent e n s).buf = s.buf ∧ (countSent e n s).disp = s.disp ∧
    (countSent e n s).lanes = s.lanes ∧ (countSent e n s).campus = s.campus ∧ (countSent e n s).rack = s.rack ∧
    (countSent e n s).rackRx = s.rackRx ∧ (countSent e n s).campusRx = s.campusRx ∧
    (countSent e n s).engine = s.engine ∧ (countSent e n s).status = s.status ∧
    (countSent e n s).freeIndex = s.freeIndex ∧ (countSent e n s).pending = s.pending := by
  unfold countSent
  (repeat' split) <;> simp

@[simp] theorem headSent_frame (e : CompletionEntry) (r : List CompletionEntry) (s : State) :
    (headSent e r s).device = s.device ∧ (headSent e r s).time = s.time ∧ (headSent e r s).station = s.station ∧
    (headSent e r s).readBuffer = s.readBuffer ∧ (headSent e r s).serial = s.serial ∧
    (headSent e r s).image = s.image ∧ (headSent e r s).zeroizeLatch = s.zeroizeLatch ∧
    (headSent e r s).assocs = s.assocs ∧ (headSent e r s).keys = s.keys ∧ (headSent e r s).segMap = s.segMap ∧
    (headSent e r s).bus = s.bus ∧ (headSent e r s).buf.queues = s.buf.queues ∧
    (headSent e r s).buf.queueCells = s.buf.queueCells ∧ (headSent e r s).disp.park = s.disp.park ∧
    (headSent e r s).disp.parkedCells = s.disp.parkedCells ∧ (headSent e r s).disp.marks = s.disp.marks ∧
    (headSent e r s).lanes.lanes = s.lanes.lanes ∧ (headSent e r s).campus.cutShort = s.campus.cutShort ∧
    (headSent e r s).campus.pauseTimer = s.campus.pauseTimer ∧ (headSent e r s).campus.fifo = s.campus.fifo ∧
    (headSent e r s).rack = s.rack ∧ (headSent e r s).rackRx = s.rackRx ∧ (headSent e r s).campusRx = s.campusRx ∧
    (headSent e r s).engine = s.engine ∧ (headSent e r s).status.heldZeroized = s.status.heldZeroized ∧
    (headSent e r s).status.replies = s.status.replies ∧ (headSent e r s).status.offered = s.status.offered ∧
    (headSent e r s).status.lastOffered = s.status.lastOffered ∧ (headSent e r s).freeIndex = s.freeIndex ∧
    (headSent e r s).pending = s.pending := by
  simp [headSent]

@[simp] theorem writeListed_frame (b : List Byte) (m : Nat) (s : State) :
    (writeListed b m s).device = s.device ∧ (writeListed b m s).time = s.time ∧
    (writeListed b m s).station = s.station ∧ (writeListed b m s).readBuffer = s.readBuffer ∧
    (writeListed b m s).serial = s.serial ∧ (writeListed b m s).image = s.image ∧
    (writeListed b m s).zeroizeLatch = s.zeroizeLatch ∧ (writeListed b m s).assocs = s.assocs ∧
    (writeListed b m s).keys = s.keys ∧ (writeListed b m s).bus = s.bus ∧ (writeListed b m s).buf = s.buf ∧
    (writeListed b m s).disp = s.disp ∧ (writeListed b m s).lanes = s.lanes ∧ (writeListed b m s).campus = s.campus ∧
    (writeListed b m s).rack = s.rack ∧ (writeListed b m s).rackRx = s.rackRx ∧
    (writeListed b m s).campusRx = s.campusRx ∧ (writeListed b m s).engine = s.engine ∧
    (writeListed b m s).status = s.status ∧ (writeListed b m s).counters = s.counters ∧
    (writeListed b m s).freeIndex = s.freeIndex ∧ (writeListed b m s).pending = s.pending := by
  unfold writeListed
  (repeat' split) <;> simp

@[simp] theorem setWritten_frame (m : Nat) (s : State) :
    (setWritten m s).device = s.device ∧ (setWritten m s).time = s.time ∧ (setWritten m s).station = s.station ∧
    (setWritten m s).readBuffer = s.readBuffer ∧ (setWritten m s).serial = s.serial ∧
    (setWritten m s).image = s.image ∧ (setWritten m s).zeroizeLatch = s.zeroizeLatch ∧
    (setWritten m s).assocs = s.assocs ∧ (setWritten m s).keys = s.keys ∧ (setWritten m s).segMap = s.segMap ∧
    (setWritten m s).bus = s.bus ∧ (setWritten m s).buf = s.buf ∧ (setWritten m s).disp = s.disp ∧
    (setWritten m s).lanes = s.lanes ∧ (setWritten m s).campus = s.campus ∧ (setWritten m s).rack = s.rack ∧
    (setWritten m s).rackRx = s.rackRx ∧ (setWritten m s).campusRx = s.campusRx ∧
    (setWritten m s).engine.input = s.engine.input ∧ (setWritten m s).engine.state = s.engine.state ∧
    (setWritten m s).engine.commandKey = s.engine.commandKey ∧ (setWritten m s).engine.wrapKey = s.engine.wrapKey ∧
    (setWritten m s).engine.unwrapStore = s.engine.unwrapStore ∧ (setWritten m s).engine.scan = s.engine.scan ∧
    (setWritten m s).status = s.status ∧ (setWritten m s).counters = s.counters ∧
    (setWritten m s).freeIndex = s.freeIndex ∧ (setWritten m s).pending = s.pending := by
  simp [setWritten]

@[simp] theorem scanOnce_frame (x : Scan) (s : State) :
    (scanOnce x s).device = s.device ∧ (scanOnce x s).time = s.time ∧ (scanOnce x s).station = s.station ∧
    (scanOnce x s).readBuffer = s.readBuffer ∧ (scanOnce x s).serial = s.serial ∧ (scanOnce x s).image = s.image ∧
    (scanOnce x s).zeroizeLatch = s.zeroizeLatch ∧ (scanOnce x s).assocs = s.assocs ∧ (scanOnce x s).keys = s.keys ∧
    (scanOnce x s).bus = s.bus ∧ (scanOnce x s).buf = s.buf ∧ (scanOnce x s).disp = s.disp ∧
    (scanOnce x s).lanes = s.lanes ∧ (scanOnce x s).campus = s.campus ∧ (scanOnce x s).rack = s.rack ∧
    (scanOnce x s).rackRx = s.rackRx ∧ (scanOnce x s).campusRx = s.campusRx ∧
    (scanOnce x s).engine.input = s.engine.input ∧ (scanOnce x s).engine.state = s.engine.state ∧
    (scanOnce x s).engine.commandKey = s.engine.commandKey ∧ (scanOnce x s).engine.wrapKey = s.engine.wrapKey ∧
    (scanOnce x s).engine.unwrapStore = s.engine.unwrapStore ∧ (scanOnce x s).engine.written = s.engine.written ∧
    (scanOnce x s).status.heldZeroized = s.status.heldZeroized ∧ (scanOnce x s).status.replies = s.status.replies ∧
    (scanOnce x s).status.offered = s.status.offered ∧ (scanOnce x s).status.lastOffered = s.status.lastOffered ∧
    (scanOnce x s).freeIndex = s.freeIndex ∧ (scanOnce x s).pending = s.pending := by
  simp only [scanOnce]
  split <;> simp

@[simp] theorem quiesceOne_frame (m : Byte) (s : State) (q : Fin 8) :
    (quiesceOne m s q).device = s.device ∧ (quiesceOne m s q).time = s.time ∧ (quiesceOne m s q).station = s.station ∧
    (quiesceOne m s q).readBuffer = s.readBuffer ∧ (quiesceOne m s q).serial = s.serial ∧
    (quiesceOne m s q).image = s.image ∧ (quiesceOne m s q).zeroizeLatch = s.zeroizeLatch ∧
    (quiesceOne m s q).assocs = s.assocs ∧ (quiesceOne m s q).keys = s.keys ∧ (quiesceOne m s q).segMap = s.segMap ∧
    (quiesceOne m s q).bus = s.bus ∧ (quiesceOne m s q).buf = s.buf ∧ (quiesceOne m s q).disp.park = s.disp.park ∧
    (quiesceOne m s q).disp.parkedCells = s.disp.parkedCells ∧ (quiesceOne m s q).disp.marks = s.disp.marks ∧
    (quiesceOne m s q).lanes = s.lanes ∧ (quiesceOne m s q).campus = s.campus ∧ (quiesceOne m s q).rack = s.rack ∧
    (quiesceOne m s q).rackRx = s.rackRx ∧ (quiesceOne m s q).campusRx = s.campusRx ∧
    (quiesceOne m s q).engine = s.engine ∧ (quiesceOne m s q).status.heldZeroized = s.status.heldZeroized ∧
    (quiesceOne m s q).status.replies = s.status.replies ∧ (quiesceOne m s q).status.offered = s.status.offered ∧
    (quiesceOne m s q).status.lastOffered = s.status.lastOffered ∧ (quiesceOne m s q).freeIndex = s.freeIndex ∧
    (quiesceOne m s q).pending = s.pending := by
  unfold quiesceOne
  (repeat' split) <;> simp

@[simp] theorem quiesceQueues_frame (m : Byte) (l : List (Fin 8)) (s : State) :
    (l.foldl (quiesceOne m) s).device = s.device ∧ (l.foldl (quiesceOne m) s).time = s.time ∧
    (l.foldl (quiesceOne m) s).station = s.station ∧ (l.foldl (quiesceOne m) s).readBuffer = s.readBuffer ∧
    (l.foldl (quiesceOne m) s).serial = s.serial ∧ (l.foldl (quiesceOne m) s).image = s.image ∧
    (l.foldl (quiesceOne m) s).zeroizeLatch = s.zeroizeLatch ∧ (l.foldl (quiesceOne m) s).assocs = s.assocs ∧
    (l.foldl (quiesceOne m) s).keys = s.keys ∧ (l.foldl (quiesceOne m) s).segMap = s.segMap ∧
    (l.foldl (quiesceOne m) s).bus = s.bus ∧ (l.foldl (quiesceOne m) s).buf = s.buf ∧
    (l.foldl (quiesceOne m) s).disp.park = s.disp.park ∧
    (l.foldl (quiesceOne m) s).disp.parkedCells = s.disp.parkedCells ∧
    (l.foldl (quiesceOne m) s).disp.marks = s.disp.marks ∧ (l.foldl (quiesceOne m) s).lanes = s.lanes ∧
    (l.foldl (quiesceOne m) s).campus = s.campus ∧ (l.foldl (quiesceOne m) s).rack = s.rack ∧
    (l.foldl (quiesceOne m) s).rackRx = s.rackRx ∧ (l.foldl (quiesceOne m) s).campusRx = s.campusRx ∧
    (l.foldl (quiesceOne m) s).engine = s.engine ∧
    (l.foldl (quiesceOne m) s).status.heldZeroized = s.status.heldZeroized ∧
    (l.foldl (quiesceOne m) s).status.replies = s.status.replies ∧
    (l.foldl (quiesceOne m) s).status.offered = s.status.offered ∧
    (l.foldl (quiesceOne m) s).status.lastOffered = s.status.lastOffered ∧
    (l.foldl (quiesceOne m) s).freeIndex = s.freeIndex ∧ (l.foldl (quiesceOne m) s).pending = s.pending := by
  induction l generalizing s with
  | nil => simp
  | cons x l ih => simp [ih]

@[simp] theorem resumeQueues_frame (m : Byte) (s : State) :
    (resumeQueues m s).device = s.device ∧ (resumeQueues m s).time = s.time ∧ (resumeQueues m s).station = s.station ∧
    (resumeQueues m s).readBuffer = s.readBuffer ∧ (resumeQueues m s).serial = s.serial ∧
    (resumeQueues m s).image = s.image ∧ (resumeQueues m s).zeroizeLatch = s.zeroizeLatch ∧
    (resumeQueues m s).assocs = s.assocs ∧ (resumeQueues m s).keys = s.keys ∧ (resumeQueues m s).segMap = s.segMap ∧
    (resumeQueues m s).bus = s.bus ∧ (resumeQueues m s).buf = s.buf ∧ (resumeQueues m s).disp.park = s.disp.park ∧
    (resumeQueues m s).disp.parkedCells = s.disp.parkedCells ∧ (resumeQueues m s).disp.marks = s.disp.marks ∧
    (resumeQueues m s).lanes = s.lanes ∧ (resumeQueues m s).campus = s.campus ∧ (resumeQueues m s).rack = s.rack ∧
    (resumeQueues m s).rackRx = s.rackRx ∧ (resumeQueues m s).campusRx = s.campusRx ∧
    (resumeQueues m s).engine = s.engine ∧ (resumeQueues m s).status = s.status ∧
    (resumeQueues m s).counters = s.counters ∧ (resumeQueues m s).freeIndex = s.freeIndex ∧
    (resumeQueues m s).pending = s.pending := by
  simp [resumeQueues]

@[simp] theorem readGroup_frame (g : Nat) (b : Bool) (s : State) :
    (readGroup g b s).device = s.device ∧ (readGroup g b s).time = s.time ∧ (readGroup g b s).station = s.station ∧
    (readGroup g b s).readBuffer = s.readBuffer ∧ (readGroup g b s).serial = s.serial ∧
    (readGroup g b s).image = s.image ∧ (readGroup g b s).zeroizeLatch = s.zeroizeLatch ∧
    (readGroup g b s).assocs = s.assocs ∧ (readGroup g b s).keys = s.keys ∧ (readGroup g b s).segMap = s.segMap ∧
    (readGroup g b s).bus = s.bus ∧ (readGroup g b s).buf = s.buf ∧ (readGroup g b s).disp = s.disp ∧
    (readGroup g b s).lanes = s.lanes ∧ (readGroup g b s).campus = s.campus ∧ (readGroup g b s).rack = s.rack ∧
    (readGroup g b s).rackRx = s.rackRx ∧ (readGroup g b s).campusRx = s.campusRx ∧
    (readGroup g b s).engine = s.engine ∧ (readGroup g b s).status.notices = s.status.notices ∧
    (readGroup g b s).status.heldZeroized = s.status.heldZeroized ∧
    (readGroup g b s).status.replies = s.status.replies ∧ (readGroup g b s).status.offered = s.status.offered ∧
    (readGroup g b s).status.lastOffered = s.status.lastOffered ∧ (readGroup g b s).freeIndex = s.freeIndex ∧
    (readGroup g b s).pending = s.pending := by
  simp [readGroup]

@[simp] theorem leaveHead_frame (s : State) :
    (leaveHead s).device = s.device ∧ (leaveHead s).time = s.time ∧ (leaveHead s).station = s.station ∧
    (leaveHead s).readBuffer = s.readBuffer ∧ (leaveHead s).serial = s.serial ∧ (leaveHead s).image = s.image ∧
    (leaveHead s).zeroizeLatch = s.zeroizeLatch ∧ (leaveHead s).assocs = s.assocs ∧ (leaveHead s).keys = s.keys ∧
    (leaveHead s).segMap = s.segMap ∧ (leaveHead s).bus = s.bus ∧ (leaveHead s).buf = s.buf ∧
    (leaveHead s).disp = s.disp ∧ (leaveHead s).lanes = s.lanes ∧ (leaveHead s).campus = s.campus ∧
    (leaveHead s).rack = s.rack ∧ (leaveHead s).rackRx = s.rackRx ∧ (leaveHead s).campusRx = s.campusRx ∧
    (leaveHead s).engine.commandKey = s.engine.commandKey ∧ (leaveHead s).engine.wrapKey = s.engine.wrapKey ∧
    (leaveHead s).engine.unwrapStore = s.engine.unwrapStore ∧ (leaveHead s).engine.scan = s.engine.scan ∧
    (leaveHead s).engine.written = s.engine.written ∧ (leaveHead s).status = s.status ∧
    (leaveHead s).counters = s.counters ∧ (leaveHead s).freeIndex = s.freeIndex ∧ (leaveHead s).pending = s.pending := by
  simp [leaveHead]

@[simp] theorem placeReply_frame (d : List Byte) (o : CommandOutcome) :
    (placeReply d o).device = o.state.device ∧ (placeReply d o).time = o.state.time ∧
    (placeReply d o).station = o.state.station ∧ (placeReply d o).readBuffer = o.state.readBuffer ∧
    (placeReply d o).serial = o.state.serial ∧ (placeReply d o).image = o.state.image ∧
    (placeReply d o).zeroizeLatch = o.state.zeroizeLatch ∧ (placeReply d o).assocs = o.state.assocs ∧
    (placeReply d o).keys = o.state.keys ∧ (placeReply d o).segMap = o.state.segMap ∧
    (placeReply d o).bus = o.state.bus ∧ (placeReply d o).buf = o.state.buf ∧ (placeReply d o).disp = o.state.disp ∧
    (placeReply d o).lanes = o.state.lanes ∧ (placeReply d o).campus = o.state.campus ∧
    (placeReply d o).rack = o.state.rack ∧ (placeReply d o).rackRx = o.state.rackRx ∧
    (placeReply d o).campusRx = o.state.campusRx ∧ (placeReply d o).engine.commandKey = o.state.engine.commandKey ∧
    (placeReply d o).engine.wrapKey = o.state.engine.wrapKey ∧
    (placeReply d o).engine.unwrapStore = o.state.engine.unwrapStore ∧
    (placeReply d o).engine.scan = o.state.engine.scan ∧ (placeReply d o).engine.written = o.state.engine.written ∧
    (placeReply d o).status.notices = o.state.status.notices ∧
    (placeReply d o).status.heldZeroized = o.state.status.heldZeroized ∧
    (placeReply d o).status.offered = o.state.status.offered ∧
    (placeReply d o).status.lastOffered = o.state.status.lastOffered ∧
    (placeReply d o).status.alert = o.state.status.alert ∧ (placeReply d o).counters = o.state.counters ∧
    (placeReply d o).freeIndex = o.state.freeIndex ∧ (placeReply d o).pending = o.state.pending := by
  simp [placeReply]

@[simp] theorem setUnwrapStore_frame (k : BitVec 256) (s : State) :
    (setUnwrapStore k s).device = s.device ∧ (setUnwrapStore k s).time = s.time ∧
    (setUnwrapStore k s).station = s.station ∧ (setUnwrapStore k s).readBuffer = s.readBuffer ∧
    (setUnwrapStore k s).serial = s.serial ∧ (setUnwrapStore k s).image = s.image ∧
    (setUnwrapStore k s).zeroizeLatch = s.zeroizeLatch ∧ (setUnwrapStore k s).assocs = s.assocs ∧
    (setUnwrapStore k s).keys = s.keys ∧ (setUnwrapStore k s).segMap = s.segMap ∧ (setUnwrapStore k s).bus = s.bus ∧
    (setUnwrapStore k s).buf = s.buf ∧ (setUnwrapStore k s).disp = s.disp ∧ (setUnwrapStore k s).lanes = s.lanes ∧
    (setUnwrapStore k s).campus = s.campus ∧ (setUnwrapStore k s).rack = s.rack ∧
    (setUnwrapStore k s).rackRx = s.rackRx ∧ (setUnwrapStore k s).campusRx = s.campusRx ∧
    (setUnwrapStore k s).engine.input = s.engine.input ∧ (setUnwrapStore k s).engine.state = s.engine.state ∧
    (setUnwrapStore k s).engine.commandKey = s.engine.commandKey ∧
    (setUnwrapStore k s).engine.wrapKey = s.engine.wrapKey ∧ (setUnwrapStore k s).engine.scan = s.engine.scan ∧
    (setUnwrapStore k s).engine.written = s.engine.written ∧ (setUnwrapStore k s).status = s.status ∧
    (setUnwrapStore k s).counters = s.counters ∧ (setUnwrapStore k s).freeIndex = s.freeIndex ∧
    (setUnwrapStore k s).pending = s.pending := by
  simp [setUnwrapStore]

end Sys2Proof.Machine
end

