-- ==== Sys2Proof/Laws/PerInstr.lean ====
section
/-! SUPPORT. One lemma for each command: no word spells it, since no row of the table gives bits. Commands are put on the
queue by their operands alone. -/

namespace Sys2Proof.Laws

/-- No word of any width spells the command. -/
def Unspelled.Statement (i : Instr) : Prop := ∀ nbits w : Nat, decodeTableWord nbits w ≠ some i

theorem Unspelled.deviceReset : Unspelled.Statement .deviceReset := fun _ _ => nofun

theorem Unspelled.loadingStart (straps : BitVec 3) :
    Unspelled.Statement (.loadingStart straps) := fun _ _ => nofun

theorem Unspelled.imageReadDone (memory : List Byte) :
    Unspelled.Statement (.imageReadDone memory) := fun _ _ => nofun

theorem Unspelled.settleTimerExpiry : Unspelled.Statement .settleTimerExpiry := fun _ _ => nofun

theorem Unspelled.zeroizePinRequest : Unspelled.Statement .zeroizePinRequest := fun _ _ => nofun

theorem Unspelled.zeroizeComplete : Unspelled.Statement .zeroizeComplete := fun _ _ => nofun

theorem Unspelled.busAttemptStart (idleBits : Nat) :
    Unspelled.Statement (.busAttemptStart idleBits) := fun _ _ => nofun

theorem Unspelled.claim (assoc : BitVec 6) (sender : BitVec 3) (epoch : BitVec 16) (start : BitVec 48) (count : BitVec 24) (ending : BusEnding) :
    Unspelled.Statement (.claim assoc sender epoch start count ending) := fun _ _ => nofun

theorem Unspelled.beacon (assoc : BitVec 6) (sender : BitVec 3) (epoch : BitVec 16) (hwm : BitVec 48) (ending : BusEnding) :
    Unspelled.Statement (.beacon assoc sender epoch hwm ending) := fun _ _ => nofun

theorem Unspelled.advance (assoc : BitVec 6) (sender : BitVec 3) (epoch : BitVec 16) (reason : BitVec 3) (ending : BusEnding) :
    Unspelled.Statement (.advance assoc sender epoch reason ending) := fun _ _ => nofun

theorem Unspelled.join (assoc : BitVec 6) (sender : BitVec 3) (ending : BusEnding) :
    Unspelled.Statement (.join assoc sender ending) := fun _ _ => nofun

theorem Unspelled.rackFrameReceived (r : RackReception) :
    Unspelled.Statement (.rackFrameReceived r) := fun _ _ => nofun

theorem Unspelled.inboundFrameReceived (r : InboundReception) :
    Unspelled.Statement (.inboundFrameReceived r) := fun _ _ => nofun

theorem Unspelled.rackPauseTimerExpiry : Unspelled.Statement .rackPauseTimerExpiry := fun _ _ => nofun

theorem Unspelled.campusPauseTimerExpiry : Unspelled.Statement .campusPauseTimerExpiry := fun _ _ => nofun

theorem Unspelled.pauseRepeatTimerExpiry : Unspelled.Statement .pauseRepeatTimerExpiry := fun _ _ => nofun

theorem Unspelled.rackTransmitDone : Unspelled.Statement .rackTransmitDone := fun _ _ => nofun

theorem Unspelled.statusFrameDue : Unspelled.Statement .statusFrameDue := fun _ _ => nofun

theorem Unspelled.dispatch : Unspelled.Statement .dispatch := fun _ _ => nofun

theorem Unspelled.parkTimeout (frame : Fin 1024) :
    Unspelled.Statement (.parkTimeout frame) := fun _ _ => nofun

theorem Unspelled.keyTakeUp (lane : Fin 4) (upset : SlotUpset) :
    Unspelled.Statement (.keyTakeUp lane upset) := fun _ _ => nofun

theorem Unspelled.laneFinish (lane : Fin 4) :
    Unspelled.Statement (.laneFinish lane) := fun _ _ => nofun

theorem Unspelled.clearPassDone (lane : Fin 4) :
    Unspelled.Statement (.clearPassDone lane) := fun _ _ => nofun

theorem Unspelled.campusFrameSent : Unspelled.Statement .campusFrameSent := fun _ _ => nofun

theorem Unspelled.scanStep : Unspelled.Statement .scanStep := fun _ _ => nofun

theorem Unspelled.commandFrameCheck : Unspelled.Statement .commandFrameCheck := fun _ _ => nofun

theorem Unspelled.unknownCommand : Unspelled.Statement .unknownCommand := fun _ _ => nofun

theorem Unspelled.installKey : Unspelled.Statement .installKey := fun _ _ => nofun

theorem Unspelled.writeSegments : Unspelled.Statement .writeSegments := fun _ _ => nofun

theorem Unspelled.moveSegments : Unspelled.Statement .moveSegments := fun _ _ => nofun

theorem Unspelled.advanceEpoch : Unspelled.Statement .advanceEpoch := fun _ _ => nofun

theorem Unspelled.retireSa : Unspelled.Statement .retireSa := fun _ _ => nofun

theorem Unspelled.flushSa : Unspelled.Statement .flushSa := fun _ _ => nofun

theorem Unspelled.quiesceQueue : Unspelled.Statement .quiesceQueue := fun _ _ => nofun

theorem Unspelled.resumeQueue : Unspelled.Statement .resumeQueue := fun _ _ => nofun

theorem Unspelled.readStatus : Unspelled.Statement .readStatus := fun _ _ => nofun

theorem Unspelled.zeroize : Unspelled.Statement .zeroize := fun _ _ => nofun

end Sys2Proof.Laws
end

