-- ==== Sys2Proof/Laws/Reports.lean ====
section
/-! SUPPORT. What handing over an exception's report does to the queued EXCEPTION notices: the lemmas that say it whole. -/

namespace Sys2Proof.Machine

/-- For an EXCEPTION notice, the notices it merges into are those of its class and association (R176). -/
theorem mergesInto_exception (n x : Notice) (h : n.kind = .exception) : n.mergesInto x = n.sameException x := by
  simp [Notice.mergesInto, Notice.sameException, h]

/-- An EXCEPTION notice behind one it does not merge into. -/
theorem afterException_cons (n x : Notice) (l : List Notice) :
    afterException (x :: l) n =
      if n.sameException x then { x with count := min (x.count + n.count) 65535, alert := x.alert || n.alert } :: l
      else x :: afterException l n := by
  unfold afterException
  rw [List.findIdx?_cons]
  cases hx : n.sameException x
  · cases l.findIdx? n.sameException <;> simp
  · simp

/-- With none of its class and association queued it joins at the tail. -/
theorem afterException_none (n : Notice) (l : List Notice) (h : l.any n.sameException = false) :
    afterException l n = l ++ [n] := by
  have : l.findIdx? n.sameException = none := by simpa [List.findIdx?_eq_none_iff] using h
  simp [afterException, this]

/-- A merge among all queued notices is one among the EXCEPTION notices. -/
theorem mergeNotice_exceptions (n : Notice) (h : n.kind = .exception) (l : List Notice) (ha : l.any n.mergesInto = true) :
    (mergeNotice n l).filter (fun x => x.kind == .exception) = afterException (l.filter (fun x => x.kind == .exception)) n := by
  induction l with
  | nil => simp at ha
  | cons x l ih =>
    rw [mergeNotice, mergesInto_exception n x h]
    cases hx : n.sameException x
    · have hl : l.any n.mergesInto = true := by simpa [mergesInto_exception n x h, hx] using ha
      by_cases hk : x.kind = .exception
      · simp [hk, hx, ih hl, afterException_cons]
      · simp [hk, ih hl]
    · have hk : x.kind = .exception := by
        simp only [Notice.sameException, Bool.and_eq_true, beq_iff_eq] at hx
        exact hx.1.1
      simp [hk, hx, Notice.merge, afterException_cons]

/-- An EXCEPTION notice handed over while the queue has room, before zeroization, stands among the queued ones as `afterException`
says, with the present time (R176). -/
theorem postNotice_exceptions (n : Notice) (s : State) (h : n.kind = .exception) (he : s.device.erased = false)
    (hl : s.status.notices.length < 32) :
    (postNotice n s).exceptions = afterException s.exceptions { n with time := s.time } := by
  have hsame : ({ n with time := s.time } : Notice).sameException = n.sameException := by
    funext x; simp [Notice.sameException]
  cases hm : s.status.notices.any n.mergesInto
  · have hn : s.exceptions.any ({ n with time := s.time } : Notice).sameException = false := by
      rw [hsame, List.any_eq_false] at *
      intro x hx
      rw [← mergesInto_exception n x h]
      exact hm x (List.mem_of_mem_filter hx)
    rw [afterException_none _ _ hn]
    simp [postNotice, he, hm, hl, joinNotice, State.exceptions, h]
  · have hp : (postNotice n s).exceptions = afterException s.exceptions n := by
      simpa [postNotice, he, hm, State.exceptions] using mergeNotice_exceptions n h s.status.notices hm
    rw [hp]
    simp only [afterException, hsame]
    cases hf : s.exceptions.findIdx? n.sameException with
    | some i => rfl
    | none =>
      obtain ⟨x, hx, hxm⟩ := List.any_eq_true.1 hm
      rw [mergesInto_exception n x h] at hxm
      have hxk : x.kind = .exception := by
        have := hxm
        simp only [Notice.sameException, Bool.and_eq_true, beq_iff_eq] at this
        exact this.1.1
      have := List.findIdx?_eq_none_iff.1 hf x (List.mem_filter.2 ⟨hx, by simp [hxk]⟩)
      simp [hxm] at this

/-- The report of an exception, while the queue has room and before zeroization, adds what its class's settings say (R117, R121,
R176). -/
theorem report_exceptions (c : ExcClass) (a : Option (Fin 64)) (value : Nat) (s : State) (he : s.device.erased = false)
    (hl : s.status.notices.length < 32) :
    (report c a value 1 s).exceptions = (s.reportOf c a value).foldl afterException s.exceptions := by
  have hn : s.notifies c = decide (c = .double ∨ c = .keyCheck ∨ s.cfg.settings[c.index].notify = true ∨
      s.cfg.settings[c.index].alert = true) := by
    cases c <;> simp [State.notifies, Bool.decide_or]
  have ha : s.alerts c = (decide (c = .keyCheck) || s.cfg.settings[c.index].alert) := by cases c <;> simp [State.alerts]
  unfold report State.reportOf
  rw [hn, ha]
  split
  · rename_i hc
    rw [if_pos (of_decide_eq_true hc), postNotice_exceptions _ _ rfl he hl]
    cases a <;> rfl
  · rename_i hc
    rw [if_neg (by simpa using hc)]
    rfl

end Sys2Proof.Machine
end

