-- ==== Sys2Proof/Laws/Settled.lean ====
section
/-! SUPPORT. What the arbiters at the end of an event do: one lemma that says it whole. -/

namespace Sys2Proof.Machine

/-- A mark applied after others. -/
theorem afterMarks_cons (m : ReleaseMark) (marks : List ReleaseMark) (e : ParkEntry) :
    ParkEntry.afterMarks marks (m.apply e) = ParkEntry.afterMarks (m :: marks) e := by
  unfold ParkEntry.afterMarks ReleaseMark.apply
  by_cases hm : e.assoc = m.assoc ∧ e.cls = m.cls
  · by_cases hr : ∃ m' ∈ marks, e.assoc = m'.assoc ∧ e.cls = m'.cls
    · simp_all
    · simp_all
  · simp [hm]

/-- No mark, no change. -/
@[simp] theorem map_afterMarks_nil (park : List ParkEntry) : park.map (ParkEntry.afterMarks []) = park := by
  have : ParkEntry.afterMarks [] = id := by funext e; simp [ParkEntry.afterMarks]
  simp [this]

/-- Marks applied one after another are marks applied together (R125). -/
theorem foldl_marks (marks : List ReleaseMark) (park : List ParkEntry) :
    marks.foldl (fun park m => park.map m.apply) park = park.map (ParkEntry.afterMarks marks) := by
  induction marks generalizing park with
  | nil => simp
  | cons m marks ih =>
    rw [List.foldl_cons, ih, List.map_map]
    congr 1
    funext e
    exact afterMarks_cons m marks e

theorem applyMarks_park (s : State) :
    (applyMarks s).disp.park = s.disp.park.map (ParkEntry.afterMarks s.disp.marks) ∧ (applyMarks s).disp.marks = [] :=
  ⟨foldl_marks _ _, rfl⟩

theorem campusBegin_spec (s : State) : (campusBegin s).campus = s.campus ∨ CampusBegins s (campusBegin s) := by
  unfold campusBegin
  split
  · rename_i e rest hs hc
    split
    · rename_i h
      split
      · rename_i d hd
        exact .inr ⟨hs, h.2.1, h.1, e, rest, d, hc, h.2.2, hd, rfl⟩
      · exact .inl rfl
    · exact .inl rfl
  · exact .inl rfl

/-- What a status frame takes from the queue, and what joins behind it (R179, R177). -/
theorem beginStatus_spec (s : State) (hs : s.rack.sending = none) (hp : s.buf.pauseRequest = false) :
    StatusBegins s (beginStatus s) := by
  refine ⟨⟨hs, ?_⟩, hp, ?_, ?_⟩
  · simp only [beginStatus, rackSend, joinHeldZeroized_frame, takeOffer_frame]
  · simp [SamePause]
  · simp only [beginStatus, rackSend_frame, joinHeldZeroized, takeOffer_frame]
    split
    · simp [joinNotice, zeroizedNotice, newNotice]
    · simp

/-- What the rack transmitter picks, in its order (R106). -/
theorem rackPick_spec (s : State) :
    let t := rackPick s
    (t.rack = s.rack ∧ SamePause s t ∧ SameNotices s t ∧
      (t.status.offered = s.status.offered ∨ (s.status.offered = some .reply ∧ s.status.replies = []))) ∨
    (s.device.portsUp = true ∧ ((PauseBegins s t ∧ t.status.offered = s.status.offered) ∨ (s.rack.pauseTimer = 0 ∧
      (ReplyBegins s t ∨ StatusBegins s t ∨ (InboundBegins s t ∧ t.status.offered = s.status.offered))))) := by
  unfold rackPick
  split
  · simp [SamePause, SameNotices]
  · rename_i h
    have hs : s.rack.sending = none := by
      cases hx : s.rack.sending with
      | none => rfl
      | some x => simp [hx] at h
    have hd : s.device.portsUp = true := by simpa [hs] using h
    split
    · rename_i hp
      exact .inr ⟨hd, .inl ⟨⟨⟨hs, rfl⟩, hp, rfl, rfl, rfl, rfl, rfl⟩, rfl⟩⟩
    · rename_i hp
      have hp : s.buf.pauseRequest = false := by simpa using hp
      split
      · simp [SamePause, SameNotices]
      · rename_i ht
        have ht : s.rack.pauseTimer = 0 := by simpa using ht
        split
        · rename_i ho
          cases hr : s.status.replies with
          | nil => simp [beginReply, hr, SamePause, SameNotices, ho]
          | cons r rest =>
            refine .inr ⟨hd, .inr ⟨ht, .inl ⟨⟨r, rest, hr, hs, ?_⟩, hp, ?_, ?_⟩⟩⟩
            · simp only [beginReply, hr]; rfl
            · simp [SamePause]
            · simp [SameNotices]
        · exact .inr ⟨hd, .inr ⟨ht, .inr (.inl (beginStatus_spec s hs hp))⟩⟩
        · split
          · rename_i f rest hf
            refine .inr ⟨hd, .inr ⟨ht, .inr (.inr ⟨⟨⟨f, rest, hf, hs, rfl⟩, hp, ?_, ?_⟩, ?_⟩)⟩⟩ <;>
              simp [SamePause, SameNotices]
          · simp [SamePause, SameNotices]

/-- What the rack transmitter's choice reads, the same in two states. -/
structure SameForRack (u v : State) : Prop where
  device : v.device = u.device
  time : v.time = u.time
  image : v.image = u.image
  buf : v.buf = u.buf
  rack : v.rack = u.rack
  replies : v.status.replies = u.status.replies
  notices : v.status.notices = u.status.notices
  held : v.status.heldZeroized = u.status.heldZeroized
  alert : v.status.alert = u.status.alert
  fifo : v.campus.fifo = u.campus.fifo

section
variable {u v t w : State} (huv : SameForRack u v) (htw : SameForRack t w)
include huv htw

theorem RackSends.congr {k : RackFrameKind} {f : WireFrame} (h : RackSends k f v w) : RackSends k f u t := by
  simpa [RackSends, huv.rack, htw.rack] using h

theorem SamePause.congr (h : SamePause v w) : SamePause u t := by
  simpa [SamePause, huv.buf, htw.buf] using h

theorem SameNotices.congr (h : SameNotices v w) : SameNotices u t := by
  simpa [SameNotices, huv.notices, huv.held, huv.alert, htw.notices, htw.held, htw.alert] using h

theorem PauseBegins.congr (h : PauseBegins v w) : PauseBegins u t := by
  obtain ⟨h1, h2, h3, h4, h5⟩ := h
  have h1 := h1.congr huv htw
  rw [huv.buf] at h1 h2 h4
  rw [htw.buf] at h3 h4
  rw [cfg_eq_of_image huv.image] at h1 h4
  exact ⟨h1, h2, h3, h4, h5.congr huv htw⟩

theorem ReplyBegins.congr (h : ReplyBegins v w) : ReplyBegins u t := by
  obtain ⟨⟨r, rest, h0, h1⟩, h2, h3, h4⟩ := h
  have h1 := h1.congr huv htw
  rw [cfg_eq_of_image huv.image] at h1
  exact ⟨⟨r, rest, huv.replies ▸ h0, h1⟩, huv.buf ▸ h2, h3.congr huv htw, h4.congr huv htw⟩

theorem StatusBegins.congr (h : StatusBegins v w) : StatusBegins u t := by
  obtain ⟨h1, h2, h3, h4⟩ := h
  have h1 := h1.congr huv htw
  rw [cfg_eq_of_image huv.image, huv.notices] at h1
  refine ⟨h1, huv.buf ▸ h2, h3.congr huv htw, ?_⟩
  simpa [huv.notices, huv.held, huv.alert, huv.time, htw.notices, htw.held, htw.alert] using h4

theorem InboundBegins.congr (h : InboundBegins v w) : InboundBegins u t := by
  obtain ⟨⟨f, rest, h0, h1⟩, h2, h3, h4⟩ := h
  exact ⟨⟨f, rest, huv.fifo ▸ h0, h1.congr huv htw⟩, huv.buf ▸ h2, h3.congr huv htw, h4.congr huv htw⟩

end

/-- An offer standing stays until it is taken (R179). -/
theorem statusOffer_offered (before s : State) :
    (statusOffer before s).status.offered = s.status.offered ∨ s.status.offered = none := by
  unfold statusOffer
  split
  · exact .inl rfl
  · rename_i h
    right
    cases ho : s.status.offered with
    | none => rfl
    | some o => simp [ho] at h

/-- After an event the state is settled: the marks are applied and the arbiters have acted, and every other field is as the
event left it (R106, R116, R143, R179). -/
theorem finishEvent_settled (before u : State) : Settled u (finishEvent before u) := by
  let v := statusOffer before (campusBegin (applyMarks u))
  have hv : SameForRack u v := by constructor <;> simp [v]
  have ht : SameForRack (finishEvent before u) (rackPick v) := by constructor <;> simp [finishEvent, v]
  have hr := rackPick_spec v
  have hc := campusBegin_spec (applyMarks u)
  have ho := statusOffer_offered before (campusBegin (applyMarks u))
  have ho' := statusOffer_offered before (rackPick v)
  have hm := applyMarks_park u
  constructor
  case park => simpa [finishEvent] using hm.1
  case marks => simpa [finishEvent] using hm.2
  case campus =>
    have he : (finishEvent before u).campus = (campusBegin (applyMarks u)).campus := by simp [finishEvent]
    rcases hc with h | ⟨h1, h2, h3, e, rest, d, h4, h5, h6, h7⟩
    · exact .inl (by rw [he, h]; simp)
    · exact .inr ⟨by simpa using h1, by simpa using h2, by simpa using h3, e, rest, d, by simpa using h4, h5,
        by simpa [State.frame?] using h6, by rw [he, h7]; simp⟩
  case rack =>
    rcases hr with ⟨h1, h2, h3, -⟩ | ⟨h0, h | ⟨h1, h | h | h⟩⟩
    · exact .inl ⟨by simpa [ht.rack, hv.rack] using h1, h2.congr hv ht, h3.congr hv ht⟩
    · exact .inr ⟨hv.device ▸ h0, .inl (h.1.congr hv ht)⟩
    · exact .inr ⟨hv.device ▸ h0, .inr ⟨hv.rack ▸ h1, .inl (h.congr hv ht)⟩⟩
    · exact .inr ⟨hv.device ▸ h0, .inr ⟨hv.rack ▸ h1, .inr (.inl (h.congr hv ht))⟩⟩
    · exact .inr ⟨hv.device ▸ h0, .inr ⟨hv.rack ▸ h1, .inr (.inr (h.1.congr hv ht))⟩⟩
  case offered =>
    by_cases hu : u.status.offered = none
    · exact .inr (.inl hu)
    · have hv' : v.status.offered = u.status.offered := by
        rcases ho with h | h
        · simpa using h
        · exact absurd (by simpa using h) hu
      have h' : (rackPick v).status.offered = v.status.offered →
          (finishEvent before u).status.offered = u.status.offered := by
        intro h
        rcases ho' with h' | h'
        · exact h'.trans (h.trans hv')
        · exact absurd (hv'.symm.trans (h.symm.trans h')) hu
      rcases hr with ⟨-, -, -, h | h⟩ | ⟨-, h | ⟨-, h | h | h⟩⟩
      · exact .inl (h' h)
      · exact .inr (.inr (.inl ⟨hv' ▸ h.1, hv.replies ▸ h.2⟩))
      · exact .inl (h' h.2)
      · exact .inr (.inr (.inr (.inl (h.congr hv ht))))
      · exact .inr (.inr (.inr (.inr (h.congr hv ht))))
      · exact .inl (h' h.2)
  all_goals simp

/-- Marks behind others release what `frees` names when it names their associations and classes (R125). -/
theorem afterMarks_append (marks new : List ReleaseMark) (frees : Fin 64 → ExcClass → Bool)
    (h : ∀ a c, frees a c = true ↔ ∃ m ∈ new, a = m.assoc ∧ c = m.cls) (e : ParkEntry) :
    e.afterMarks (marks ++ new) = e.afterEvent marks frees := by
  unfold ParkEntry.afterMarks ParkEntry.afterEvent ParkEntry.afterMarks
  by_cases hn : ∃ m ∈ new, e.assoc = m.assoc ∧ e.cls = m.cls
  · rw [if_pos ((h e.assoc e.cls).2 hn), if_pos]
    obtain ⟨m, hm, hx⟩ := hn
    exact ⟨m, List.mem_append_right _ hm, hx⟩
  · rw [if_neg (fun hf => hn ((h e.assoc e.cls).1 hf))]
    congr 1
    exact propext ⟨fun ⟨m, hm, hx⟩ => (List.mem_append.1 hm).elim (fun hm => ⟨m, hm, hx⟩) (fun hm => absurd ⟨m, hm, hx⟩ hn),
      fun ⟨m, hm, hx⟩ => ⟨m, List.mem_append_left _ hm, hx⟩⟩

/-- An event that left the park list and posted the marks `new` releases what they name. -/
theorem releases_of_settled {s u t : State} (hs : Settled u t) (new : List ReleaseMark) (frees : Fin 64 → ExcClass → Bool)
    (hp : u.disp.park = s.disp.park) (hm : u.disp.marks = s.disp.marks ++ new)
    (h : ∀ a c, frees a c = true ↔ ∃ m ∈ new, a = m.assoc ∧ c = m.cls) : Releases s t frees := by
  unfold Releases
  rw [hs.park, hp, hm]
  exact List.map_congr_left (fun e _ => afterMarks_append _ _ _ h e)

end Sys2Proof.Machine
end

