-- ==== Sys2Proof/Laws/Sparse.lean ====
section
/-! SUPPORT. The basic laws of tables: a read after a write gives the value written, every other key reads as before, and
each write keeps the canonical form. -/

namespace Sys2Proof.Machine

variable {α : Type}

/-- A key below every listed one is not listed. -/
theorem tableGet_none_of_lt {t : List (Nat × α)} {i : Nat} (h : ∀ p ∈ t, i < p.1) : tableGet t i = none := by
  induction t with
  | nil => rfl
  | cons p t ih =>
    obtain ⟨k, v⟩ := p
    have hk : i < k := h (k, v) (by simp)
    simp only [tableGet, if_neg (show ¬k = i by omega)]
    exact ih (fun p hp => h p (by simp [hp]))

theorem tableGet_tablePut (t : List (Nat × α)) (i j : Nat) (x : α) (h : tableSorted t) :
    tableGet (tablePut t i x) j = if j = i then some x else tableGet t j := by
  induction t with
  | nil =>
    by_cases hj : j = i
    · simp [tablePut, tableGet, hj]
    · simp [tablePut, tableGet, hj, Ne.symm hj]
  | cons p t ih =>
    obtain ⟨k, v⟩ := p
    have ht := (List.pairwise_cons.mp h)
    unfold tablePut
    split
    · rename_i hik
      by_cases hj : j = i
      · simp [tableGet, hj]
      · simp [tableGet, hj, Ne.symm hj]
    · split
      · rename_i hki
        subst hki
        by_cases hj : j = k
        · simp [tableGet, hj]
        · simp [tableGet, hj, Ne.symm hj]
      · rename_i h1 h2
        simp only [tableGet, ih ht.2]
        by_cases hj : j = i
        · subst hj
          simp [h2]
        · simp [hj]

theorem mem_tablePut {t : List (Nat × α)} {i : Nat} {x : α} {p : Nat × α} (h : p ∈ tablePut t i x) :
    p = (i, x) ∨ p ∈ t := by
  induction t with
  | nil => simpa [tablePut] using h
  | cons q t ih =>
    obtain ⟨k, v⟩ := q
    unfold tablePut at h
    split at h
    · simpa using h
    · split at h
      · rcases List.mem_cons.mp h with h | h
        · exact .inl h
        · exact .inr (by simp [h])
      · rcases List.mem_cons.mp h with h | h
        · exact .inr (by simp [h])
        · rcases ih h with h | h
          · exact .inl h
          · exact .inr (by simp [h])

theorem tablePut_sorted (t : List (Nat × α)) (i : Nat) (x : α) (h : tableSorted t) : tableSorted (tablePut t i x) := by
  induction t with
  | nil => simp [tablePut, tableSorted]
  | cons p t ih =>
    obtain ⟨k, v⟩ := p
    have ht := List.pairwise_cons.mp h
    unfold tablePut
    split
    · rename_i hik
      refine List.pairwise_cons.mpr ⟨?_, h⟩
      intro q hq
      rcases List.mem_cons.mp hq with rfl | hq
      · exact hik
      · have := ht.1 q hq
        simp only at this ⊢
        omega
    · split
      · rename_i hki
        subst hki
        exact List.pairwise_cons.mpr ⟨ht.1, ht.2⟩
      · rename_i h1 h2
        refine List.pairwise_cons.mpr ⟨?_, ih ht.2⟩
        intro q hq
        rcases mem_tablePut hq with rfl | hq
        · simp only; omega
        · exact ht.1 q hq

theorem tableErase_sorted (t : List (Nat × α)) (i : Nat) (h : tableSorted t) : tableSorted (tableErase t i) :=
  h.filter _

theorem tableGet_tableErase (t : List (Nat × α)) (i j : Nat) :
    tableGet (tableErase t i) j = if j = i then none else tableGet t j := by
  induction t with
  | nil => simp [tableErase, tableGet]
  | cons p t ih =>
    obtain ⟨k, v⟩ := p
    simp only [tableErase] at ih
    by_cases hk : k = i
    · subst hk
      simp only [tableErase, bne_self_eq_false, Bool.false_eq_true, not_false_eq_true, List.filter_cons_of_neg, ih]
      by_cases hj : j = k
      · simp [hj]
      · simp [hj, tableGet, Ne.symm hj]
    · have he : tableErase ((k, v) :: t) i = (k, v) :: tableErase t i := by simp [tableErase, hk]
      have ih' : tableGet (tableErase t i) j = if j = i then none else tableGet t j := ih
      simp only [he, tableGet, ih']
      by_cases hj : j = i
      · subst hj; simp [hk]
      · simp [hj]

theorem tableGet_mem {t : List (Nat × α)} {i : Nat} {x : α} (h : tableGet t i = some x) : (i, x) ∈ t := by
  induction t with
  | nil => simp [tableGet] at h
  | cons p t ih =>
    obtain ⟨k, v⟩ := p
    simp only [tableGet] at h
    split at h
    · rename_i hk; subst hk; simp_all
    · simp [ih h]

/-! ## The segment map (R76, R79) -/

/-- An entry written reads back, and every other entry reads as before. -/
theorem segMap_read_write (m : List (Nat × SegEntry)) (i j : Nat) (e : SegEntry) (h : SegMap.wf m) :
    SegMap.read (SegMap.write m i e) j = if j = i then e else SegMap.read m j := by
  unfold SegMap.read SegMap.write
  split
  · rename_i he
    rw [tableGet_tableErase]
    by_cases hj : j = i <;> simp [hj, he]
  · rw [tableGet_tablePut _ _ _ _ h.1]
    by_cases hj : j = i <;> simp [hj]

/-- A write keeps the canonical form. -/
theorem segMap_write_wf (m : List (Nat × SegEntry)) (i : Nat) (e : SegEntry) (hi : i < 4096) (h : SegMap.wf m) :
    SegMap.wf (SegMap.write m i e) := by
  unfold SegMap.write
  split
  · exact ⟨tableErase_sorted _ _ h.1, fun p hp => h.2 p (List.mem_filter.mp hp).1⟩
  · rename_i he
    refine ⟨tablePut_sorted _ _ _ h.1, fun p hp => ?_⟩
    rcases mem_tablePut hp with rfl | hp
    · exact ⟨hi, he⟩
    · exact h.2 p hp

/-- Equal maps are equal data: two maps in canonical form that read alike are the same list. -/
theorem table_ext {s t : List (Nat × α)} (hs : tableSorted s) (ht : tableSorted t)
    (h : ∀ i, tableGet s i = tableGet t i) : s = t := by
  induction s generalizing t with
  | nil =>
    cases t with
    | nil => rfl
    | cons p t => have := h p.1; simp [tableGet] at this
  | cons p s ih =>
    obtain ⟨k, v⟩ := p
    have hs' := List.pairwise_cons.mp hs
    cases t with
    | nil => have := h k; simp [tableGet] at this
    | cons q t =>
      obtain ⟨k', v'⟩ := q
      have ht' := List.pairwise_cons.mp ht
      have hkk : k = k' := by
        rcases Nat.lt_trichotomy k k' with hlt | heq | hgt
        · have := h k
          rw [tableGet_none_of_lt (t := (k', v') :: t)] at this
          · simp [tableGet] at this
          · intro p hp
            rcases List.mem_cons.mp hp with rfl | hp
            · exact hlt
            · exact Nat.lt_trans hlt (ht'.1 p hp)
        · exact heq
        · have := h k'
          rw [tableGet_none_of_lt (t := (k, v) :: s)] at this
          · simp [tableGet] at this
          · intro p hp
            rcases List.mem_cons.mp hp with rfl | hp
            · exact hgt
            · exact Nat.lt_trans hgt (hs'.1 p hp)
      subst hkk
      have hv : v = v' := by have := h k; simpa [tableGet] using this
      subst hv
      congr 1
      refine ih hs'.2 ht'.2 fun i => ?_
      by_cases hi : k = i
      · subst hi
        rw [tableGet_none_of_lt hs'.1, tableGet_none_of_lt ht'.1]
      · have := h i
        simpa [tableGet, hi] using this

/-! ## Cells of the pool (R88, R90) -/

@[simp] theorem poolCells_nil : poolCells [] = 0 := rfl

@[simp] theorem poolCells_cons (p : Nat × Descriptor) (t : List (Nat × Descriptor)) :
    poolCells (p :: t) = p.2.cells + poolCells t := by simp [poolCells]

/-- A descriptor put under a free handle adds its cells. -/
theorem poolCells_put_new (t : List (Nat × Descriptor)) (h : Nat) (d : Descriptor) (hf : tableGet t h = none) :
    poolCells (tablePut t h d) = d.cells + poolCells t := by
  induction t with
  | nil => simp [tablePut]
  | cons p t ih =>
    obtain ⟨k, v⟩ := p
    simp only [tableGet] at hf
    split at hf
    · simp at hf
    · rename_i hk
      unfold tablePut
      split
      · simp
      · simp [ih hf]; omega

/-- A descriptor replaced by one with the same cells changes no count. -/
theorem poolCells_put_same (t : List (Nat × Descriptor)) (h : Nat) (d e : Descriptor) (hs : tableSorted t)
    (hf : tableGet t h = some e) (hc : d.cells = e.cells) : poolCells (tablePut t h d) = poolCells t := by
  induction t with
  | nil => simp [tableGet] at hf
  | cons p t ih =>
    obtain ⟨k, v⟩ := p
    have hs' := List.pairwise_cons.mp hs
    simp only [tableGet] at hf
    split at hf
    · rename_i hk
      subst hk
      simp only [Option.some.injEq] at hf
      simp [tablePut, hf, hc]
    · rename_i hk
      have hlt : k < h := hs'.1 _ (tableGet_mem hf)
      unfold tablePut
      rw [if_neg (by omega), if_neg hk]
      simp [ih hs'.2 hf]

/-- A key that is not listed is not erased. -/
theorem tableErase_of_none {t : List (Nat × α)} {i : Nat} (h : ∀ p ∈ t, p.1 ≠ i) : tableErase t i = t := by
  unfold tableErase
  exact List.filter_eq_self.mpr fun p hp => by simpa using h p hp

/-- A descriptor erased takes its cells. -/
theorem poolCells_erase (t : List (Nat × Descriptor)) (h : Nat) (d : Descriptor) (hs : tableSorted t)
    (hf : tableGet t h = some d) : poolCells (tableErase t h) + d.cells = poolCells t := by
  induction t with
  | nil => simp [tableGet] at hf
  | cons p t ih =>
    obtain ⟨k, v⟩ := p
    have hs' := List.pairwise_cons.mp hs
    simp only [tableGet] at hf
    by_cases hk : k = h
    · subst hk
      simp only [if_true, Option.some.injEq] at hf
      subst hf
      have ht : tableErase ((k, v) :: t) k = t := by
        have : tableErase t k = t := tableErase_of_none fun p hp => by have := hs'.1 p hp; simp only at this; omega
        simpa [tableErase] using this
      simp [ht]; omega
    · rw [if_neg hk] at hf
      have := ih hs'.2 hf
      have he : tableErase ((k, v) :: t) h = (k, v) :: tableErase t h := by
        simp [tableErase, hk]
      simp only [he, poolCells_cons]
      omega

end Sys2Proof.Machine
end

