-- ==== Sys2Proof/WellFormed.lean ====
section
/-! DEFINITION. Which commands are well formed. Most bounds are in the operand types; these are the rest. -/

namespace Sys2Proof

/-- A reception has at least one byte (R94). -/
def RackReception.wellFormed (r : RackReception) : Bool :=
  !r.frame.data.isEmpty

/-- A reception has at least one byte (R104). -/
def InboundReception.wellFormed (r : InboundReception) : Bool :=
  !r.frame.data.isEmpty

/-- A start bit follows at least 16 bit times of high lines (R27); a serial memory read by a 3-byte address
holds at most 2^24 bytes (R212). Every other command is well formed by its operand types. -/
def Instr.wellFormed : Instr → Bool
  | .deviceReset => true
  | .loadingStart _ => true
  | .imageReadDone memory => decide (memory.length ≤ 2 ^ 24)
  | .settleTimerExpiry => true
  | .zeroizePinRequest => true
  | .zeroizeComplete => true
  | .busAttemptStart idleBits => decide (16 ≤ idleBits)
  | .claim _ _ _ _ _ _ => true
  | .beacon _ _ _ _ _ => true
  | .advance _ _ _ _ _ => true
  | .join _ _ _ => true
  | .rackFrameReceived r => r.wellFormed
  | .inboundFrameReceived r => r.wellFormed
  | .rackPauseTimerExpiry => true
  | .campusPauseTimerExpiry => true
  | .pauseRepeatTimerExpiry => true
  | .rackTransmitDone => true
  | .statusFrameDue => true
  | .dispatch => true
  | .parkTimeout _ => true
  | .keyTakeUp _ _ => true
  | .laneFinish _ => true
  | .clearPassDone _ => true
  | .campusFrameSent => true
  | .scanStep => true
  | .commandFrameCheck => true
  | .unknownCommand => true
  | .installKey => true
  | .writeSegments => true
  | .moveSegments => true
  | .advanceEpoch => true
  | .retireSa => true
  | .flushSa => true
  | .quiesceQueue => true
  | .resumeQueue => true
  | .readStatus => true
  | .zeroize => true

end Sys2Proof
end

