-- ==== Sys2Proof/Tests/Slice0.lean ====
section
/-! SUPPORT. Tests: ill-formed commands refused, published vectors of the ciphers and checks, one step of each command with
results worked out from the rules by hand, and for each statement states and operands that meet its hypotheses. -/

namespace Sys2Proof.Tests

set_option Elab.async false

open Sys2Proof.Machine

/-! ## Well-formedness -/

theorem smoke_rack_frame_empty :
    Instr.wellFormed (.rackFrameReceived { frame := { data := [], fcs := 0 }, ranShort := none,
                                           begunBeforeZeroize := false, begunBeforeUp := false }) = false := by decide

theorem smoke_inbound_frame_empty :
    Instr.wellFormed (.inboundFrameReceived { frame := { data := [], fcs := 0 }, ranOut := false,
                                              begunBeforeUp := false }) = false := by decide

/-- A start bit follows 16 bit times of idle (R27). -/
theorem smoke_attempt_before_idle : Instr.wellFormed (.busAttemptStart 15) = false := by decide

theorem smoke_image_too_long (memory : List Byte) (h : 2 ^ 24 < memory.length) :
    Instr.wellFormed (.imageReadDone memory) = false := by
  simpa [Instr.wellFormed] using h

/-! ## Published vectors -/

/-- FIPS 197, appendix C.3. -/
theorem test_aes256 :
    aesBlock (aesRoundKeys 0x000102030405060708090a0b0c0d0e0f101112131415161718191a1b1c1d1e1f)
      (beBytes 16 0x00112233445566778899aabbccddeeff) = beBytes 16 0x8ea2b7ca516745bfeafc49904b496089 := by
  decide +kernel

/-- The test cases of the Galois/counter mode proposal for a 256-bit key: case 13, no text. -/
theorem test_gmac_empty : gcmTag 0 (beBytes 12 0) [] [] = beBytes 16 0x530f8afbc74536b9a963b4f1c4cb738b := by
  decide +kernel

/-- The same test cases: case 14, one block of zeros. -/
theorem test_gcm_block :
    gcmCrypt 0 (beBytes 12 0) (beBytes 16 0) = beBytes 16 0xcea7403d4d606b6e074ec5d3baf39d18 ∧
    gcmTag 0 (beBytes 12 0) [] (beBytes 16 0xcea7403d4d606b6e074ec5d3baf39d18) =
      beBytes 16 0xd0d1c8a799996bf0265b98b5d48ab919 := by
  decide +kernel

/-- The check values that the CRC catalogues give for the nine characters 1 to 9: CRC-32 (IEEE 802.3), the same generator
without reflection (R212), and generator 8005h with preset FFFFh (R204). -/
theorem test_crcs :
    let digits := beBytes 9 0x313233343536373839
    ethernetFcs digits = 0xcbf43926 ∧ imageCrc digits = 0xfc891918 ∧ crc16 (digits.flatMap msbBits) = 0xaee7 := by
  decide +kernel

/-! ## States of the tests -/

/-- The state a command leaves; the command's state before where it does not complete. -/
def after (c : Instr) (s : State) : State :=
  match exec c s with
  | .next t => t
  | _ => s

/-- A configuration: every fault parks, association 0 to 4 defined with W = 4096, G = 512, M = 100, level 1. -/
def cfg : Image :=
  { Image.absent with
    ownAddress := 0x020000000001, agentAddress := 0x020000000002, commandType := 0x88b5, envelopeType := 0x88b6, cMax := 1518,
    settleTime := 1, holdLimit := 10, pOn := 384, hysteresis := 256, pauseTime := 5, caps := Vector.replicate 8 2048,
    parkCap := 2048, defaultSegment := 7, ladder := #v[256, 512, 1024, 2048],
    settings := Vector.replicate 13 { disposition := .park, notify := false, alert := false },
    defs := Vector.ofFn (fun a : Fin 64 =>
      if a.val < 5 then { defined := true, window := 4096, guard := 512, margin := 100, startLevel := 1 }
      else AssocDef.undefined) }

/-- An association's record with its reservation. -/
def live : Assoc :=
  { Assoc.reset with
    state := .live, epoch := some 7, hwm := some 300, assigned := 92,
    active := some { start := 91, stop := 95, next := 93 }, queued := some { start := 200, stop := 300 }, acc := 3 }

/-- A key slot. -/
def key (role : Role) (epoch uses : Nat) : KeySlot :=
  { role := role, epoch := epoch, key := 9, limit := 1000, check := 4255105189573596117, uses := uses }

/-- A working part: association 0 with record `r` and slots `k`. -/
def part (r : Assoc) (k : Vector KeySlot 4) : State :=
  { State.reset with
    device := .running, image := some cfg, station := 3, time := 500, assocs := State.reset.assocs.set 0 r,
    keys := State.reset.keys.set 0 k }

/-- Association 0 LIVE with a CURRENT key of epoch 7 and λ = 1000. -/
def liveKeys : Vector KeySlot 4 := #v[key .current 7 0, KeySlot.wiped, KeySlot.wiped, KeySlot.wiped]

/-- As `liveKeys`, with a STANDBY of epoch 8. -/
def standbyKeys : Vector KeySlot 4 := #v[key .current 7 0, key .standby 8 0, KeySlot.wiped, KeySlot.wiped]

/-- A working part with association 0 LIVE. -/
def s0 : State := part live liveKeys

/-- A message as it ends well: right CRC, acknowledged by a peer, no error. -/
def good (m : BusMessage) : BusEnding :=
  { crc := m.crc, peersAck := true, peersErr := false, afterIdle := true, startRead := false }

/-- Its sender's message on the bus. -/
def sending (m : BusMessage) (s : State) : State :=
  { s with bus := { s.bus with
      onBus := some { message := m, withdrawn := false }, txList := [{ kind := m.content.kind, assoc := m.target }] } }

/-- A frame of 60 bytes to another address, with segment 5 in its tag. -/
def egress : List Byte :=
  beBytes 6 0x020000000009 ++ beBytes 6 0x020000000008 ++ beBytes 2 0x8100 ++ beBytes 2 5 ++ List.replicate 44 0x55

/-- A stored frame of association 0 on queue 2. -/
def stored (action : FrameAction) : Descriptor :=
  { length := 60, action := action, queue := 2, arrival := 100, cells := 1, data := egress, assigned := none }

/-- The part with one frame stored under handle 5 at the head of queue 2. -/
def withQueued (action : FrameAction) (s : State) : State :=
  { s with buf := { s.buf with
      pool := [(5, stored action)], freeCells := 2047, queues := s.buf.queues.set 2 [5],
      queueCells := s.buf.queueCells.set 2 1 } }

/-- The part with that frame on the park list instead. -/
def withParked (released : Bool) (cls : ExcClass) (s : State) : State :=
  { s with
    buf := { s.buf with pool := [(5, stored (.encrypt 0))], freeCells := 2047 },
    disp := { s.disp with
      park := [{ frame := 5, assoc := 0, queue := 2, cls := cls, released := released, parkTime := 0, reclassify := 0 }],
      parkedCells := 1 } }

/-- The part with that frame in lane 1, in a condition, with its completion entry. -/
def withLane (lane : Lane) (action : FrameAction) (finished : Bool) (s : State) : State :=
  { s with
    buf := { s.buf with
      pool := [(5, { stored action with assigned := some { counter := 92, epoch := 7, slot := { assoc := 0, index := 0 } } })],
      freeCells := 2047 },
    lanes := {
      lanes := s.lanes.lanes.set 1 lane,
      completion := [{ frame := 5, action := action, queue := 2, finished := finished, header := [], tag := [],
                       outLength := 88 }],
      inFlight := s.lanes.inFlight.set 2 1 } }

/-- A link control frame of 60 bytes with an operation code and a time. -/
def linkControl (op time : Nat) : List Byte :=
  beBytes 6 0x0180c2000001 ++ beBytes 6 8 ++ beBytes 2 0x8808 ++ beBytes 2 op ++ beBytes 2 time ++ List.replicate 42 0

/-- A command frame with tag 77 and an authentication tag of zeros. -/
def commandFrame (code : Nat) (body : List Byte) : List Byte :=
  padTo60 (beBytes 6 0x020000000001 ++ beBytes 6 2 ++ beBytes 2 0x88b5 ++ beBytes 2 77 ++ beBytes 1 code ++
    beBytes 2 body.length ++ body ++ List.replicate 16 0)

/-- A command in EXECUTING. -/
def commanded (code : Nat) (body : List Byte) (s : State) : State :=
  { s with engine := { s.engine with state := .executing, input := [commandFrame code body] } }

/-- A frame as received whole on the rack port. -/
def received (data : List Byte) : RackReception :=
  { frame := withFcs data, ranShort := none, begunBeforeZeroize := false, begunBeforeUp := false }

/-- A frame as received whole on the campus port. -/
def receivedInbound (data : List Byte) : InboundReception :=
  { frame := withFcs data, ranOut := false, begunBeforeUp := false }

/-- The part with segment 5 mapped. -/
def mapped (e : SegEntry) (s : State) : State := { s with segMap := [(5, e)] }

/-- The part with a reply waiting. -/
def withReply (s : State) : State :=
  { s with status := { s.status with replies := [{ tag := 77, code := 6, result := .done, value := 0, counters := [] }] } }

/-- The rack transmitter sending a frame of a kind. -/
def rackSending (kind : RackFrameKind) (s : State) : State :=
  { s with rack := { sending := some (kind, withFcs egress), cutShort := false, pauseTimer := 0 } }

/-- A notice of a kind. -/
def notice (kind : NoticeKind) (detail : NoticeDetail) : Notice := newNotice kind detail 0 7 1 1 false

/-- The part with notices queued. -/
def withNotices (l : List Notice) (s : State) : State := { s with status := { s.status with notices := l } }

/-! ## The machine, device reset and start-up -/

theorem witness_StepRunsFrontCommand :
    ({ s0 with pending := [.dispatch, .scanStep] } : State).pending = .dispatch :: [.scanStep] ∧
    s0.pending = [] ∧ s0.device ≠ .heldInReset ∧ State.reset.pending = [] ∧ State.reset.device = .heldInReset := by
  decide +kernel

/-- The time counter wraps from 2^32 − 1 to 0 (R185). -/
theorem test_time_wraps : (tick { s0 with time := 0xffffffff }).time = 0 ∧ (tick State.reset).time = 0 := by decide +kernel

theorem test_device_reset : after .deviceReset s0 = State.reset := by decide +kernel

theorem witness_LoadingStartReadsStraps : State.reset.device = .heldInReset ∧ s0.device ≠ .heldInReset := by decide +kernel

/-- Straps 5 give station number 5 (R190). -/
theorem test_loading_start :
    (after (.loadingStart 5) State.reset).station = 5 ∧ (after (.loadingStart 5) State.reset).device = .loading ∧
    (after (.loadingStart 5) State.reset).cfgCsN = false := by
  decide +kernel

/-- A part in LOADING. -/
def loading : State := after (.loadingStart 5) State.reset

/-- The smallest image with one run: association 0 defined, index 4095 to ENCRYPT, association 0, queue 3. -/
def image : List Byte :=
  beBytes 4 0x5a3c0001 ++ beBytes 4 1188 ++ beBytes 6 0x020000000001 ++ beBytes 6 0x020000000002 ++ beBytes 2 0x88b5 ++
    beBytes 2 0x88b6 ++ beBytes 2 1518 ++ [0] ++ [1] ++ beBytes 2 10 ++ beBytes 2 384 ++ beBytes 2 256 ++ beBytes 2 5 ++
    (List.replicate 8 (beBytes 2 2048)).flatten ++ beBytes 2 2048 ++ beBytes 2 7 ++ beBytes 4 256 ++ beBytes 4 512 ++
    beBytes 4 1024 ++ beBytes 4 2048 ++ [1, 1, 1, 2, 2] ++ List.replicate 11 0 ++
    [1, 2] ++ beBytes 4 4096 ++ beBytes 4 512 ++ beBytes 6 100 ++ List.replicate 1008 0 ++ beBytes 32 5 ++ beBytes 32 6 ++
    [0, 0] ++ beBytes 2 4095 ++ beBytes 2 1 ++ beBytes 2 (2 ^ 14 + 3) ++ beBytes 4 1620307547

theorem witness_InvalidImageHalts :
    loading.device = .loading ∧ imageFault (serialRead []) = some .format ∧
    imageFault (serialRead (beBytes 4 0x5a3c0001 ++ beBytes 4 1183)) = some .length := by
  decide +kernel

theorem test_invalid_image_halts :
    (after (.imageReadDone []) loading).device = .halted ∧ (after (.imageReadDone []) loading).alertN = false ∧
    (after (.imageReadDone []) loading).image = none := by
  decide +kernel

/-- The image passes the nine checks, its CRC-32 among them. -/
theorem witness_ValidImageEntersSettling :
    loading.device = .loading ∧ imageFault (serialRead image) = none ∧ SegMap.wf loading.segMap := by
  decide +kernel

theorem test_valid_image :
    let t := after (.imageReadDone image) loading
    t.device = .settling ∧ (t.assoc 0).state = .settling ∧ (t.assoc 0).level = 2 ∧ (t.assoc 1).state = .dormant ∧
      SegMap.read t.segMap 4095 = .encrypt 0 3 ∧ SegMap.read t.segMap 0 = .drop ∧ t.engine.commandKey = 5 ∧
      t.bus.settleTimer = some 1 ∧ t.cfgCsN = true := by
  decide +kernel

/-- A PENDING key of an epoch. -/
def pending (epoch : Nat) : KeySlot := { key .pending epoch 0 with check := 0 }

/-- SETTLING: association 0 has heard epoch 7 up to 50 and holds keys of 7, 8 and 9; 1 holds a key of 65534, 2 nothing, 3 is
RETIRED, 4 holds a key of 65535. -/
def settling : State :=
  { part { Assoc.reset with state := .settling, settleView := some { epoch := 7, hwm := 50 } }
      #v[pending 7, pending 8, pending 9, KeySlot.wiped] with
    device := .settling,
    bus := { Bus.reset with settleTimer := some 1, txList := [{ kind := .join, assoc := 0 }] },
    assocs := ((((State.reset.assocs.set 0
        { Assoc.reset with state := .settling, settleView := some { epoch := 7, hwm := 50 } }).set 1
      { Assoc.reset with state := .settling }).set 2 { Assoc.reset with state := .settling }).set 3
        { Assoc.reset with state := .retired }).set 4 { Assoc.reset with state := .settling },
    keys := ((State.reset.keys.set 0 #v[pending 7, pending 8, pending 9, KeySlot.wiped]).set 1
      #v[pending 65534, KeySlot.wiped, KeySlot.wiped, KeySlot.wiped]).set 4
        #v[pending 65535, KeySlot.wiped, KeySlot.wiped, KeySlot.wiped] }

theorem witness_SettleExpiryPlacesKeys :
    settling.device = .settling ∧ settling.bus.settleTimer.isSome ∧
    ((settling.assoc 0).state = .settling ∧ (settling.assoc 0).settleView = some { epoch := 7, hwm := 50 }) ∧
    ((settling.assoc 1).state = .settling ∧ (settling.assoc 1).settleView = none ∧
      settling.lowestPending 1 = some 65534 ∧ (settling.assoc 1).pendingAdvance = none) ∧
    ((settling.assoc 2).state = .settling ∧ (settling.assoc 2).settleView = none ∧ settling.lowestPending 2 = none) ∧
    (settling.assoc 3).state ≠ .settling ∧ settling.lowestPending 4 = some 65535 := by
  decide +kernel

theorem test_settle_timer_expiry :
    let t := after .settleTimerExpiry settling
    t.device = .running ∧ (t.assoc 0).state = .live ∧ (t.assoc 0).hwm = some 50 ∧
      (t.slots 0).toList.map (·.role) = [.current, .standby, .empty, .empty] ∧ (t.assoc 1).state = .blind ∧
      (t.assoc 2).state = .dormant ∧ (t.assoc 3).state = .retired ∧ (t.assoc 4).state = .retired := by
  decide +kernel

/-- With the rack transmitter sending: KEY-DISCARDED 9 and two KEY-PLACED of association 0, KEY-WANTED and KEY-PLACED of 1,
EPOCH-END and KEY-PLACED of 4, and SETTLED with one LIVE association (R54, R55, R56, R192). -/
theorem witness_SettleExpiryPlacesKeys_notices :
    let s := rackSending .pause settling
    let t := after .settleTimerExpiry s
    NoticesKept s t ∧
    t.status.notices.map (fun n => (n.kind, n.assoc, n.epoch, n.value)) =
      [(.keyDiscarded, 0, 9, 0), (.keyPlaced, 0, 7, 0), (.keyPlaced, 0, 8, 0), (.keyWanted, 1, 65535, 0),
       (.keyPlaced, 1, 65534, 0), (.advanced, 4, 65535, s.station.toNat), (.keyPlaced, 4, 65535, 0), (.settled, 255, 0, 1)] := by
  unfold NoticesKept
  decide +kernel

/-! ## Zeroization -/

/-- The part with the zeroize latch set. -/
def latched : State := { s0 with zeroizeLatch := true }

theorem witness_ZeroizeRequestErases :
    latched.zeroizeLatch = true ∧ (State.reset.zeroizeLatch = false ∧ State.reset.device = .heldInReset) ∧
    (let s : State := { State.reset with device := .halted }; s.zeroizeLatch = false ∧ s.device = .halted) ∧
    (loading.zeroizeLatch = false ∧ loading.device = .loading) ∧
    (settling.zeroizeLatch = false ∧ settling.device = .settling) ∧ (s0.zeroizeLatch = false ∧ s0.device = .running) ∧
    tableSorted (withQueued (.encrypt 0) s0).buf.pool ∧
    (withQueued (.encrypt 0) s0).buf.freeCells + poolCells (withQueued (.encrypt 0) s0).buf.pool = 2048 := by
  decide +kernel

theorem test_zeroize_pin_request :
    let t := after .zeroizePinRequest (withQueued (.encrypt 0) s0)
    t.device = .zeroizing ∧ t.slot { assoc := 0, index := 0 } = KeySlot.wiped ∧ t.buf.freeCells = 2048 ∧
      t.buf.pool = [] ∧ (t.assoc 0).state = .dormant ∧ (t.assoc 0).acc = 3 ∧ t.alertN = false := by
  decide +kernel

/-- One frame on the completion list, one parked, one queued, each of one cell: released in this order, the last first in the list,
whatever their handles (R196). -/
theorem test_zeroize_release_order :
    let frame := fun (b : Byte) => { stored (.encrypt 0) with data := [b] }
    let s := withLane .idle (.encrypt 0) true (withParked false .noKey s0)
    let e := s.disp.park.map ({ · with frame := 2 })
    let u := { s with buf := { s.buf with pool := [(2, frame 0x22), (4, frame 0x44), (5, frame 0x55)],
                                          queues := s.buf.queues.set 2 [4] }, disp := { s.disp with park := e } }
    (after .zeroizePinRequest u).buf.leftover.take 3 = [[0x44], [0x22], [0x55]] := by
  decide +kernel

/-- ZEROIZING, with `n` notices queued. -/
def zeroizing (n : Nat) : State := withNotices (List.replicate n (notice .settled .none)) { latched with device := .zeroizing }

theorem witness_ZeroizeCompleteReports :
    ((zeroizing 31).device = .zeroizing ∧ (zeroizing 31).status.notices.length < 32) ∧
    ((zeroizing 32).device = .zeroizing ∧ 32 ≤ (zeroizing 32).status.notices.length) ∧
    (rackSending .pause (zeroizing 32)).rack.sending.isSome ∧ (rackSending .pause (zeroizing 32)).device = .zeroizing := by
  decide +kernel

theorem test_zeroize_complete :
    (after .zeroizeComplete (zeroizing 0)).device = .zeroized ∧
    (let s : State := { zeroizing 0 with rack := { sending := none, cutShort := false, pauseTimer := 1 } }
     (after .zeroizeComplete s).status.notices = [{ zeroizedNotice with time := 500 }]) ∧
    (after .zeroizeComplete (zeroizing 32)).status.notices.length = 25 := by
  decide +kernel

/-! ## The coordination bus -/

/-- The part with a transmit list. -/
def withTx (l : List TxEntry) (s : State) : State := { s with bus := { s.bus with txList := l } }

theorem witness_AttemptSendsFirstEntry :
    (let s := withTx [{ kind := .claim, assoc := 0 }] (part { live with hwm := some 999 } liveKeys)
     s.device.working = true ∧ s.bus.quiet = false ∧ s.bus.onBus = none ∧ s.bus.txList = { kind := .claim, assoc := 0 } :: [] ∧
       16 + s.bus.backoff ≤ 16 ∧ (s.assoc 0).front < s.limit 0) ∧
    (let s := withTx [{ kind := .advance, assoc := 0 }]
       (part { live with pendingAdvance := some { target := 8, reason := .rekey, condition := .queued } } standbyKeys)
     s.device.working = true ∧ s.bus.quiet = false ∧ s.bus.onBus = none ∧ 16 + s.bus.backoff ≤ 16 ∧
       (s.assoc 0).pendingAdvance = some { target := 8, reason := .rekey, condition := .queued }) ∧
    (let s := withTx [{ kind := .beacon, assoc := 0 }] s0
     s.device.working = true ∧ s.bus.quiet = false ∧ s.bus.onBus = none ∧ (s.assoc 0).state.frontKnown = true) ∧
    (settling.device.working = true ∧ settling.bus.txList = { kind := .join, assoc := 0 } :: [] ∧
      settling.bus.onBus = none ∧ settling.bus.quiet = false) := by
  decide +kernel

/-- λ − h = 1 leaves one counter: the CLAIM covers 1000 alone (R15). -/
theorem test_bus_attempt_start :
    (after (.busAttemptStart 16) (withTx [{ kind := .claim, assoc := 0 }]
      (part { live with hwm := some 999 } liveKeys))).bus.onBus.map (·.message.content) = some (.claim 7 1000 1) ∧
    (after (.busAttemptStart 16) (withTx [{ kind := .claim, assoc := 0 }] s0)).bus.onBus.map (·.message.content) =
      some (.claim 7 301 512) := by
  decide +kernel

theorem witness_ExhaustedClaimIsNotSent :
    let s := withTx [{ kind := .claim, assoc := 0 }] (part { live with hwm := some 1000, pendingClaim := true } standbyKeys)
    s.device.working = true ∧ s.bus.quiet = false ∧ s.bus.onBus = none ∧ s.bus.txList = { kind := .claim, assoc := 0 } :: [] ∧
      16 + s.bus.backoff ≤ 16 ∧ s.limit 0 ≤ (s.assoc 0).front ∧ (s.assoc 0).state = .live ∧ (s.assoc 0).epochOrZero < 65535 ∧
      (s.assoc 0).pendingAdvance = none ∧ s.hasStandby 0 = true := by
  decide +kernel

/-- A peer's CLAIM of association 0 in epoch 7. -/
def claim7 (start : BitVec 48) (count : BitVec 24) : BusMessage := { assoc := 0, sender := 2, content := .claim 7 start count }

/-- The claim starts right behind the reservation's end. -/
theorem witness_PeerClaimRaisesFront :
    s0.hears (claim7 301 16) (good (claim7 301 16)) ∧ s0.bus.quiet = false ∧ s0.bus.errorCount < 128 ∧
    (s0.assocDef (claim7 301 16).target).defined = true ∧ (claim7 301 16).content.valid = true ∧
    (s0.assoc 0).state = .live ∧ (s0.assoc 0).epoch = some 7 ∧ (s0.assoc 0).assigned < 301 ∧
    (∀ n, (s0.assoc 0).reserves n → n < 301 ∨ 316 < n) := by
  refine ⟨by unfold State.hears; decide +kernel, by decide, by decide, by decide +kernel, by decide, by decide +kernel,
    by decide +kernel, by decide +kernel, ?_⟩
  have h : s0.assoc 0 = live := by decide +kernel
  rw [h]
  rintro n (⟨x, hx, -, h2⟩ | ⟨x, hx, -, h2⟩) <;> (simp [live] at hx; subst hx; simp at h2; omega)

/-- A KEY-WAIT association, a RETIRED and a BLIND one, and a claim below the epoch. -/
theorem witness_PeerClaimRaisesFront_others :
    let m := claim7 301 16
    let waits := part { live with state := .keyWait, active := none, queued := none } (Vector.replicate 4 KeySlot.wiped)
    let blind := part { Assoc.reset with state := .blind, epoch := some 7 } liveKeys
    let retired := part { Assoc.reset with state := .retired, epoch := some 7 } liveKeys
    let ahead := part { live with epoch := some 8 } liveKeys
    (∀ s ∈ [waits, blind, retired, ahead], s.hears m (good m) ∧ s.bus.quiet = false ∧ s.bus.errorCount < 128 ∧
      (s.assocDef 0).defined = true ∧ m.content.valid = true) ∧
    ((waits.assoc 0).state = .keyWait ∧ (waits.assoc 0).epoch = some 7 ∧ (waits.assoc 0).assigned < 301) ∧
    ((blind.assoc 0).state = .blind ∧ (blind.assoc 0).epoch = some 7) ∧ (retired.assoc 0).state = .retired ∧
    ((ahead.assoc 0).state.inEpoch = true ∧ 7 < (ahead.assoc 0).epochOrZero) := by
  unfold State.hears
  decide +kernel

/-- The claim [94, 200] meets the reservation: 94, 95 and 200 are removed, and 93 stays with its a (R21). -/
theorem test_claim_overlap :
    let t := after (.claim 0 2 7 94 107 (good (claim7 94 107))) s0
    (t.assoc 0).active = some { start := 91, stop := 93, next := 93 } ∧
      (t.assoc 0).queued = some { start := 201, stop := 300 } ∧ (t.assoc 0).acc = 110 ∧
      (t.counters.assoc[0])[AssocCount.discardOverlap.index] = 3 := by
  decide +kernel

theorem witness_PeerClaimLeavesNoOverlap :
    s0.hears (claim7 94 107) (good (claim7 94 107)) ∧ (s0.assocDef 0).defined = true ∧
    (claim7 94 107).content.valid = true ∧ (s0.assoc 0).state = .live ∧ (s0.assoc 0).epoch = some 7 ∧
    (s0.assoc 0).reserves 95 := by
  refine ⟨by unfold State.hears; decide +kernel, by decide +kernel, by decide, by decide +kernel, by decide +kernel, .inl ?_⟩
  exact ⟨{ start := 91, stop := 95, next := 93 }, by decide +kernel, by decide, by decide⟩

/-- A claim [94, 94] splits the active range: 93 stays active with a = 3 + 1, 95 becomes queued, and the queued range [200, 300],
the third piece, is discarded with 94. A claim from 93 on takes the active range whole, and the queued one becomes active with
a = 0 (R21). -/
theorem test_claim_overlap_pieces :
    let t := after (.claim 0 2 7 94 1 (good (claim7 94 1))) s0
    let u := after (.claim 0 2 7 93 3 (good (claim7 93 3))) s0
    ((t.assoc 0).active = some { start := 91, stop := 93, next := 93 } ∧ (t.assoc 0).queued = some { start := 95, stop := 95 } ∧
      (t.assoc 0).acc = 4 ∧ (t.counters.assoc[0])[AssocCount.discardOverlap.index] = 102) ∧
    ((u.assoc 0).active = some { start := 200, stop := 300, next := 200 } ∧ (u.assoc 0).queued = none ∧
      (u.assoc 0).acc = 0 ∧ (u.counters.assoc[0])[AssocCount.discardOverlap.index] = 3) := by
  decide +kernel

/-- p = u, in LIVE with a STANDBY and in KEY-WAIT without. -/
theorem witness_OverlapRequestsAdvance :
    (let s := part live standbyKeys
     s.hears (claim7 92 5) (good (claim7 92 5)) ∧ (s.assocDef 0).defined = true ∧ (s.assoc 0).state = .live ∧
       (s.assoc 0).epoch = some 7 ∧ 92 ≤ (s.assoc 0).assigned ∧ (s.assoc 0).pendingAdvance = none ∧ s.hasStandby 0 = true) ∧
    (let s := part { live with state := .keyWait, active := none, queued := none } (Vector.replicate 4 KeySlot.wiped)
     s.hears (claim7 92 5) (good (claim7 92 5)) ∧ (s.assocDef 0).defined = true ∧ (s.assoc 0).state = .keyWait ∧
       (s.assoc 0).epoch = some 7 ∧ 92 ≤ (s.assoc 0).assigned ∧ (s.assoc 0).pendingAdvance = none) ∧
    (claim7 92 5).content.valid = true ∧ (7 : BitVec 16).toNat < 65535 := by
  unfold State.hears
  decide +kernel

theorem witness_OverlapRequestsAdvance_notices :
    let s := rackSending .pause s0
    let t := after (.claim 0 2 7 92 5 (good (claim7 92 5))) s
    NoticesKept s t ∧ s.hasStandby 0 = false ∧ t.status.notices.map (fun n => (n.kind, n.epoch)) = [(.keyWanted, 8)] := by
  unfold NoticesKept
  decide +kernel

/-- This station's CLAIM on the bus, up to one below the rekey point 900. -/
def ownClaim7 (count : BitVec 24) : BusMessage := { assoc := 0, sender := 3, content := .claim 7 301 count }

theorem witness_OwnClaimIsWon :
    let s := sending (ownClaim7 599) (part { live with pendingClaim := true, queued := none } liveKeys)
    (ownClaim7 599).content = .claim 7 301 599 ∧ s.delivers (ownClaim7 599) false (good (ownClaim7 599)) ∧
      (s.assocDef 0).defined = true ∧ (ownClaim7 599).content.valid = true ∧ (s.assoc 0).state = .live ∧
      (s.assoc 0).epoch = some 7 ∧ 899 + (s.assocDef 0).margin < s.limit 0 ∧ ¬ 900 + (s.assocDef 0).margin < s.limit 0 := by
  unfold State.delivers
  decide +kernel

/-- The end 900 = λ − M with the rekey flag clear: an advance pending, none, three ranges; and epoch 65535. -/
theorem witness_OwnClaimIsWon_atPoint :
    let p : PendingAdvance := { target := 8, reason := .overlap, condition := .held }
    let own : BusMessage := { assoc := 0, sender := 3, content := .claim 65535 301 600 }
    (∀ r ∈ [{ live with queued := none }, live, { live with pendingAdvance := some p }],
      let s := sending (ownClaim7 600) (part r liveKeys)
      s.delivers (ownClaim7 600) false (good (ownClaim7 600)) ∧ (ownClaim7 600).content.valid = true ∧
        (s.assoc 0).state = .live ∧ (s.assoc 0).epoch = some 7 ∧ s.limit 0 ≤ 900 + (s.assocDef 0).margin ∧
        (s.assoc 0).rekeyRequested = false ∧ (s.assoc 0).active.isSome) ∧
    live.queued.isSome ∧
    (let s := sending own (part { live with epoch := some 65535 } liveKeys)
     s.delivers own false (good own) ∧ own.content.valid = true ∧ (s.assoc 0).state = .live ∧
       (s.assoc 0).epoch = some 65535 ∧ s.limit 0 ≤ 900 + (s.assocDef 0).margin ∧ (s.assoc 0).rekeyRequested = false) := by
  unfold State.delivers
  decide +kernel

/-- An own message on the bus whose pending claim was cancelled. -/
def withdrawn (m : BusMessage) (s : State) : State :=
  { s with bus := { s.bus with onBus := some { message := m, withdrawn := true } } }

/-- Own claims delivered late: in KEY-WAIT, in LIVE again, in RETIRED, and below the epoch; h alone is raised (log 11). -/
theorem witness_OwnClaimIsWon_late :
    let m := ownClaim7 16
    let waits := withdrawn m (part { live with state := .keyWait, active := none, queued := none } (Vector.replicate 4 KeySlot.wiped))
    let again := withdrawn m s0
    let retired := withdrawn m (part { Assoc.reset with state := .retired, epoch := some 7 } liveKeys)
    let ahead := withdrawn m (part { live with epoch := some 8 } liveKeys)
    (∀ s ∈ [waits, again, retired, ahead], s.delivers m true (good m) ∧ s.bus.quiet = false ∧ s.bus.errorCount < 128 ∧
      (s.assocDef 0).defined = true ∧ m.content.valid = true) ∧
    ((waits.assoc 0).state = .keyWait ∧ (waits.assoc 0).epoch = some 7) ∧
    ((again.assoc 0).state = .live ∧ (again.assoc 0).epoch = some 7) ∧ (retired.assoc 0).state = .retired ∧
    ((ahead.assoc 0).state.inEpoch = true ∧ 7 < (ahead.assoc 0).epochOrZero) ∧
    (after (.claim 0 3 7 301 16 (good m)) again).assoc 0 = { live with hwm := some 316 } := by
  unfold State.delivers
  decide +kernel

/-- The range joins as the queued range; at end 900 = λ − M the rekey flag is set and an advance is requested (R5, R18). -/
theorem test_claim_won :
    let s := fun n => sending (ownClaim7 n) (part { live with pendingClaim := true, queued := none } liveKeys)
    let t := fun n => after (.claim 0 3 7 301 n (good (ownClaim7 n))) (s n)
    ((t 599).assoc 0).queued = some { start := 301, stop := 899 } ∧ ((t 599).assoc 0).rekeyRequested = false ∧
      ((t 599).assoc 0).hwm = some 899 ∧ ((t 600).assoc 0).rekeyRequested = true ∧
      ((t 600).assoc 0).pendingAdvance = some { target := 8, reason := .rekey, condition := .held } := by
  decide +kernel

/-- A peer's BEACON of association 0. -/
def beacon (epoch : BitVec 16) (hwm : BitVec 48) : BusMessage := { assoc := 0, sender := 2, content := .beacon epoch hwm }

theorem witness_BeaconRaisesFront :
    (s0.hears (beacon 7 300) (good (beacon 7 300)) ∧ s0.bus.quiet = false ∧ s0.bus.errorCount < 128 ∧
      (s0.assocDef 0).defined = true ∧ (s0.assoc 0).state.frontKnown = true ∧ (s0.assoc 0).epoch = some 7) ∧
    (s0.hears (beacon 6 300) (good (beacon 6 300)) ∧ (s0.assoc 0).state.inEpoch = true ∧ 6 < (s0.assoc 0).epochOrZero) ∧
    (let s := part { Assoc.reset with state := .blind, epoch := some 7 } liveKeys
     s.hears (beacon 7 300) (good (beacon 7 300)) ∧ (s.assocDef 0).defined = true ∧ (s.assoc 0).state = .blind ∧
       (s.assoc 0).epoch = some 7) ∧
    (let s := part { Assoc.reset with state := .retired, epoch := some 7 } liveKeys
     s.hears (beacon 9 300) (good (beacon 9 300)) ∧ (s.assoc 0).state = .retired) := by
  unfold State.hears
  decide +kernel

/-- This station's own beacon. -/
def ownBeacon (epoch : BitVec 16) : BusMessage := { assoc := 0, sender := 3, content := .beacon epoch 310 }

/-- Own beacons delivered: in the epoch, below it, and of an association RETIRED since. -/
theorem witness_BeaconRaisesFront_own :
    let retired := part { Assoc.reset with state := .retired, epoch := some 7 } liveKeys
    ((sending (ownBeacon 7) s0).delivers (ownBeacon 7) false (good (ownBeacon 7)) ∧
      (s0.assoc 0).state.frontKnown = true ∧ (s0.assoc 0).epoch = some 7) ∧
    ((sending (ownBeacon 6) s0).delivers (ownBeacon 6) false (good (ownBeacon 6)) ∧
      (s0.assoc 0).state.inEpoch = true ∧ 6 < (s0.assoc 0).epochOrZero) ∧
    ((sending (ownBeacon 7) retired).delivers (ownBeacon 7) false (good (ownBeacon 7)) ∧ (retired.assoc 0).state = .retired) ∧
    s0.bus.quiet = false ∧ s0.bus.errorCount < 128 ∧ (s0.assocDef 0).defined = true ∧
    (after (.beacon 0 3 7 310 (good (ownBeacon 7))) (sending (ownBeacon 7) s0)).bus.txList = [] := by
  unfold State.delivers
  decide +kernel

theorem test_beacon :
    ((after (.beacon 0 2 7 301 (good (beacon 7 301))) s0).assoc 0).hwm = some 301 ∧
    ((after (.beacon 0 2 7 299 (good (beacon 7 299))) s0).assoc 0).hwm = some 300 ∧
    (after (.beacon 0 2 6 999 (good (beacon 6 999))) s0).counters.bus[BusCount.lateMessages.index] = 1 := by
  decide +kernel

/-- A peer's ADVANCE of association 0. -/
def advance (epoch : BitVec 16) : BusMessage := { assoc := 0, sender := 2, content := .advance epoch 0 }

theorem witness_SettleViewRecords :
    (settling.hears (claim7 40 11) (good (claim7 40 11)) ∧ (claim7 40 11).content.valid = true) ∧
    (settling.hears (beacon 8 1) (good (beacon 8 1)) ∧ (beacon 8 1).content.valid = true) ∧
    (settling.hears (advance 6) (good (advance 6)) ∧ (advance 6).content.valid = true) ∧
    (settling.assocDef 0).defined = true ∧ (settling.assoc 0).state = .settling ∧
    ((part Assoc.reset liveKeys).hears (advance 6) (good (advance 6)) ∧
      ((part Assoc.reset liveKeys).assocDef 0).defined = true ∧ ((part Assoc.reset liveKeys).assoc 0).state = .dormant) := by
  unfold State.hears
  decide +kernel

theorem witness_AdvanceIsApplied :
    let s := part live standbyKeys
    s.hears (advance 8) (good (advance 8)) ∧ s.hears (advance 7) (good (advance 7)) ∧ (s.assocDef 0).defined = true ∧
      (s.assoc 0).state.inEpoch = true ∧ 7 ≤ (s.assoc 0).epochOrZero ∧ (s.assoc 0).epochOrZero < 8 ∧
      (s.assoc 0).pendingClaim = false := by
  unfold State.hears
  decide +kernel

/-- A CLAIM and a BEACON of the next epoch, with a claim pending and the rack transmitter busy. -/
theorem witness_AdvanceIsApplied_implicit :
    let claim8 : BusMessage := { assoc := 0, sender := 2, content := .claim 8 1 16 }
    let s := rackSending .pause (part { live with pendingClaim := true } standbyKeys)
    s.hears claim8 (good claim8) ∧ claim8.content.valid = true ∧ s.hears (beacon 8 40) (good (beacon 8 40)) ∧
      (beacon 8 40).content.valid = true ∧ (s.assocDef 0).defined = true ∧ (s.assoc 0).state.inEpoch = true ∧
      (s.assoc 0).epochOrZero < 8 ∧ (s.assoc 0).pendingClaim = true ∧
      countSlots (s.slots 0) (fun k => k.role == .current) ≤ 1 ∧
      (∀ j : Fin 4, (s.slots 0)[j].role = .standby → (s.slots 0)[j].epoch = 8 → 0 < (s.slots 0)[j].limit) ∧
      s.rack.sending.isSome ∧ s.status.notices.length < 31 := by
  unfold State.hears
  decide +kernel

/-- This station's own ADVANCE. -/
def ownAdvance (epoch : BitVec 16) : BusMessage := { assoc := 0, sender := 3, content := .advance epoch 0 }

/-- The own ADVANCE delivered, to the next epoch and to the current one (R33, R64). -/
theorem witness_AdvanceIsApplied_own :
    let p : PendingAdvance := { target := 8, reason := .rekey, condition := .queued }
    let s := part { live with pendingAdvance := some p } standbyKeys
    (sending (ownAdvance 8) s).delivers (ownAdvance 8) false (good (ownAdvance 8)) ∧
      (sending (ownAdvance 7) s).delivers (ownAdvance 7) false (good (ownAdvance 7)) ∧ (s.assocDef 0).defined = true ∧
      (s.assoc 0).state.inEpoch = true ∧ (s.assoc 0).epochOrZero = 7 ∧ (s.assoc 0).pendingClaim = false ∧
      ((after (.advance 0 3 8 0 (good (ownAdvance 8))) (sending (ownAdvance 8) s)).assoc 0).epoch = some 8 ∧
      (after (.advance 0 3 8 0 (good (ownAdvance 8))) (sending (ownAdvance 8) s)).bus.txList = [] := by
  unfold State.delivers
  decide +kernel

/-- With the rack transmitter sending, an advance past the STANDBY: ADVANCED, KEY-DISCARDED 8, KEY-WANTED 9 (R66, R69). -/
theorem witness_AdvanceIsApplied_notices :
    let s := rackSending .pause (part live standbyKeys)
    let t := after (.advance 0 2 9 0 (good (advance 9))) s
    NoticesKept s t ∧ s.hears (advance 9) (good (advance 9)) ∧
    t.status.notices.map (fun n => (n.kind, n.epoch)) = [(.advanced, 9), (.keyDiscarded, 8), (.keyWanted, 9)] := by
  unfold State.hears NoticesKept
  decide +kernel

theorem test_advance :
    let t := after (.advance 0 2 8 0 (good (advance 8))) (part live standbyKeys)
    (t.assoc 0).state = .live ∧ (t.assoc 0).epoch = some 8 ∧ (t.assoc 0).hwm = some 0 ∧
      (t.slots 0).toList.map (·.role) = [.empty, .current, .empty, .empty] ∧
      (t.counters.assoc[0])[AssocCount.discardAdvance.index] = 104 := by
  decide +kernel

theorem witness_AdvanceMovesKeys :
    let s := part live #v[key .current 7 2, key .standby 8 0, key .retiring 6 1, KeySlot.wiped]
    s.hears (advance 9) (good (advance 9)) ∧ (s.assocDef 0).defined = true ∧ (s.assoc 0).state.inEpoch = true ∧
      (s.assoc 0).epochOrZero < 9 ∧ (s.assoc 0).pendingClaim = false ∧
      countSlots (s.slots 0) (fun k => k.role == .retiring) < 2 ∧
      countSlots (s.slots 0) (fun k => k.role == .current) ≤ 1 ∧
      countSlots (s.slots 0) (fun k => k.role == .standby) ≤ 1 := by
  unfold State.hears
  decide +kernel

/-- Two RETIRING slots, the older with a frame in lane 1, and the CURRENT in use. -/
theorem witness_AdvanceMovesKeys_thirdRetiring :
    let s := withLane (.keying 5 { assoc := 0, index := 2 }) (.encrypt 0) false
      (part live #v[key .current 7 1, key .retiring 6 1, key .retiring 5 1, KeySlot.wiped])
    s.hears (advance 9) (good (advance 9)) ∧ (s.assocDef 0).defined = true ∧ (s.assoc 0).state.inEpoch = true ∧
      (s.assoc 0).epochOrZero < 9 ∧ (s.assoc 0).pendingClaim = false ∧
      countSlots (s.slots 0) (fun k => k.role == .current) ≤ 1 ∧ countSlots (s.slots 0) (fun k => k.role == .standby) ≤ 1 ∧
      countSlots (s.slots 0) (fun k => k.role == .retiring) = 2 ∧ (s.slots 0)[2].epoch < (s.slots 0)[1].epoch ∧
      (s.slots 0)[0].uses ≠ 0 ∧ (s.lane 1).slot? = some { assoc := 0, index := 2 } ∧
      (after (.advance 0 2 9 0 (good (advance 9))) s).lane 1 = .idle := by
  unfold State.hears
  decide +kernel

/-- A peer's JOIN. -/
def join : BusMessage := { assoc := 0, sender := 2, content := .join }

theorem witness_JoinSchedulesBeacons :
    (s0.hears join (good join) ∧ s0.bus.quiet = false ∧ s0.bus.errorCount < 128) ∧
    (settling.hears join (good join) ∧ settling.bus.quiet = false ∧ settling.bus.errorCount < 128) := by
  unfold State.hears
  decide +kernel

theorem witness_JoinSchedulesBeacons_own :
    let own : BusMessage := { assoc := 0, sender := 3, content := .join }
    (sending own s0).delivers own false (good own) ∧ s0.bus.quiet = false ∧ s0.bus.errorCount < 128 ∧
      (after (.join 0 3 (good own)) (sending own s0)).bus.txList = [] := by
  unfold State.delivers
  decide +kernel

theorem test_join :
    (after (.join 0 2 (good join)) s0).bus.txList = [{ kind := .beacon, assoc := 0 }] ∧
    (after (.join 0 2 (good join)) settling).bus.txList = [] := by
  decide +kernel

/-- The part with a bus error count. -/
def withErrors (n : Nat) (s : State) : State := { s with bus := { s.bus with errorCount := n } }

theorem witness_VoidMessageIsDiscarded :
    let e : BusEnding := { good join with peersErr := true }
    let bad : BusEnding := { e with crc := join.crc + 1 }
    (s0.takesPart e = true ∧ s0.bus.onBus = none ∧ e.peersErr = true ∧ e.crc = join.crc) ∧
    ((withErrors 127 s0).takesPart bad = true ∧ (withErrors 127 s0).bus.onBus = none ∧ bad.crc ≠ join.crc ∧
      (withErrors 127 s0).bus.quiet = false) := by
  decide +kernel

/-- A wrong CRC alone, at a station that is not quiet and at a quiet one; a message of an undefined association, and one with an
epoch of 0; and a quiet station at 96, which the message brings below 96. -/
theorem witness_VoidMessageIsDiscarded_others :
    let bad : BusEnding := { good join with crc := join.crc + 1 }
    let quiet := fun (n : Nat) => rackSending .pause { s0 with bus := { s0.bus with quiet := true, errorCount := n } }
    let far : BusMessage := { assoc := 9, sender := 2, content := .advance 8 0 }
    (s0.takesPart bad = true ∧ s0.bus.quiet = false ∧ bad.peersErr = false ∧ bad.crc ≠ join.crc) ∧
    ((quiet 200).takesPart bad = true ∧ (quiet 200).bus.onBus = none ∧ (quiet 200).bus.quiet = true) ∧
    (s0.hears far (good far) ∧ (s0.assocDef far.target).defined = false ∧ far.content.kind ≠ .join) ∧
    (s0.hears (beacon 0 1) (good (beacon 0 1)) ∧ (beacon 0 1).content.valid = false ∧
      (s0.assoc 0).epoch ≠ some (beacon 0 1).content.epoch ∧ (s0.assoc 0).pendingAdvance = none) ∧
    ((quiet 96).hears join (good join) ∧ (quiet 96).bus.quiet = true ∧ (quiet 96).rack.sending.isSome ∧
      (quiet 96).status.notices.length < 32 ∧
      (after (.join 0 2 (good join)) (quiet 96)).bus.quiet = false ∧
      (after (.join 0 2 (good join)) (quiet 97)).bus.quiet = true) := by
  unfold State.hears
  decide +kernel

/-- The rise from 127 to 128 makes the station quiet with alert (R39). -/
theorem test_bus_quiet :
    let t := after (.join 0 2 { good join with crc := join.crc + 1 }) (withErrors 127 s0)
    t.bus.quiet = true ∧ t.bus.errorCount = 128 ∧ t.status.alert = true := by
  decide +kernel

theorem witness_UnacknowledgedClaimIsVoid :
    let s := sending (ownClaim7 599) (part { live with pendingClaim := true } liveKeys)
    let e : BusEnding := { good (ownClaim7 599) with peersAck := false }
    (ownClaim7 599).content = .claim 7 301 599 ∧ s.takesPart e = true ∧
      s.bus.onBus = some { message := ownClaim7 599, withdrawn := false } ∧ e.crc = (ownClaim7 599).crc ∧
      e.startRead = false ∧ e.peersErr = false ∧ e.peersAck = false ∧ s.cfg.singleStation = false := by
  decide +kernel

/-- The eighth CLAIM without an ack is reported ISOLATED, with alert; a ninth is not (R40). -/
theorem witness_UnacknowledgedClaimIsVoid_isolated :
    let s := fun n => rackSending .pause
      { sending (ownClaim7 599) (part { live with pendingClaim := true } liveKeys) with
        bus := { (sending (ownClaim7 599) s0).bus with noAck := n } }
    let t := fun n => after (.claim 0 3 7 301 599 { good (ownClaim7 599) with peersAck := false }) (s n)
    NoticesKept (s 7) (t 7) ∧ (t 7).bus.noAck = 8 ∧ (t 7).status.alert = true ∧ (t 8).status.notices = [] ∧
    (t 7).status.notices.map (fun n => (n.kind, n.assoc, n.epoch, n.value)) = [(.isolated, 0, 7, 8)] := by
  unfold NoticesKept
  decide +kernel

/-- An own message voided by a peer; one whose content, or start bit, is read back other than sent; one that loses to a lower
association. -/
theorem witness_UnacknowledgedClaimIsVoid_others :
    let o : BusMessage := { assoc := 2, sender := 3, content := .beacon 7 300 }
    let s := sending o s0
    let won : BusMessage := { assoc := 1, sender := 2, content := .beacon 7 300 }
    let other : BusMessage := { assoc := 2, sender := 3, content := .beacon 7 301 }
    let sent := false :: (o.arbitration ++ o.content.bits ++ msbBits o.crc)
    let bits := fun (m : BusMessage) => false :: (m.arbitration ++ m.content.bits ++ msbBits m.crc)
    s.takesPart (good o) = true ∧ s.bus.onBus = some { message := o, withdrawn := false } ∧ s.bus.backoff = 0 ∧
      ({ good o with peersErr := true } : BusEnding).crc = o.crc ∧
      (75 < sent.length ∧ sent.take 75 = (bits other).take 75 ∧ sent[75]? = some false ∧ (bits other)[75]? = some true) ∧
      (7 < sent.length ∧ sent.take 7 = (bits won).take 7 ∧ sent[7]? = some true ∧ (bits won)[7]? = some false) ∧
      (after (.beacon 1 2 7 300 (good won)) s).bus.backoff = 0 ∧ (after (.beacon 1 2 7 300 (good won)) s).bus.txList ≠ [] ∧
      (after (.beacon 2 3 7 301 (good other)) s).bus.errorCount = 8 ∧
      (after (.beacon 2 3 7 300 { good o with startRead := true }) s).bus.errorCount = 8 := by
  decide +kernel

/-! ## The two ports -/

theorem witness_BadReceptionIsDropped :
    (s0.device.working = true ∧ ({ data := [], fcs := 1 } : WireFrame).fcs ≠ ethernetFcs []) ∧
    ((received (List.replicate 59 0)).frame.fcs = ethernetFcs (received (List.replicate 59 0)).frame.data ∧
      (received (List.replicate 59 0)).frame.data.length < 60) ∧
    ((received (List.replicate 9213 0)).frame.fcs = ethernetFcs (received (List.replicate 9213 0)).frame.data ∧
      9212 < (received (List.replicate 9213 0)).frame.data.length) ∧
    ((zeroizing 0).device = .zeroizing ∧ field (received egress).frame.data 12 2 ≠ 0x8808) := by
  refine ⟨by decide +kernel, ⟨rfl, by decide⟩, ⟨rfl, lt_of_lt_of_eq (by decide) List.length_replicate.symm⟩, by decide +kernel⟩

/-- ZEROIZED. -/
def zeroized : State := { zeroizing 0 with device := .zeroized }

/-- The part after both ports came up, with a frame arriving on each. -/
def cameUp (s : State) : State :=
  { s with rackRx := { cameUp := true, zeroizeBegan := false, leastFree := 2048 },
           campusRx := { cameUp := true, mostHeld := 0 } }

/-- A request while a frame arrives; a frame in ZEROIZED; a frame begun before the port came up; a port down. -/
theorem witness_BadReceptionIsDropped_others :
    let begun := { received (linkControl 1 7) with begunBeforeZeroize := true }
    let early := { received egress with begunBeforeUp := true }
    ((after .zeroizePinRequest s0).device = .zeroizing ∧ (after .zeroizePinRequest s0).rackRx.zeroizeBegan = true ∧
      begun.begunBeforeZeroize = true ∧ (begun.begunBeforeUp && s0.rackRx.cameUp) = false) ∧
    (zeroized.device = .zeroized ∧ field (received egress).frame.data 12 2 ≠ 0x8808 ∧
      field (received (linkControl 2 7)).frame.data 14 2 ≠ 1) ∧
    ((cameUp s0).device.portsUp = true ∧ early.begunBeforeUp = true ∧ (cameUp s0).rackRx.cameUp = true) ∧
    loading.device.portsUp = false ∧
    (after (.rackFrameReceived (received egress)) zeroized).counters.reception[ReceptionCount.inert.index] = 1 ∧
    (after (.rackFrameReceived early) (cameUp (mapped (.encrypt 0 2) s0))).buf.pool = [] := by
  decide +kernel

theorem witness_LinkPauseSetsRackTimer :
    (s0.device.portsUp = true ∧ s0.device.erased = false) ∧
    ((zeroizing 0).device.portsUp = true ∧ (received (linkControl 1 7)).begunBeforeZeroize = false) ∧
    zeroized.device.portsUp = true ∧ ((received (linkControl 1 7)).begunBeforeUp && s0.rackRx.cameUp) = false ∧
    (received (linkControl 1 7)).frame.data.length = 60 ∧ field (received (linkControl 1 7)).frame.data 12 2 = 0x8808 ∧
    field (received (linkControl 1 7)).frame.data 14 2 = 1 ∧ field (received (linkControl 2 7)).frame.data 14 2 ≠ 1 := by
  decide +kernel

theorem test_rack_pause :
    (after (.rackFrameReceived (received (linkControl 1 7))) s0).rack.pauseTimer = 7 ∧
    (∀ s ∈ [s0, zeroizing 0],
      (after (.rackFrameReceived (received (linkControl 2 7))) s).counters.reception[ReceptionCount.control.index] = 1) ∧
    (after (.rackFrameReceived (received (linkControl 2 7))) zeroized).counters.reception[ReceptionCount.inert.index] = 1 := by
  decide +kernel

/-- The part with command frames waiting. -/
def withInput (n : Nat) (s : State) : State :=
  { s with engine := { s.engine with state := .waiting, input := List.replicate n (commandFrame 6 [0]) } }

theorem witness_CommandFrameIsDiverted :
    let data := (received (commandFrame 6 [0])).frame.data
    s0.device.working = true ∧ data.length = 60 ∧ field data 12 2 ≠ 0x8808 ∧ field data 12 2 = s0.cfg.commandType.toNat ∧
      field data 0 6 = s0.cfg.ownAddress.toNat ∧ (withInput 3 s0).engine.input.length < 4 ∧
      4 ≤ (withInput 4 s0).engine.input.length ∧ (withInput 4 s0).device.working = true := by
  decide +kernel

theorem witness_EgressFrameIsKeptOrDropped :
    let data := (received egress).frame.data
    let s := mapped (.encrypt 0 2) s0
    s.device.working = true ∧ data.length = 60 ∧ field data 12 2 ≠ 0x8808 ∧
      ¬ (field data 12 2 = s.cfg.commandType.toNat ∧ field data 0 6 = s.cfg.ownAddress.toNat) ∧
      SegMap.read s.segMap (if field data 12 2 = 0x8100 then field data 14 2 % 4096 else s.cfg.defaultSegment) =
        .encrypt 0 2 ∧
      ((received egress).begunBeforeUp && s.rackRx.cameUp) = false ∧ ¬ s.cfg.caps[2] < s.buf.queueCells[2] + 1 ∧
      ¬ s.buf.freeCells < 1 ∧ ¬ s.rackRx.leastFree < 1 ∧ (s.frame? 0).isNone := by
  decide +kernel

/-- The cell taken brings F to 383 = P_on − 1: PAUSING, and the pause frame begins at once, or waits for a busy transmitter; a side
already PAUSING asks for none (R100, R101). -/
theorem witness_EgressFrameIsKeptOrDropped_pause :
    let at384 := fun (pausing : Bool) => { mapped (.encrypt 0 2) s0 with
      buf := { s0.buf with freeCells := 384, pausing := pausing }, rackRx := { s0.rackRx with leastFree := 384 } }
    let t := fun s => after (.rackFrameReceived (received egress)) s
    let looks := fun (x : State) => (x.buf.pausing, x.rack.sending.map (·.1), x.buf.pauseRequest, x.buf.repeatTimer)
    ((at384 false).device.working = true ∧ SegMap.read (at384 false).segMap 5 = .encrypt 0 2 ∧
      (at384 false).rack.sending = none ∧ ((at384 false).frame? 0).isNone) ∧
    looks (t (at384 false)) = (true, some .pause, false, some 1280) ∧
    looks (t (rackSending .reply (at384 false))) = (true, some .reply, true, none) ∧
    looks (t (at384 true)) = (true, none, false, none) ∧
    (t (at384 false)).buf.freeCells = 383 := by
  decide +kernel

/-- F was 0 while the frame arrived and is 1 at its end: `ranShort` tells whether it found a cell; with F at 1 throughout it cannot
have run short. -/
theorem witness_EgressFrameIsKeptOrDropped_short :
    let r := { received egress with ranShort := some 0 }
    let s := fun least => { mapped (.encrypt 0 2) s0 with
      rackRx := { cameUp := false, zeroizeBegan := false, leastFree := least } }
    (after (.rackFrameReceived r) (s 0)).counters.reception[ReceptionCount.noRoom.index] = 1 ∧
      (after (.rackFrameReceived r) (s 1)).buf.queues[2] = [0] := by
  decide +kernel

/-- A reception that ran short had written every cell free at that moment: one of the two that 200 bytes need, though F was 0
after the last reception; and a GIANT stores 72 cells (R94). -/
theorem test_short_reception_cells :
    let s := { s0 with buf := { s0.buf with freeCells := 1 },
                       rackRx := { cameUp := false, zeroizeBegan := false, leastFree := 0 } }
    s.cellsWritten (received (List.replicate 200 0)) = 1 ∧
      s0.cellsWritten (received (List.replicate 9213 0)) = 72 := by
  decide +kernel

/-- 40 cells free when the frame ran short, 12 released after it, 52 free at its end: the 12 keep their bytes, the 40 behind
them are written (R94). -/
theorem test_short_reception_spares_released :
    let cells := fun (n : Nat) (x : Byte) => List.replicate n [x]
    let s : State := { s0 with buf := { s0.buf with freeCells := 52, leftover := cells 12 1 ++ cells 40 2 },
                               rackRx := { cameUp := false, zeroizeBegan := false, leastFree := 40 } }
    let r := { received (List.replicate 9000 0) with ranShort := some 40 }
    s.cellsWritten r = 40 ∧ s.cellsLeftAlone r = 12 ∧
      (storeBytes r s).buf.leftover = (List.replicate 40 (List.replicate 128 0)) ++ cells 12 1 := by
  decide +kernel

/-- Kept on queue 2; with one free cell below the threshold the part begins to pause; a segment not mapped is dropped. -/
theorem test_rack_frame_received :
    let t := after (.rackFrameReceived (received egress)) (mapped (.encrypt 0 2) s0)
    t.buf.queues[2] = [0] ∧ t.buf.freeCells = 2047 ∧ t.buf.queueCells[2] = 1 ∧
      (t.frame? 0).map (·.action) = some (.encrypt 0) ∧
      (after (.rackFrameReceived (received egress)) s0).counters.reception[ReceptionCount.segDrop.index] = 1 := by
  decide +kernel

theorem witness_InboundFrameIsKeptOrDropped :
    (s0.device.portsUp = true ∧ ((receivedInbound egress).begunBeforeUp && s0.campusRx.cameUp) = false) ∧
    (zeroizing 0).device.portsUp = true ∧
    (let early := { receivedInbound egress with begunBeforeUp := true }
     (cameUp s0).device.portsUp = true ∧ early.begunBeforeUp = true ∧ (cameUp s0).campusRx.cameUp = true) ∧
    loading.device.portsUp = false := by
  decide +kernel

theorem test_inbound_frame :
    (after (.inboundFrameReceived (receivedInbound egress))
      { s0 with rack := { sending := some (.pause, withFcs []), cutShort := false, pauseTimer := 0 } }).campus.fifo =
        [withFcs egress] ∧
    (after (.inboundFrameReceived (receivedInbound (linkControl 1 9))) s0).campus.pauseTimer = 9 := by
  decide +kernel

/-- The part with every timer of the two ports running and a notice 100 µs old. -/
def timed : State :=
  { withNotices [{ notice .settled .none with time := 400 }] s0 with
    rack := { sending := none, cutShort := false, pauseTimer := 1 },
    campus := { sending := none, cutShort := false, pauseTimer := 65535, fifo := [] },
    buf := { s0.buf with repeatTimer := some 1280, pausing := true } }

theorem witness_TimersRunOut :
    timed.rack.pauseTimer ≠ 0 ∧ timed.campus.pauseTimer ≠ 0 ∧ timed.buf.repeatTimer.isSome ∧
    (let s := withNotices [{ notice .settled .none with time := 400 }] s0
     s.status.notices = { notice .settled .none with time := 400 } :: [] ∧
       100 ≤ (s.time - ({ notice .settled .none with time := 400 } : Notice).time).toNat ∧ s.device.portsUp = true ∧
       s.rack.sending = none ∧ s.buf.pauseRequest = false ∧ s.rack.pauseTimer = 0 ∧ s.status.offered = none ∧
       s.status.replies = []) := by
  decide +kernel

/-- The repeat timer runs out while not PAUSING, while PAUSING with the transmitter free, and while it sends; a status frame comes due
while the transmitter sends, with no offer and with one, with no reply and with one. -/
theorem witness_TimersRunOut_others :
    (let s : State := { timed with buf := { timed.buf with pausing := false } }
     s.buf.repeatTimer.isSome ∧ s.buf.pausing = false) ∧
    (timed.buf.pausing = true ∧ timed.device.portsUp = true ∧ timed.rack.sending = none) ∧
    (rackSending .inbound timed).rack.sending.isSome ∧
    (let s := rackSending .inbound (withNotices [{ notice .settled .none with time := 400 }] s0)
     let offering := fun (o l : Option Offer) (s : State) =>
       ({ s with status := { s.status with offered := o, lastOffered := l } } : State)
     100 ≤ (s.time - 400).toNat ∧ s.status.offered = none ∧ s.replyReady = false ∧
       (withReply s).replyReady = true ∧ (offering none (some .reply) (withReply s)).status.lastOffered = some .reply ∧
       (offering (some .status) none s).status.offered = some .status ∧
       (after .statusFrameDue s).status.offered = some .status ∧
       (after .statusFrameDue (offering none (some .status) (withReply s))).status.offered = some .reply) := by
  decide +kernel

theorem test_timers :
    (after .rackPauseTimerExpiry timed).rack.pauseTimer = 0 ∧
    (after .campusPauseTimerExpiry timed).campus.pauseTimer = 0 ∧
    (after .pauseRepeatTimerExpiry timed).buf.repeatTimer = some 1280 ∧
    (let s := fun (time : BitVec 32) => withNotices [{ notice .settled .none with time := time }] s0
     (after .statusFrameDue (s 400)).status.notices = [] ∧ (after .statusFrameDue (s 401)).status.notices.length = 1) := by
  decide +kernel

theorem test_rack_transmit_done :
    (after .rackTransmitDone (rackSending .status s0)).rack.sending = none ∧
    (after .rackTransmitDone { rackSending .inbound s0 with
      campus := { s0.campus with fifo := [withFcs egress] } }).campus.fifo = [] := by
  decide +kernel

theorem witness_RackTransmitterOrder :
    (let u : State := { s0 with buf := { s0.buf with pauseRequest := true, pausing := true } }
     u.device.portsUp = true ∧ u.rack.sending = none ∧ u.buf.pauseRequest = true ∧ u.buf.pausing = true) ∧
    (let u : State := { s0 with rack := { s0.rack with pauseTimer := 1 } }
     u.device.portsUp = true ∧ u.rack.sending = none ∧ u.buf.pauseRequest = false ∧ u.rack.pauseTimer ≠ 0) ∧
    (s0.device.portsUp = true ∧ s0.rack.sending = none ∧ s0.buf.pauseRequest = false ∧ s0.rack.pauseTimer = 0 ∧
      s0.status.offered = none ∧ s0.replyReady = false ∧ s0.statusDue = false) ∧
    (let u := withReply s0
     u.device.portsUp = true ∧ u.rack.sending = none ∧ u.buf.pauseRequest = false ∧ u.rack.pauseTimer = 0 ∧
       u.status.replies = { tag := 77, code := 6, result := .done, value := 0, counters := [] } :: [] ∧
       u.status.offered = none ∧ u.statusDue = false) ∧
    [RackFrameKind.pause, .reply, .status, .inbound].all
      (fun k => (rackSending k s0).rack.sending == some (k, withFcs egress)) = true ∧ loading.device.portsUp = false := by
  decide +kernel

/-- A standing offer of each kind, and reply and status frame ready together: after each offer, and before any. -/
theorem witness_RackTransmitterOrder_offers :
    let ready := withReply (withNotices (List.replicate 9 (notice .settled .none)) s0)
    let offering := fun (o l : Option Offer) => ({ ready with status := { ready.status with offered := o, lastOffered := l } } : State)
    let kind := fun (before : State) (o l : Option Offer) => (finishEvent before (offering o l)).rack.sending.map (·.1)
    ready.device.portsUp = true ∧ ready.rack.sending = none ∧ ready.buf.pauseRequest = false ∧ ready.rack.pauseTimer = 0 ∧
      ready.replyReady = true ∧ ready.statusDue = true ∧ (withReply s0).replyReady = true ∧ (withReply s0).statusDue = false ∧
      kind ready (some .reply) none = some .reply ∧ kind ready (some .status) none = some .status ∧
      kind ready none (some .status) = some .reply ∧ kind ready none (some .reply) = some .status ∧
      kind (withReply s0) none none = some .reply ∧
      kind (withNotices (List.replicate 9 (notice .settled .none)) s0) none none = some .status ∧
      (finishEvent ready (offering (some .status) none)).status.notices.length = 1 := by
  decide +kernel

theorem witness_CampusTransmitterBegins :
    let e := fun (f : Bool) => ({ frame := 5, action := .clear, queue := 2, finished := f, header := [], tag := [],
                                  outLength := 88 } : CompletionEntry)
    let u := withLane .idle .clear true s0
    (u.campus.sending = none ∧ u.lanes.completion = e true :: [] ∧ (u.frame? 5).isSome ∧ u.device = .running ∧
      u.campus.pauseTimer = 0) ∧
    (let v := withLane (.passing 5) .clear false s0
     v.campus.sending = none ∧ v.lanes.completion = e false :: [] ∧ (v.frame? 5).isSome) := by
  decide +kernel

theorem witness_PauseStateHasHysteresis :
    (withQueued .clear s0).frame? 5 = some (stored .clear) := by decide +kernel

/-! ## Dispatch and the park list -/

/-- h one below the stale limit x + (W − G), with more to assign; and the last counter of the active range. -/
theorem witness_DispatchAssignsCounter :
    (let s := withQueued (.encrypt 0) (part { live with hwm := some 3676, queued := none }
       #v[{ key .current 7 0 with limit := 4000 }, KeySlot.wiped, KeySlot.wiped, KeySlot.wiped])
     s.takesHead 2 5 [] (stored (.encrypt 0)) ∧ s.disp.park = [] ∧ (s.assoc 0).state = .live ∧
       (stored (.encrypt 0)).length + 28 ≤ s.cfg.cMax ∧ (s.assoc 0).epochOrZero < 65535 ∧
       (s.assoc 0).active = some { start := 91, stop := 95, next := 93 } ∧
       (s.assoc 0).front < 93 + ((s.assocDef 0).window - (s.assocDef 0).guard) ∧
       ¬ (s.assoc 0).front + 1 < 93 + ((s.assocDef 0).window - (s.assocDef 0).guard) ∧
       slotWithRole (s.slots 0) .current = some 0 ∧ (s.assoc 0).pendingClaim = false ∧ (s.assoc 0).advanceQueued = false ∧
       (s.assoc 0).front < s.limit 0) ∧
    (let s := withQueued (.encrypt 0) (part { live with active := some { start := 91, stop := 95, next := 95 } } liveKeys)
     s.takesHead 2 5 [] (stored (.encrypt 0)) ∧ (s.assoc 0).active = some { start := 91, stop := 95, next := 95 } ∧
       (s.assoc 0).front < 95 + ((s.assocDef 0).window - (s.assocDef 0).guard)) := by
  unfold State.takesHead
  decide +kernel

/-- h = x + (W − G): the active range is stale, and the queued one, which starts later, is not. -/
theorem witness_DispatchAssignsCounter_stale :
    let s := withQueued (.encrypt 0) (part { live with hwm := some 3677 }
      #v[{ key .current 7 0 with limit := 4000 }, KeySlot.wiped, KeySlot.wiped, KeySlot.wiped])
    s.takesHead 2 5 [] (stored (.encrypt 0)) ∧ s.disp.park = [] ∧ (s.assoc 0).state = .live ∧
      (s.assoc 0).active = some { start := 91, stop := 95, next := 93 } ∧
      (s.assoc 0).queued = some { start := 200, stop := 300 } ∧
      93 + ((s.assocDef 0).window - (s.assocDef 0).guard) ≤ (s.assoc 0).front ∧
      (s.assoc 0).front < 200 + ((s.assocDef 0).window - (s.assocDef 0).guard) ∧ slotWithRole (s.slots 0) .current = some 0 ∧
      ((after .dispatch s).assoc 0).assigned = 200 ∧ ((after .dispatch s).assoc 0).level = 0 := by
  unfold State.takesHead
  decide +kernel

/-- Epoch 65535 at h = λ: the counter is assigned, and the prefetch test retires the association (log 21). -/
theorem witness_DispatchAssignsCounter_epochEnd :
    let s := withQueued (.encrypt 0) (part { live with epoch := some 65535, hwm := some 1000, queued := none } liveKeys)
    s.takesHead 2 5 [] (stored (.encrypt 0)) ∧ s.disp.park = [] ∧ (s.assoc 0).state = .live ∧
      (stored (.encrypt 0)).length + 28 ≤ s.cfg.cMax ∧ (s.assoc 0).epochOrZero = 65535 ∧ s.limit 0 ≤ (s.assoc 0).front ∧
      (s.assoc 0).active = some { start := 91, stop := 95, next := 93 } ∧
      (s.assoc 0).front < 93 + ((s.assocDef 0).window - (s.assocDef 0).guard) ∧
      95 - 93 ≤ s.cfg.ladder[(s.assoc 0).level] / 4 ∧ (s.assoc 0).pendingClaim = false ∧ (s.assoc 0).advanceQueued = false ∧
      slotWithRole (s.slots 0) .current = some 0 ∧ countSlots (s.slots 0) (fun k => k.role == .retiring) < 2 ∧
      ((after .dispatch s).assoc 0).state = .retired ∧ (after .dispatch s).lanes.completion.length = 1 := by
  unfold State.takesHead
  decide +kernel

/-- One counter left of a stale active range's successor, and the last counter of a range at h ≥ λ with a STANDBY. -/
theorem witness_DispatchAssignsCounter_prefetch :
    (let s := withQueued (.encrypt 0) (part { live with hwm := some 3677, queued := some { start := 200, stop := 200 } } liveKeys)
     s.takesHead 2 5 [] (stored (.encrypt 0)) ∧ 93 + ((s.assocDef 0).window - (s.assocDef 0).guard) ≤ (s.assoc 0).front ∧
       (s.assoc 0).front < 200 + ((s.assocDef 0).window - (s.assocDef 0).guard) ∧ (s.assoc 0).epochOrZero < 65535) ∧
    (let s := withQueued (.encrypt 0)
       (part { live with hwm := some 1000, active := some { start := 91, stop := 95, next := 95 }, queued := none } standbyKeys)
     s.takesHead 2 5 [] (stored (.encrypt 0)) ∧ s.limit 0 ≤ (s.assoc 0).front ∧ (s.assoc 0).pendingAdvance = none ∧
       (s.assoc 0).leftAfterNext = 0 ∧ s.hasStandby 0 = true ∧
       (after .dispatch s).bus.txList = [{ kind := .advance, assoc := 0 }]) := by
  unfold State.takesHead
  decide +kernel

/-- Counter 93 goes with the frame; its header names association 0, station 3, epoch 7 (R11, R115, R139). -/
theorem test_dispatch :
    let t := after .dispatch (withQueued (.encrypt 0) s0)
    (t.frame? 5).bind (·.assigned) = some { counter := 93, epoch := 7, slot := { assoc := 0, index := 0 } } ∧
      (t.assoc 0).assigned = 93 ∧ t.lane 0 = .keying 5 { assoc := 0, index := 0 } ∧
      t.lanes.completion.map (·.header) = [beBytes 2 0x88b6 ++ [0, 11] ++ beBytes 2 7 ++ beBytes 6 93] ∧
      (t.slot { assoc := 0, index := 0 }).uses = 1 ∧ t.lanes.inFlight[2] = 1 := by
  decide +kernel

/-- Association 0 is LIVE and every other as after a reset. -/
theorem s0_assoc (a : Fin 64) : s0.assoc a = live ∨ s0.assoc a = Assoc.reset := by
  have h : ∀ a : Fin 64, s0.assoc a = if a = 0 then live else Assoc.reset := by decide +kernel
  rw [h]
  split <;> simp

/-- The part's counters are in order. -/
theorem s0_ordered : CountersOrdered (withQueued (.encrypt 0) s0) := by
  refine ⟨fun a => ?_, fun a => ?_, ⟨?_, ?_⟩⟩
  · change (s0.assoc a).inForm
    rcases s0_assoc a with h | h <;> rw [h] <;> simp [Assoc.inForm, live, Assoc.reset]
  · change (s0.assoc a).ordered
    rcases s0_assoc a with h | h <;> rw [h] <;> simp [Assoc.ordered, Assoc.front, live, Assoc.reset, max48]
  · intro o h; exact absurd h (by simp [withQueued, s0, part, State.reset, Bus.reset])
  · intro a h; exact absurd h (by simp [withQueued, s0, part, State.reset, Bus.reset])

theorem witness_AssignedCounterIsFresh :
    CountersOrdered (withQueued (.encrypt 0) s0) ∧
    exec .dispatch (withQueued (.encrypt 0) s0) = .next (after .dispatch (withQueued (.encrypt 0) s0)) ∧
    (withQueued (.encrypt 0) s0).frame? 5 = some (stored (.encrypt 0)) ∧ (stored (.encrypt 0)).assigned = none ∧
    (after .dispatch (withQueued (.encrypt 0) s0)).frame? 5 =
      some { stored (.encrypt 0) with assigned := some { counter := 93, epoch := 7, slot := { assoc := 0, index := 0 } } } :=
  ⟨s0_ordered, rfl, by decide +kernel, rfl, by decide +kernel⟩

/-- h = λ − 1 and h = λ. -/
theorem witness_EmptyReservationRequests :
    let s := fun h => withQueued (.encrypt 0) (part { live with hwm := some h, active := none, queued := none } liveKeys)
    (∀ h ∈ [999, 1000], (s h).takesHead 2 5 [] (stored (.encrypt 0)) ∧ (s h).disp.park = [] ∧ ((s h).assoc 0).state = .live ∧
      (stored (.encrypt 0)).length + 28 ≤ (s h).cfg.cMax ∧ ((s h).assoc 0).active = none ∧
      ((s h).assoc 0).epochOrZero < 65535) ∧
    (((s 999).assoc 0).front < (s 999).limit 0 ∧ ((s 999).assoc 0).pendingClaim = false ∧
      ((s 999).assoc 0).advanceQueued = false) ∧
    ((s 1000).limit 0 ≤ ((s 1000).assoc 0).front ∧ ((s 1000).assoc 0).pendingAdvance = none) := by
  unfold State.takesHead
  decide +kernel

/-- A stale range alone; a claim pending; an advance pending; DROP; no room; and epoch 65535. -/
theorem witness_EmptyReservationRequests_others :
    let p : PendingAdvance := { target := 8, reason := .overlap, condition := .held }
    let bare := { live with active := none, queued := none }
    let s := fun r => withQueued (.encrypt 0) (part r liveKeys)
    let dropping := { cfg with settings := Vector.replicate 13 { disposition := .drop, notify := false, alert := false } }
    (∀ r ∈ [{ live with queued := none, hwm := some 3677 }, { bare with pendingClaim := true },
        { bare with hwm := some 1000, pendingAdvance := some p }, { bare with hwm := some 1000, epoch := some 65535 }],
      (s r).takesHead 2 5 [] (stored (.encrypt 0)) ∧ (s r).assoc 0 = r ∧ r.state = .live ∧ (s r).limit 0 = 1000 ∧
        (s r).disposition .starved = .park ∧ (s r).disposition .exhausted = .park) ∧
    93 + ((s0.assocDef 0).window - (s0.assocDef 0).guard) ≤ 3677 ∧
    ({ s bare with image := some dropping } : State).disposition .starved = .drop ∧
    ({ s bare with disp := { s0.disp with parkedCells := 2048 } } : State).cfg.parkCap < 2048 + 1 ∧
    ((after .dispatch (s { bare with hwm := some 1000, epoch := some 65535 })).disp.park.map (·.released)) = [true] := by
  unfold State.takesHead
  decide +kernel

/-- Two stale ranges, one behind the other: both are discarded, 3 + 101 counters, and k falls twice; the frame parks as STARVED or
EXHAUSTED, and a STARVED one is released by the mark of the range that was active between (R6, R9). -/
theorem witness_EmptyReservationRequests_twoStale :
    let s := withQueued (.encrypt 0) (part { live with hwm := some 4000, level := 3 } #v[{ key .current 7 0 with limit := 5000 },
      KeySlot.wiped, KeySlot.wiped, KeySlot.wiped])
    s.takesHead 2 5 [] (stored (.encrypt 0)) ∧ s.noCounter 0 ∧ (s.assoc 0).front < s.limit 0 ∧
      ((after .dispatch s).assoc 0).level = 1 ∧ ((after .dispatch s).assoc 0).acc = 0 ∧
      ((after .dispatch s).counters.assoc[0])[AssocCount.discardStale.index] = 104 ∧
      (after .dispatch s).disp.park.map (·.released) = [true] := by
  unfold State.takesHead State.noCounter
  decide +kernel

theorem test_dispatch_starved :
    let s := fun h => withQueued (.encrypt 0) (part { live with hwm := some h, active := none, queued := none } liveKeys)
    ((after .dispatch (s 999)).assoc 0).pendingClaim = true ∧
      ((after .dispatch (s 999)).disp.park.map (·.cls)) = [.starved] ∧
      ((after .dispatch (s 1000)).assoc 0).pendingAdvance = some { target := 8, reason := .exhausted, condition := .held } ∧
      ((after .dispatch (s 1000)).disp.park.map (·.cls)) = [.exhausted] := by
  decide +kernel

/-- A CLEAR frame of a length, queued. -/
def clearQueued (length : Nat) : State :=
  { withQueued .clear s0 with buf := { (withQueued .clear s0).buf with pool := [(5, { stored .clear with length := length })] } }

theorem witness_DispatchPassesClearFrame :
    ∀ n ∈ [1518, 1519], (clearQueued n).takesHead 2 5 [] { stored .clear with length := n } ∧
      (stored .clear).queue = 2 ∧ (n ≤ (clearQueued n).cfg.cMax ∨ (clearQueued n).cfg.cMax < n) := by
  unfold State.takesHead
  decide +kernel

/-- An ENCRYPT frame of a RETIRED association, and one of L + 28 = 1519. -/
theorem witness_DispatchPassesClearFrame_aborts :
    (let s := withQueued (.encrypt 0) (part { Assoc.reset with state := .retired } liveKeys)
     s.takesHead 2 5 [] (stored (.encrypt 0)) ∧ s.disp.park = [] ∧ (s.assoc 0).state = .retired) ∧
    (let d := { stored (.encrypt 0) with length := 1491 }
     let s : State := { withQueued (.encrypt 0) s0 with buf := { (withQueued (.encrypt 0) s0).buf with pool := [(5, d)] } }
     s.takesHead 2 5 [] d ∧ s.disp.park = [] ∧ (s.assoc 0).state ≠ .retired ∧ s.cfg.cMax < d.length + 28 ∧
       (after .dispatch s).buf.pool = []) := by
  unfold State.takesHead
  decide +kernel

theorem witness_StateFaultParksOrDrops :
    let s := fun r => withQueued (.encrypt 0) (part r (Vector.replicate 4 KeySlot.wiped))
    let states := [AssocState.settling, .dormant, .keyWait, .blind]
    (∀ x ∈ states, (s { Assoc.reset with state := x }).takesHead 2 5 [] (stored (.encrypt 0)) ∧
      ((s { Assoc.reset with state := x }).assoc 0).state = x) ∧
    (s Assoc.reset).disp.park = [] ∧ (s Assoc.reset).disp.marks = [] ∧ (s Assoc.reset).disposition .noKey = .park ∧
    ((s Assoc.reset).disp.park.length < 64 ∧ (s Assoc.reset).disp.parkedCells + 1 ≤ (s Assoc.reset).cfg.parkCap) ∧
    (let full : State := { s Assoc.reset with disp := { s0.disp with parkedCells := 2048 } }
     full.takesHead 2 5 [] (stored (.encrypt 0)) ∧ ¬ full.disp.parkedCells + 1 ≤ full.cfg.parkCap) := by
  unfold State.takesHead
  decide +kernel

/-- A frame behind a parked one of its association and queue, with room and without. -/
theorem witness_StateFaultParksOrDrops_follower :
    let e : ParkEntry := { frame := 6, assoc := 0, queue := 2, cls := .noKey, released := false, parkTime := 0, reclassify := 0 }
    let s := fun parked => { withQueued (.encrypt 0) s0 with disp := { s0.disp with park := [e], parkedCells := parked } }
    (∀ n ∈ [1, 2048], (s n).takesHead 2 5 [] (stored (.encrypt 0)) ∧
      (s n).disp.park.find? (fun x => x.assoc == 0 && x.queue == 2) = some e ∧ (s n).disp.marks = []) ∧
    1 + 1 ≤ (s 1).cfg.parkCap ∧ ¬ 2048 + 1 ≤ (s 2048).cfg.parkCap ∧ (s 1).disp.park.length < 64 ∧
    (after .dispatch (s 1)).disp.park.map (·.cls) = [.noKey, .noKey] := by
  unfold State.takesHead
  decide +kernel

/-- The parked frame, released, of an association in KEY-WAIT. -/
def reparkable : State := withParked true .blind (part { live with state := .keyWait, active := none, queued := none } liveKeys)

theorem witness_ReleasedEntryIsReparked :
    let e : ParkEntry := { frame := 5, assoc := 0, queue := 2, cls := .blind, released := true, parkTime := 0, reclassify := 0 }
    reparkable.mayDispatch = true ∧
      reparkable.disp.park.find? (fun x => x.released && reparkable.disp.queueState[x.queue] == .active) = some e ∧
      reparkable.frame? 5 = some (stored (.encrypt 0)) ∧ (stored (.encrypt 0)).length + 28 ≤ reparkable.cfg.cMax ∧
      (reparkable.assoc 0).state = .keyWait ∧ reparkable.disposition .noKey = .park ∧ reparkable.disp.marks = [] := by
  decide +kernel

/-- The released entry of a RETIRED association, with disposition DROP, and of a LIVE one. -/
theorem witness_ReleasedEntryIsReparked_others :
    let e : ParkEntry := { frame := 5, assoc := 0, queue := 2, cls := .blind, released := true, parkTime := 0, reclassify := 0 }
    let dropping := { cfg with settings := Vector.replicate 13 { disposition := .drop, notify := false, alert := false } }
    (∀ s ∈ [withParked true .blind (part { Assoc.reset with state := .retired } liveKeys), withParked true .blind s0,
        { reparkable with image := some dropping }],
      s.mayDispatch = true ∧ s.disp.marks = [] ∧ s.frame? 5 = some (stored (.encrypt 0)) ∧
        s.disp.park.find? (fun x => x.released && s.disp.queueState[x.queue] == .active) = some e) ∧
    ({ reparkable with image := some dropping } : State).disposition .noKey = .drop ∧
    (s0.assoc 0).active = some { start := 91, stop := 95, next := 93 } ∧
    (s0.assoc 0).front < 93 + ((s0.assocDef 0).window - (s0.assocDef 0).guard) ∧
    slotWithRole (s0.slots 0) .current = some 0 ∧ (after .dispatch (withParked true .blind s0)).disp.park = [] := by
  decide +kernel

/-- The released entry of a LIVE association with no counter left: STARVED below λ, EXHAUSTED at it, with PARK and with DROP, and at
epoch 65535. -/
theorem witness_ReleasedEntryIsReparked_noCounter :
    let bare := { live with active := none, queued := none }
    let dropping := { cfg with settings := Vector.replicate 13 { disposition := .drop, notify := false, alert := false } }
    let s := fun r => withParked true .blind (part r liveKeys)
    (∀ r ∈ [bare, { bare with hwm := some 1000 }, { bare with hwm := some 1000, epoch := some 65535 }],
      ∀ t ∈ [s r, { s r with image := some dropping }],
      t.mayDispatch = true ∧ (t.disp.park.find? (fun x => x.released && t.disp.queueState[x.queue] == .active)).isSome ∧
        t.frame? 5 = some (stored (.encrypt 0)) ∧ (stored (.encrypt 0)).length + 28 ≤ t.cfg.cMax ∧
        (t.assoc 0).state = .live ∧ t.noCounter 0) ∧
    ((s bare).limit 0 = 1000 ∧ (s bare).disposition .starved = .park ∧
      ({ s bare with image := some dropping } : State).disposition .exhausted = .drop) ∧
    ((after .dispatch (s bare)).disp.park.map (fun e => (e.cls, e.released, e.reclassify)) = [(.starved, false, 1)] ∧
      ((after .dispatch (s bare)).assoc 0).pendingClaim = true) := by
  unfold State.noCounter
  decide +kernel

/-- An entry of age 500 µs = 10 × 50 µs, and one of age 499. -/
theorem witness_ParkTimeoutDropsFrame :
    let s := withParked false .noKey s0
    let e : ParkEntry := { frame := 5, assoc := 0, queue := 2, cls := .noKey, released := false, parkTime := 0, reclassify := 0 }
    s.disp.park.filter (fun x => x.frame == 5) = [e] ∧ s.frame? 5 = some (stored (.encrypt 0)) ∧ s.disp.marks = [] ∧
      50 * s.cfg.holdLimit ≤ (s.time - e.parkTime).toNat ∧
      (({ s with time := 499 } : State).time - e.parkTime).toNat < 50 * s.cfg.holdLimit := by
  decide +kernel

theorem test_park_timeout :
    let s := withParked false .noKey s0
    (after (.parkTimeout 5) s).disp.park = [] ∧ (after (.parkTimeout 5) s).buf.freeCells = 2048 ∧
      (after (.parkTimeout 5) { s with time := 499 }).disp.park.length = 1 := by
  decide +kernel

/-! ## Lanes and the campus port -/

theorem witness_LanesTakeUpAndPass :
    let s := withLane (.keying 5 { assoc := 0, index := 0 }) (.encrypt 0) false s0
    s.lane 1 = .keying 5 { assoc := 0, index := 0 } ∧
      (s.slot { assoc := 0, index := 0 }).check = slotCheckValue 0 7 1000 (s.slot { assoc := 0, index := 0 }).key ∧
      (s.slot { assoc := 0, index := 0 }).epoch = 7 ∧ (s.slot { assoc := 0, index := 0 }).limit = 1000 ∧
      (withLane (.passing 5) .clear false s0).lane 1 = .passing 5 := by
  decide +kernel

theorem test_key_take_up :
    let s := withLane (.keying 5 { assoc := 0, index := 0 }) (.encrypt 0) false s0
    (after (.keyTakeUp 1 { material := 0, check := 0 }) s).lane 1 = .enciphering 5 { assoc := 0, index := 0 } 9 ∧
      (after (.clearPassDone 1) (withLane (.passing 5) .clear false s0)).lane 1 = .idle ∧
      (after (.clearPassDone 1) (withLane (.passing 5) .clear false s0)).campus.sending.isSome := by
  decide +kernel

theorem witness_KeyCheckFailureWipesSlot :
    let s := withLane (.keying 5 { assoc := 0, index := 0 }) (.encrypt 0) false s0
    let k := s.slot { assoc := 0, index := 0 }
    s.lane 1 = .keying 5 { assoc := 0, index := 0 } ∧ (k.check ^^^ 1) ≠ slotCheckValue 0 k.epoch k.limit (k.key ^^^ 0) := by
  decide +kernel

/-- The slot is wiped, the association waits for its key and the frame is dropped (R71, R134). -/
theorem test_key_check_failure :
    let t := after (.keyTakeUp 1 { material := 0, check := 1 })
      (withLane (.keying 5 { assoc := 0, index := 0 }) (.encrypt 0) false s0)
    t.slot { assoc := 0, index := 0 } = KeySlot.wiped ∧ (t.assoc 0).state = .keyWait ∧ t.buf.pool = [] ∧
      t.lane 1 = .idle ∧ (t.counters.assoc[0])[AssocCount.dropKeyCheck.index] = 1 := by
  decide +kernel

/-- The frame of a lane with the part around it is accounted for. -/
theorem withLane_frames (r : Assoc) (k : Vector KeySlot 4) :
    FramesAccounted (withLane (.keying 5 { assoc := 0, index := 0 }) (.encrypt 0) false (part r k)) := by
  have hf : ∀ h, (withLane (.keying 5 { assoc := 0, index := 0 }) (.encrypt 0) false (part r k)).frame? h =
      if 5 = h then some { stored (.encrypt 0) with
        assigned := some { counter := 92, epoch := 7, slot := { assoc := 0, index := 0 } } } else none := fun _ => rfl
  have hp : (withLane (.keying 5 { assoc := 0, index := 0 }) (.encrypt 0) false (part r k)).placed = [5] := rfl
  have hl : ∀ (l : Fin 4) (h : Nat), ((withLane (.keying 5 { assoc := 0, index := 0 }) (.encrypt 0) false
      (part r k)).lane l).frame? = some h → l = 1 ∧ h = 5 := by
    intro l h e
    match l with
    | 0 | 2 | 3 => cases e
    | 1 => exact ⟨rfl, (Option.some.inj e).symm⟩
  refine ⟨by rw [hp]; simp, fun h => ?_, fun q h d hq _ => ?_, fun e d he _ => (by cases he), fun e d he hd => ?_, fun q => ?_,
    rfl, fun q => ?_, fun l h e => ?_, fun e he _ => ⟨1, ?_⟩, fun f hf => (by cases hf)⟩
  · rw [hp, hf]
    by_cases e : 5 = h
    · simp [e]
    · simp [e, Ne.symm e]
  · match q with
    | 0 | 1 | 2 | 3 | 4 | 5 | 6 | 7 => cases hq
  · cases he with
    | head => rw [hf] at hd; cases hd; exact ⟨rfl, rfl⟩
    | tail _ h => cases h
  · match q with
    | 0 | 1 | 2 | 3 | 4 | 5 | 6 | 7 => rfl
  · match q with
    | 0 | 1 | 2 | 3 | 4 | 5 | 6 | 7 => rfl
  · obtain ⟨rfl, rfl⟩ := hl l h e
    refine ⟨fun m hm => (hl m 5 hm).1, _, List.mem_cons_self .., rfl, fun d hd => ?_⟩
    rw [hf] at hd
    cases hd
    exact ⟨rfl, rfl, rfl⟩
  · cases he with
    | head => rfl
    | tail _ h => cases h

/-- The aborted frame leaves the completion list, its cell returns, the counters left are lost under KEY-LOSS; KEY-WANTED and
EXCEPTION are queued (R24, R134, R137). -/
theorem witness_KeyCheckFailureWipesSlot_frames :
    let s := rackSending .pause (withLane (.keying 5 { assoc := 0, index := 0 }) (.encrypt 0) false s0)
    let t := after (.keyTakeUp 1 { material := 0, check := 1 }) s
    FramesAccounted s ∧ NoticesKept s t ∧ t.lanes.completion = [] ∧ t.buf.freeCells = 2048 ∧ t.lanes.inFlight[2] = 0 ∧
    (t.counters.assoc[0])[AssocCount.discardKeyLoss.index] = 104 ∧ t.status.alert = true ∧
    t.status.notices.map (fun n => (n.kind, n.epoch, n.value, n.count)) = [(.keyWanted, 7, 0, 1), (.exception, 7, 7, 1)] := by
  refine ⟨withLane_frames live liveKeys, ?_⟩
  unfold NoticesKept
  decide +kernel

theorem witness_LaneFinishEnciphers :
    let s := withLane (.enciphering 5 { assoc := 0, index := 0 } 9) (.encrypt 0) false s0
    s.lane 1 = .enciphering 5 { assoc := 0, index := 0 } 9 ∧
      ((s.frame? 5).bind (·.assigned)) = some { counter := 92, epoch := 7, slot := { assoc := 0, index := 0 } } ∧
      (s.lanes.completion.find? (fun y => y.frame == 5)).isSome ∧ tableSorted s.buf.pool := by
  decide +kernel

theorem test_lane_finish :
    let t := after (.laneFinish 1) (withLane (.enciphering 5 { assoc := 0, index := 0 } 9) (.encrypt 0) false
      (part live #v[key .retiring 7 1, KeySlot.wiped, KeySlot.wiped, KeySlot.wiped]))
    t.slot { assoc := 0, index := 0 } = KeySlot.wiped ∧ t.lane 1 = .idle ∧ t.lanes.completion.map (·.finished) = [true] := by
  decide +kernel

/-- The head frame on its way. -/
def campusSending (action : FrameAction) : State :=
  { withLane .idle action true s0 with
    campus := { sending := some (withFcs egress), cutShort := false, pauseTimer := 0, fifo := [] },
    disp := { s0.disp with queueState := s0.disp.queueState.set 2 .quiescing } }

theorem witness_CampusFrameSentReleases :
    let s := campusSending (.encrypt 0)
    s.campus.sending = some (withFcs egress) ∧ s.lanes.completion.length = 1 ∧
      (s.lanes.completion.head?.bind (fun e => s.frame? e.frame)).isSome := by
  decide +kernel

theorem witness_CampusFrameSentReleases_quiesced :
    let s := rackSending .pause (campusSending (.encrypt 0))
    let t := after .campusFrameSent s
    NoticesKept s t ∧ t.status.notices = [s.quiescedNotice 2] := by
  unfold NoticesKept
  decide +kernel

/-- 48 octets of L = 60 are counted, and the QUIESCING queue is QUIESCED (R143, R148). -/
theorem test_campus_frame_sent :
    let t := after .campusFrameSent (campusSending (.encrypt 0))
    (t.counters.assoc[0])[AssocCount.octetsEncrypted.index] = 48 ∧ t.disp.queueState[2] = .quiesced ∧
      t.buf.freeCells = 2048 ∧ t.lanes.inFlight[2] = 0 := by
  decide +kernel

/-! ## The command engine -/

/-- A FLUSH-SA whose tag is the GMAC under the command key 5. -/
def authentic : List Byte :=
  beBytes 6 0x020000000001 ++ beBytes 6 0x020000000002 ++ beBytes 2 0x88b5 ++ beBytes 2 77 ++ [0x06] ++ beBytes 2 1 ++ [0] ++
    beBytes 16 63335337702863575911575242226388433948 ++ List.replicate 24 0

/-- The part with a frame in CHECKING. -/
def checking (data : List Byte) : State :=
  { s0 with engine := { s0.engine with state := .checking, input := [data], commandKey := 5 } }

theorem witness_CommandFrameIsChecked :
    (checking authentic).engine.state = .checking ∧ (checking authentic).engine.input = authentic :: [] ∧
    35 + bodyLength authentic ≤ authentic.length ∧ commandAuthentic 5 (checking authentic).cfg authentic = true ∧
    commandAuthentic 5 (checking authentic).cfg (commandFrame 6 [0]) = false := by
  decide +kernel

theorem test_command_frame_check :
    (after .commandFrameCheck (checking authentic)).engine.state = .executing ∧
    (after .commandFrameCheck (checking (commandFrame 6 [0]))).engine.state = .idle ∧
    (after .commandFrameCheck (checking (commandFrame 6 [0]))).counters.frames[FrameCount.commandAuth.index] = 1 := by
  decide +kernel

theorem witness_UndecodedCommandIsRefused :
    (∀ c ∈ [0, 11], (commanded c [] s0).engine.state = .executing ∧
      (commanded c [] s0).engine.input = commandFrame c [] :: [] ∧
      ((commandCode (commandFrame c [])).toNat = 0 ∨ 10 < (commandCode (commandFrame c [])).toNat)) ∧
    (∀ c ∈ [1, 2, 3, 4, 5, 6, 7, 8, 9, 10], commandCode (commandFrame c [0, 0, 0]) = BitVec.ofNat 8 c ∧
      bodyLengthFits c (bodyLength (commandFrame c [0, 0, 0])) (commandBody (commandFrame c [0, 0, 0])) = false) := by
  decide +kernel

/-- Association 5 is undefined, 64 is above 63, and MOVE-SEGMENTS names one defined and one undefined. -/
theorem witness_UndecodedCommandIsRefused_association :
    (∀ x ∈ [(1, List.replicate 49 (5 : Byte)), (3, [0, 5]), (4, [5]), (5, [64]), (6, [255])],
      (commanded x.1 x.2 s0).runs (BitVec.ofNat 8 x.1) (commandFrame x.1 x.2) []) ∧
    (∀ b ∈ [(5 : Byte), 64, 255], ∀ a : Fin 64, a.val = b.toNat → (s0.assocDef a).defined = false) ∧
    byteAt (commandBody (commandFrame 3 [0, 5])) 1 = 5 ∧ byteAt (commandBody (commandFrame 5 [64])) 0 = 64 := by
  unfold State.runs
  decide +kernel

/-- The result of the first reply after a command. -/
def result (c : Instr) (s : State) : Option (CommandResult × Nat) :=
  (after c s).status.replies.head?.map (fun r => (r.result, r.value))

theorem test_unknown_command :
    result .unknownCommand (commanded 11 [] s0) = some (.refusedUnknown, 0) ∧
    result .flushSa (commanded 6 [0, 0] s0) = some (.refusedFormat, 0) := by
  decide +kernel

/-- An INSTALL-KEY body for association 0, key 9, λ = 900, wrapped under key 6 for epoch 7 or 8, with a check. -/
def install (epoch cipher check : Nat) : List Byte :=
  beBytes 1 0 ++ beBytes 2 epoch ++ beBytes 6 900 ++ beBytes 32 cipher ++ beBytes 8 check

/-- Epoch 7 with the right check. -/
def install7 : List Byte :=
  install 7 62340618366740788968459581002815099782012417959689163025549963861462604777583 8311946237386928185

/-- Epoch 8 with the right check. -/
def install8 : List Byte :=
  install 8 81502061926757737509914191988545804896572996221102081363608713766141779698469 6905808786900426286

/-- Epoch 65535 with the right check. -/
def install65535 : List Byte :=
  install 65535 49224782377737311642834275972084270007380393965808065732075363118354815651231 15052014808817025109

/-- The part with a command and the wrap key. -/
def installing (body : List Byte) (s : State) : State :=
  { commanded 1 body s with engine := { (commanded 1 body s).engine with wrapKey := 6 } }

/-- The unwrap of the three bodies succeeds, with another check it fails. -/
theorem test_unwrap :
    unwrapInstall 6 install7 = { epoch := 7, limit := 900, key := 9, unwrapOk := true } ∧
    unwrapInstall 6 install8 = { epoch := 8, limit := 900, key := 9, unwrapOk := true } ∧
    unwrapInstall 6 install65535 = { epoch := 65535, limit := 900, key := 9, unwrapOk := true } ∧
    (unwrapInstall 6 (install 7 0 0)).unwrapOk = false := by
  decide +kernel

/-- SETTLING, association 0 with the slots given. -/
def settlingWith (k : Vector KeySlot 4) : State := { settling with keys := settling.keys.set 0 k }

/-- SETTLING, association 0 retired meanwhile. -/
def retiredWhileSettling : State :=
  { settling with assocs := settling.assocs.set 0 { settling.assoc 0 with state := .retired } }

theorem witness_InstallWhileSettling :
    let one := #v[pending 7, KeySlot.wiped, KeySlot.wiped, KeySlot.wiped]
    let two := #v[pending 8, pending 9, KeySlot.wiped, KeySlot.wiped]
    (∀ k ∈ [one, two, Vector.replicate 4 KeySlot.wiped],
      let s := installing install7 (settlingWith k)
      s.runs 0x01 (commandFrame 1 install7) [] ∧
        s.definedAssoc? (byteAt (commandBody (commandFrame 1 install7)) 0) = some 0 ∧ s.device = .settling ∧
        (s.assoc 0).state = .settling ∧ s.slots 0 = k) ∧
    commandBody (commandFrame 1 install7) = install7 ∧
    (field install7 1 2 ≠ 0 ∧ field install7 3 6 ≠ 0) ∧
    (let s := installing install7 retiredWhileSettling
     s.runs 0x01 (commandFrame 1 install7) [] ∧ s.device = .settling ∧ (s.assoc 0).state = .retired) ∧
    findSlot one (fun k => k.role == .pending && k.epoch == 7) = some 0 ∧
    (findSlot two (fun k => k.role == .pending && k.epoch == 7) = none ∧ 2 ≤ countSlots two (fun k => k.role == .pending)) ∧
    (findSlot (Vector.replicate 4 KeySlot.wiped) (fun k => k.role == .pending && k.epoch == 7) = none ∧
      slotWithRole (Vector.replicate 4 KeySlot.wiped) .empty = some 0) := by
  unfold State.runs
  decide +kernel

theorem test_install_key_settling :
    result .installKey (installing install7 (settlingWith (Vector.replicate 4 KeySlot.wiped))) = some (.done, 257) ∧
    (after .installKey (installing install7 (settlingWith (Vector.replicate 4 KeySlot.wiped)))).slots 0 =
      #v[{ role := .pending, epoch := 7, key := 9, limit := 900, check := slotCheckValue 0 7 900 9, uses := 0 },
         KeySlot.wiped, KeySlot.wiped, KeySlot.wiped] := by
  decide +kernel

/-- Association 0 in KEY-WAIT in epoch 7. -/
def waiting (slots : Vector KeySlot 4) : State := part { live with state := .keyWait, active := none, queued := none } slots

theorem witness_InstallAfterSettle :
    (∀ body ∈ [install7, install8, install 6 0 0, install 9 0 0, install 7 0 0, install 8 0 0],
      let s := installing body (waiting (Vector.replicate 4 KeySlot.wiped))
      s.runs 0x01 (commandFrame 1 body) [] ∧ s.definedAssoc? (byteAt (commandBody (commandFrame 1 body)) 0) = some 0 ∧
        commandBody (commandFrame 1 body) = body ∧ field body 1 2 ≠ 0 ∧ field body 3 6 ≠ 0 ∧ s.device = .running ∧
        (s.assoc 0).epoch = some 7 ∧ (s.assoc 0).state = .keyWait ∧ (s.assoc 0).state.inEpoch = true ∧
        slotWithRole (s.slots 0) .empty = some 0) ∧
    (let p : PendingAdvance := { target := 8, reason := .rekey, condition := .held }
     let s := installing install8 (part { live with pendingAdvance := some p } liveKeys)
     s.runs 0x01 (commandFrame 1 install8) [] ∧ s.device = .running ∧ (s.assoc 0).state.inEpoch = true ∧
       (s.assoc 0).epoch = some 7 ∧ slotWithRole (s.slots 0) .standby = none ∧ slotWithRole (s.slots 0) .empty = some 1 ∧
       (s.assoc 0).pendingAdvance = some p) ∧
    (let s := installing install7 (part { Assoc.reset with state := .retired, epoch := some 7 } liveKeys)
     s.runs 0x01 (commandFrame 1 install7) [] ∧ s.device = .running ∧ (s.assoc 0).epoch = some 7 ∧
       (s.assoc 0).state = .retired) := by
  unfold State.runs
  decide +kernel

/-- Association 0 DORMANT with a settle view, or none. -/
def dormant (v : Option SettleView) : State := part { Assoc.reset with settleView := v } (Vector.replicate 4 KeySlot.wiped)

/-- Epochs 7 and 8 against a view of epoch 6, 7 and 9, and none, with the right check and a wrong one; and epoch 65535. -/
theorem witness_InstallAfterSettle_dormant :
    let view := fun n => some { epoch := n, hwm := 50 : SettleView }
    (∀ body ∈ [install7, install8, install 7 0 0, install 65535 0 0], ∀ v ∈ [view 5, view 6, view 7, view 9, none],
      let s := installing body (dormant v)
      s.runs 0x01 (commandFrame 1 body) [] ∧ s.definedAssoc? (byteAt (commandBody (commandFrame 1 body)) 0) = some 0 ∧
        field body 1 2 ≠ 0 ∧ field body 3 6 ≠ 0 ∧ s.device = .running ∧ (s.assoc 0).state = .dormant ∧
        (s.assoc 0).epoch = none ∧ (s.assoc 0).pendingAdvance = none ∧ (∀ j : Fin 4, (s.slots 0)[j] = KeySlot.wiped)) ∧
    [view 7, view 6, none, view 5, view 9].map (fun v => result .installKey (installing install7 (dormant v))) =
      [some (.done, 514), some (.done, 1027), some (.done, 770), some (.refusedTooFar, 5), some (.refusedStaleEpoch, 9)] := by
  unfold State.runs
  decide +kernel

/-- Epoch 65535 with the right check and no view: RETIRED at once, with the EPOCH-END notice, which names this station (log 14),
before KEY-PLACED, and the parked entry of its association released (R55, R61, R70). -/
theorem witness_InstallAfterSettle_epochEnd :
    let s := rackSending .pause (installing install65535 (withParked false .blind (dormant none)))
    let t := after .installKey s
    s.runs 0x01 (commandFrame 1 install65535) [] ∧
      s.definedAssoc? (byteAt (commandBody (commandFrame 1 install65535)) 0) = some 0 ∧ s.device = .running ∧
      (s.assoc 0).state = .dormant ∧ (s.assoc 0).epoch = none ∧ (s.assoc 0).pendingAdvance = none ∧
      (s.assoc 0).settleView = none ∧ (∀ j : Fin 4, (s.slots 0)[j] = KeySlot.wiped) ∧
      commandBody (commandFrame 1 install65535) = install65535 ∧ s.engine.wrapKey = 6 ∧ NoticesKept s t ∧
      (t.assoc 0).state = .retired ∧ t.disp.park.map (·.released) = [true] ∧
      t.noticesOf 0 = [s.advancedNotice .epochEnd 0 65535 3 true, s.keyNotice .keyPlaced (.role .current) 0 65535] := by
  unfold State.runs NoticesKept
  decide +kernel

/-- An epoch of 0 and a λ of 0, while SETTLING and after settle. -/
theorem witness_Install_outOfRange :
    ∀ body ∈ [install 0 0 0, beBytes 1 0 ++ beBytes 2 7 ++ beBytes 6 0 ++ beBytes 40 0], ∀ t ∈ [settling, s0],
      let s := installing body t
      s.runs 0x01 (commandFrame 1 body) [] ∧ s.definedAssoc? (byteAt (commandBody (commandFrame 1 body)) 0) = some 0 ∧
        (s.device = .settling ∨ s.device = .running) ∧ commandBody (commandFrame 1 body) = body ∧
        (field body 1 2 = 0 ∨ field body 3 6 = 0) ∧ result .installKey s = some (.refusedRange, 0) := by
  unfold State.runs
  decide +kernel

/-- The notices of an install, with the rack transmitter sending: CURRENT in KEY-WAIT, STANDBY, STANDBY replaced, PENDING
replaced, and DORMANT with no view (R56, R57, R60). -/
theorem witness_Install_notices :
    let kinds := fun body x =>
      let s := rackSending .pause (installing body x)
      let t := after .installKey s
      (decide (s.rack.sending.isSome = true ∧ t.status.notices.length < 32 ∧ s.device.erased = false),
        t.status.notices.map (fun n => (n.kind, n.epoch)))
    kinds install7 (waiting (Vector.replicate 4 KeySlot.wiped)) = (true, [(.keyPlaced, 7)]) ∧
    kinds install8 s0 = (true, [(.keyPlaced, 8)]) ∧
    kinds install8 (part live standbyKeys) = (true, [(.keyDiscarded, 8), (.keyPlaced, 8)]) ∧
    kinds install7 settling = (true, [(.keyDiscarded, 7)]) ∧
    kinds install7 (dormant none) = (true, [(.keyWanted, 8), (.keyPlaced, 7)]) := by
  decide +kernel

theorem test_install_key_running :
    result .installKey (installing install7 (waiting (Vector.replicate 4 KeySlot.wiped))) = some (.done, 514) ∧
    result .installKey (installing install8 s0) = some (.done, 515) ∧
    result .installKey (installing install7 s0) = some (.refusedStaleEpoch, 7) ∧
    result .installKey (installing (install 9 0 0) s0) = some (.refusedTooFar, 7) := by
  decide +kernel

/-- Two entries at 4095 and 0, the second CLEAR on queue 4. -/
def segments (start count : Nat) : List Byte :=
  beBytes 2 start ++ beBytes 2 count ++ beBytes 2 (2 ^ 14 + 2) ++ beBytes 2 (2 ^ 15 + 4)

theorem witness_WriteSegmentsWritesList :
    (let s := commanded 2 (segments 4095 2) s0
     let body := commandBody (commandFrame 2 (segments 4095 2))
     s.runs 0x02 (commandFrame 2 (segments 4095 2)) [] ∧ SegMap.wf s.segMap ∧ field body 0 2 = 4095 ∧ field body 2 2 = 2 ∧
       (∀ m, m < 2 → (s.cfg.entry? (field body (4 + 2 * m) 2)).isSome)) ∧
    (let s := commanded 2 (segments 4096 2) s0
     s.runs 0x02 (commandFrame 2 (segments 4096 2)) [] ∧ SegMap.wf s.segMap ∧
       ¬ field (commandBody (commandFrame 2 (segments 4096 2))) 0 2 ≤ 4095) ∧
    (let s : State := { commanded 2 (segments 4095 2) s0 with
       engine := { (commanded 2 (segments 4095 2) s0).engine with written := 1 } }
     s.runs 0x02 (commandFrame 2 (segments 4095 2)) [] ∧ s.engine.written + 1 = 2) := by
  unfold State.runs
  decide +kernel

theorem test_write_segments :
    let t := after .writeSegments (commanded 2 (segments 4095 2) s0)
    let t' := after .writeSegments t
    SegMap.read t.segMap 4095 = .encrypt 0 2 ∧ SegMap.read t.segMap 0 = .drop ∧ t.engine.state = .executing ∧
      SegMap.read t'.segMap 0 = .clear 4 ∧ result .writeSegments t = some (.done, 2) ∧ t'.engine.written = 0 ∧
      result .writeSegments (commanded 2 (segments 4096 2) s0) = some (.refusedRange, 0) := by
  decide +kernel

/-- A scan from association 0 to 1 at a position. -/
def scanning (position : Nat) (s : State) : State :=
  { s with engine := { s.engine with scan := some { source := 0, target := 1, position := position, moved := 2 } } }

theorem witness_MoveScanRewritesEntries :
    (let s := commanded 3 [0, 1] s0
     s.runs 0x03 (commandFrame 3 [0, 1]) [] ∧ s.definedAssoc? 0 = some 0 ∧ s.definedAssoc? 1 = some 1 ∧ s.engine.scan = none ∧
       (scanning 9 s).engine.scan.isSome ∧ (scanning 9 s).runs 0x03 (commandFrame 3 [0, 1]) []) ∧
    (let s := commanded 3 [0, 5] s0
     s.runs 0x03 (commandFrame 3 [0, 5]) [] ∧ s.definedAssoc? 5 = none) ∧
    (let s := scanning 5 (mapped (.encrypt 0 2) s0)
     SegMap.wf s.segMap ∧ SegMap.read s.segMap 5 = .encrypt 0 2) ∧
    (SegMap.wf (scanning 4095 s0).segMap ∧ SegMap.read (scanning 4095 s0).segMap 4095 = .drop) := by
  unfold State.runs
  decide +kernel

theorem test_scan_step :
    let t := after .scanStep (scanning 5 (mapped (.encrypt 0 2) s0))
    SegMap.read t.segMap 5 = .encrypt 1 2 ∧ t.engine.scan = some { source := 0, target := 1, position := 6, moved := 3 } ∧
      (after .scanStep (scanning 4095 s0)).engine.scan = none ∧
      result .moveSegments (scanning 9 (commanded 3 [0, 1] s0)) = some (.refusedBusy, 9) ∧
      result .moveSegments (commanded 3 [0, 1] s0) = some (.accepted, 0) := by
  decide +kernel

theorem witness_AdvanceEpochRequests :
    let s := fun r k => commanded 4 [0] (part r k)
    (∀ k ∈ [liveKeys, standbyKeys], (s live k).runs 0x04 (commandFrame 4 [0]) [] ∧
      (s live k).definedAssoc? (byteAt (commandBody (commandFrame 4 [0])) 0) = some 0 ∧ ((s live k).assoc 0).state = .live ∧
      ((s live k).assoc 0).epochOrZero < 65535 ∧ ((s live k).assoc 0).pendingAdvance = none) ∧
    ((s live standbyKeys).slots 0)[1].role = .standby ∧ (∀ j : Fin 4, ((s live liveKeys).slots 0)[j].role ≠ .standby) ∧
    (let p : PendingAdvance := { target := 8, reason := .rekey, condition := .queued }
     ((s { live with pendingAdvance := some p } standbyKeys).assoc 0).pendingAdvance = some p) := by
  unfold State.runs
  decide +kernel

theorem test_advance_epoch :
    result .advanceEpoch (commanded 4 [0] (part live standbyKeys)) = some (.accepted, 8) ∧
    (after .advanceEpoch (commanded 4 [0] (part live standbyKeys))).bus.txList = [{ kind := .advance, assoc := 0 }] ∧
    result .advanceEpoch (commanded 4 [0] s0) = some (.refusedState, 7) := by
  decide +kernel

theorem witness_FlushAndRetireRemoveFrames :
    ∀ c ∈ [5, 6],
      let s := commanded c [0] (withQueued (.encrypt 0) s0)
      s.runs (BitVec.ofNat 8 c) (commandFrame c [0]) [] ∧
        s.definedAssoc? (byteAt (commandBody (commandFrame c [0])) 0) = some 0 ∧ (s.assoc 0).state ≠ .retired ∧
        countSlots (s.slots 0) (fun k => k.role == .retiring) < 2 ∧
        countSlots (s.slots 0) (fun k => k.role == .current) ≤ 1 ∧ s.disp.marks = [] := by
  unfold State.runs
  decide +kernel

/-- RETIRE-SA of an association already RETIRED. -/
theorem witness_FlushAndRetireRemoveFrames_retired :
    let s := commanded 5 [0] (part { Assoc.reset with state := .retired } liveKeys)
    s.runs 0x05 (commandFrame 5 [0]) [] ∧ s.definedAssoc? (byteAt (commandBody (commandFrame 5 [0])) 0) = some 0 ∧
      (s.assoc 0).state = .retired ∧ result .retireSa s = some (.refusedState, 0) := by
  unfold State.runs
  decide +kernel

/-- RETIRE-SA with two RETIRING slots, the older with a frame in lane 1, and the CURRENT in use (R67). -/
theorem witness_FlushAndRetireRemoveFrames_thirdRetiring :
    let s := commanded 5 [0] (rackSending .pause (withLane (.keying 5 { assoc := 0, index := 0 }) (.encrypt 0) false
      (part live #v[key .retiring 5 1, key .retiring 6 1, key .current 7 1, key .standby 8 0])))
    let t := after .retireSa s
    FramesAccounted s ∧
    s.runs 0x05 (commandFrame 5 [0]) [] ∧ s.definedAssoc? (byteAt (commandBody (commandFrame 5 [0])) 0) = some 0 ∧
      (s.assoc 0).state ≠ .retired ∧ (s.slots 0)[0].role = .retiring ∧ (s.slots 0)[1].role = .retiring ∧
      (s.slots 0)[0].epoch < (s.slots 0)[1].epoch ∧ (s.slots 0)[2].role = .current ∧ (s.slots 0)[2].uses ≠ 0 ∧
      countSlots (s.slots 0) (fun k => k.role == .retiring) = 2 ∧ countSlots (s.slots 0) (fun k => k.role == .current) ≤ 1 ∧
      NoticesKept s t ∧ t.lane 1 = .idle ∧ t.buf.freeCells = 2048 ∧
      t.status.notices.map (fun n => (n.kind, n.epoch)) = [(.keyDiscarded, 8)] := by
  refine ⟨withLane_frames _ _, ?_⟩
  unfold State.runs NoticesKept
  decide +kernel

/-- Two RETIRING slots with the CURRENT one unused, which is wiped: the others and the lane stay (R70). -/
theorem witness_FlushAndRetireRemoveFrames_unused :
    let s := commanded 5 [0] (withLane (.keying 5 { assoc := 0, index := 0 }) (.encrypt 0) false
      (part live #v[key .retiring 5 1, key .retiring 6 1, key .current 7 0, KeySlot.wiped]))
    let t := after .retireSa s
    s.runs 0x05 (commandFrame 5 [0]) [] ∧ s.definedAssoc? (byteAt (commandBody (commandFrame 5 [0])) 0) = some 0 ∧
      (s.assoc 0).state ≠ .retired ∧ (∀ j : Fin 4, (s.slots 0)[j].role = .current → (s.slots 0)[j].uses = 0) ∧
      s.disp.marks = [] ∧ countSlots (s.slots 0) (fun k => k.role == .current) ≤ 1 ∧
      (t.slots 0).toList.map (·.role) = [.retiring, .retiring, .empty, .empty] ∧ t.lane 1 = s.lane 1 := by
  unfold State.runs
  decide +kernel

theorem test_flush_sa :
    let t := after .flushSa (commanded 6 [0] (withQueued (.encrypt 0) s0))
    t.buf.queues[2] = [] ∧ t.buf.freeCells = 2048 ∧ (t.counters.assoc[0])[AssocCount.flushed.index] = 1 ∧
      result .flushSa (commanded 6 [0] (withQueued (.encrypt 0) s0)) = some (.done, 1) := by
  decide +kernel

theorem test_retire_sa :
    let t := after .retireSa (commanded 5 [0] (withQueued (.encrypt 0) s0))
    (t.assoc 0).state = .retired ∧ (t.assoc 0).epoch = some 7 ∧ t.slot { assoc := 0, index := 0 } = KeySlot.wiped ∧
      (t.counters.assoc[0])[AssocCount.discardRetire.index] = 104 ∧
      (t.counters.assoc[0])[AssocCount.dropRetired.index] = 1 := by
  decide +kernel

/-- The part with one frame of queue 2 in flight and queue 1 QUIESCED. -/
def inFlight : State :=
  { withLane (.passing 5) .clear false s0 with disp := { s0.disp with queueState := s0.disp.queueState.set 1 .quiesced } }

theorem witness_QueuesQuiesceAndResume :
    ∀ c ∈ [7, 8], ∀ m ∈ [(0 : Byte), 1, 255], (commanded c [m] inFlight).runs (BitVec.ofNat 8 c) (commandFrame c [m]) [] ∧
      byteAt (commandBody (commandFrame c [m])) 0 = m := by
  unfold State.runs
  decide +kernel

/-- Queues 0 and 3 become QUIESCED, each with its notice; queue 2 is in flight (R147, R148). -/
theorem witness_QueuesQuiesceAndResume_notices :
    let s := rackSending .pause (commanded 7 [13] inFlight)
    let t := after .quiesceQueue s
    NoticesKept s t ∧ s.runs 0x07 (commandFrame 7 [13]) [] ∧ t.status.notices = [s.quiescedNotice 0, s.quiescedNotice 3] := by
  unfold State.runs NoticesKept
  decide +kernel

/-- Queue 2 has a frame in flight and is QUIESCING; all others are QUIESCED (R147, R169). -/
theorem test_quiesce_queue :
    (after .quiesceQueue (commanded 7 [255] inFlight)).disp.queueState[2] = .quiescing ∧
    result .quiesceQueue (commanded 7 [255] inFlight) = some (.done, 251) ∧
    result .quiesceQueue (commanded 7 [0] inFlight) = some (.refusedRange, 0) := by
  decide +kernel

theorem test_resume_queue :
    (after .resumeQueue (commanded 8 [3] inFlight)).disp.queueState[1] = .active ∧
    result .resumeQueue (commanded 8 [3] inFlight) = some (.done, 2) := by
  decide +kernel

theorem witness_ReadStatusReadsGroup :
    (∀ g ∈ [(0 : Byte), 66, 67], ∀ f ∈ [(0 : Byte), 1, 2],
      (commanded 9 [g, f] s0).runs 0x09 (commandFrame 9 [g, f]) [] ∧ byteAt (commandBody (commandFrame 9 [g, f])) 0 = g ∧
      byteAt (commandBody (commandFrame 9 [g, f])) 1 = f) := by
  unfold State.runs
  decide +kernel

theorem test_read_status :
    let s := commanded 9 [66, 1] { s0 with counters := { s0.counters with bus := #v[4, 5, 6] } }
    let t := after .readStatus s
    t.counters.bus = #v[0, 0, 0] ∧ t.rack.sending.isSome ∧ t.status.replies.head?.map (·.counters) = some [4, 5, 6] ∧
      result .readStatus (commanded 9 [67, 0] s0) = some (.refusedRange, 0) := by
  decide +kernel

theorem witness_ZeroizeCommandErases :
    (commanded 10 [] s0).runs 0x0a (commandFrame 10 []) [] ∧ (commanded 10 [] s0).zeroizeLatch = false ∧
    (commanded 10 [] s0).device = .running ∧ (commanded 10 [] settling).device = .settling ∧
    (commanded 10 [] settling).runs 0x0a (commandFrame 10 []) [] := by
  unfold State.runs
  decide +kernel

theorem test_zeroize :
    (after .zeroize (commanded 10 [] s0)).device = .zeroizing ∧
    result .zeroize (commanded 10 [] s0) = some (.accepted, 0) := by
  decide +kernel

/-! ## Exceptions reported and parked frames released -/

/-- Every class with one disposition and notify setting, alert the same. -/
def settings (d : Disposition) (notify : Bool) (s : State) : State :=
  { s with image := s.image.map (fun i =>
      { i with settings := Vector.replicate 13 { disposition := d, notify := notify, alert := notify } }) }

/-- What a command reports with the rack transmitter sending: class, association, value and count of each EXCEPTION notice; and
ALERT_N. -/
def reports (c : Instr) (s : State) : List (NoticeDetail × Nat × Nat × Nat) × Bool :=
  let t := after c (rackSending .pause s)
  (t.exceptions.map (fun n => (n.detail, n.assoc, n.value, n.count)), t.alertN)

/-- A BLIND association's frame: parked on an empty list, dropped with L = 60, DOUBLE with 2048 cells parked already, which is
reported though its class does not notify; nothing where the class does not; and a second report of one class merges. -/
theorem witness_StateFaultParksOrDrops_reports :
    let blind := withQueued (.encrypt 0) (part { Assoc.reset with state := .blind, epoch := some 7 } liveKeys)
    let full := { blind with disp := { blind.disp with parkedCells := 2048 } }
    let told := rackSending .pause (settings .park true blind)
    NoticesKept told (after .dispatch told) ∧
    [settings .park true blind, settings .drop true blind, settings .park false full, settings .park false blind,
      withNotices [{ notice .exception (.cls .blind) with value := 9 }] (settings .park true blind)].map (reports .dispatch) =
      [([(.cls .blind, 0, 1, 1)], false), ([(.cls .blind, 0, 60, 1)], false), ([(.cls .double, 0, 2048, 1)], true), ([], true),
       ([(.cls .blind, 0, 9, 2)], false)] := by
  unfold NoticesKept
  decide +kernel

/-- The DOUBLE of a full notice queue is lost, with ALERT_N low, whatever its class's alert setting (R124, R177). -/
theorem witness_StateFaultParksOrDrops_lost :
    let blind := withQueued (.encrypt 0) (part { Assoc.reset with state := .blind, epoch := some 7 } liveKeys)
    let s := withNotices (List.replicate 32 (notice .exception (.cls .blind)))
      (settings .park false { blind with disp := { blind.disp with parkedCells := 2048 } })
    let n := s.exceptionNotice .double (some 0) 2048
    s.device.erased = false ∧ 32 ≤ s.status.notices.length ∧ (∀ x ∈ s.status.notices, n.sameException x = false) ∧
      n.alert = false ∧ (after .dispatch s).alertN = false ∧
      (after .dispatch s).counters.frames[FrameCount.noticesLost.index] = 1 := by
  decide +kernel

/-- The other frames: OVERSIZE under association 255 and RETIRED with L, PARK-TIMEOUT with the 400 µs since the frame's arrival, a
released entry with its class changed and unchanged, the two stale ranges of a walk with 5 − 2 and 101 counters before STARVED, and
RETIRE-SA with 0. -/
theorem witness_Dispatcher_reports :
    let stale := withQueued (.encrypt 0) (part { live with hwm := some 4000, level := 3 }
      #v[{ key .current 7 0 with limit := 5000 }, KeySlot.wiped, KeySlot.wiped, KeySlot.wiped])
    let asNoKey := { reparkable with disp := { reparkable.disp with park := reparkable.disp.park.map ({ · with cls := .noKey }) } }
    [(Instr.dispatch, clearQueued 1519),
      (.dispatch, withQueued (.encrypt 0) (part { Assoc.reset with state := .retired } liveKeys)), (.dispatch, reparkable),
      (.dispatch, asNoKey), (.dispatch, stale), (.parkTimeout 5, withParked false .noKey s0),
      (.retireSa, commanded 5 [0] s0)].map (fun p => reports p.1 (settings .park true p.2)) =
      [([(.cls .oversize, 255, 1519, 1)], false), ([(.cls .retired, 0, 60, 1)], false), ([(.cls .noKey, 0, 1, 1)], false),
       ([], true), ([(.cls .staleDiscard, 0, 3, 2), (.cls .starved, 0, 1, 1)], false),
       ([(.cls .parkTimeout, 0, 400, 1)], false), ([(.cls .retired, 0, 0, 1)], false)] := by
  decide +kernel

/-- A won claim ending at 900 with two ranges held, the queued one of 101 counters replaced; the peer claim [94, 200], of which 3
counters are held; and neither where the class does not notify. -/
theorem witness_Claims_reports :
    let own := sending (ownClaim7 600) (part { live with pendingClaim := true } liveKeys)
    let won : Instr := .claim 0 3 7 301 600 (good (ownClaim7 600))
    let peer : Instr := .claim 0 2 7 94 107 (good (claim7 94 107))
    [reports won (settings .park true own), reports peer (settings .park true s0), reports won own, reports peer s0] =
      [([(.cls .claimOverlap, 0, 101, 1), (.cls .rekeyPoint, 0, 900, 1)], false), ([(.cls .claimOverlap, 0, 3, 1)], false),
       ([], true), ([], true)] := by
  decide +kernel

/-- An entry of each fault class of association 0, and one of every class alike of association 1. -/
def parkedClasses (s : State) : State :=
  let entry := fun (a : Fin 64) (c : ExcClass) =>
    ({ frame := 100 + 16 * a.val + c.index.val, assoc := a, queue := 2, cls := c, released := false, parkTime := 0,
       reclassify := 0 } : ParkEntry)
  { s with disp := { s.disp with park :=
      [ExcClass.settling, .noKey, .blind, .exhausted, .starved].flatMap (fun c => [entry 0 c, entry 1 c]) } }

/-- The associations and classes a command releases. -/
def freed (c : Instr) (s : State) : List (Fin 64 × ExcClass) :=
  (after c (parkedClasses s)).disp.park.filterMap (fun e => if e.released then some (e.assoc, e.cls) else none)

/-- Placement, an install, an advance, a won claim and a peer's claim release the entries of their association and classes, and
every other stays (R6, R50, R56, R60, R69, R70, R125). -/
theorem witness_Releases :
    freed .settleTimerExpiry settling = [(0, .settling), (1, .settling), (0, .noKey), (1, .noKey)] ∧
    freed .installKey (installing install7 (waiting (Vector.replicate 4 KeySlot.wiped))) = [(0, .noKey)] ∧
    freed .installKey (installing install8 s0) = [] ∧
    freed .installKey (installing install65535 (dormant none)) =
      [(0, .settling), (0, .noKey), (0, .blind), (0, .exhausted), (0, .starved)] ∧
    freed (.advance 0 2 8 0 (good (advance 8))) (part live standbyKeys) =
      [(0, .noKey), (0, .blind), (0, .exhausted), (0, .starved)] ∧
    freed (.advance 0 2 8 0 (good (advance 8))) s0 = [(0, .blind), (0, .exhausted), (0, .starved)] ∧
    freed (.claim 0 3 7 301 16 (good (ownClaim7 16)))
      (sending (ownClaim7 16) (part { live with pendingClaim := true, active := none, queued := none } liveKeys)) =
        [(0, .starved)] ∧
    freed (.claim 0 2 7 93 3 (good (claim7 93 3))) s0 = [(0, .starved)] ∧
    freed (.claim 0 2 7 94 107 (good (claim7 94 107))) s0 = [] := by
  decide +kernel

/-! ## The status unit and the invariants -/

/-- An EXCEPTION notice of a class, and queues it meets: one to merge into, an empty one, a full one. -/
theorem witness_NoticeMergesJoinsOrIsLost :
    let n := notice .exception (.cls .starved)
    let other := notice .exception (.cls .blind)
    (zeroizing 0).device = .zeroizing ∧ s0.device ≠ .zeroizing ∧ s0.device ≠ .zeroized ∧
      (withNotices [other, n] s0).status.notices = [other] ++ n :: [] ∧ other.detail ≠ n.detail ∧
      (withNotices (List.replicate 31 other) s0).status.notices.length < 32 ∧
      32 ≤ (withNotices (List.replicate 32 other) s0).status.notices.length := by
  decide +kernel

theorem test_notice :
    let n := notice .exception (.cls .starved)
    let other := notice .exception (.cls .blind)
    ((postNotice n (withNotices [other, n] s0)).status.notices.map (·.count)) = [1, 2] ∧
      (postNotice n (withNotices (List.replicate 31 other) s0)).status.notices.length = 32 ∧
      (postNotice n (withNotices (List.replicate 32 other) s0)).counters.frames[FrameCount.noticesLost.index] = 1 ∧
      (postNotice n (withNotices (List.replicate 32 other) s0)).status.alert = true := by
  decide +kernel

/-- The part about to dispatch a queued frame, for the statements about every step. -/
def aboutToDispatch : State := { withQueued (.encrypt 0) s0 with pending := [.dispatch] }

/-- The state after that step. -/
def dispatched : State := after .dispatch (withQueued (.encrypt 0) s0)

theorem aboutToDispatch_steps : step aboutToDispatch = .next dispatched := rfl

theorem witness_StepKeepsSegmentMap :
    SegMapKept (scanning 4095 aboutToDispatch) ∧
    (∀ x, (scanning 4095 aboutToDispatch).engine.scan = some x → x.position ≤ 4095) ∧
    ∃ t, step (scanning 4095 aboutToDispatch) = .next t := by
  refine ⟨by unfold SegMapKept; decide +kernel, ?_, _, rfl⟩
  rintro x h
  cases h
  decide

theorem witness_StepKeepsCells : CellsBalance aboutToDispatch ∧ step aboutToDispatch = .next dispatched :=
  ⟨by unfold CellsBalance; decide +kernel, rfl⟩

/-- A part in LOADING, which holds nothing, and one in RUNNING, of which nothing is asked. -/
theorem witness_StepKeepsErased :
    ErasedOutsideWork aboutToDispatch ∧ step aboutToDispatch = .next dispatched ∧ HoldsNothing loading ∧
    loading.device.working = false := by
  refine ⟨fun h => absurd h (by decide), rfl, ?_, by decide⟩
  unfold HoldsNothing
  refine ⟨by decide +kernel, ?_, by decide +kernel⟩
  rintro ⟨a, j⟩
  revert a j
  decide +kernel

theorem witness_StepKeepsListsBounded : ListsBounded aboutToDispatch ∧ step aboutToDispatch = .next dispatched := by
  refine ⟨⟨by decide +kernel, by decide +kernel, by decide +kernel, by decide +kernel, by decide +kernel,
    by decide +kernel, by decide +kernel, fun h => absurd rfl h, by decide +kernel, by decide +kernel⟩, rfl⟩

theorem witness_StepKeepsCountersOrdered :
    ErasedOutsideWork aboutToDispatch ∧ CountersOrdered aboutToDispatch ∧ step aboutToDispatch = .next dispatched :=
  ⟨fun h => absurd h (by decide), s0_ordered, rfl⟩

/-- The stored frame under handle 5 and no other. -/
theorem aboutToDispatch_frame (h : Nat) :
    aboutToDispatch.frame? h = if 5 = h then some (stored (.encrypt 0)) else none := rfl

theorem aboutToDispatch_frames : FramesAccounted aboutToDispatch := by
  have hp : aboutToDispatch.placed = [5] := by decide +kernel
  have hk : aboutToDispatch.disp.park = [] := rfl
  have hc : aboutToDispatch.lanes.completion = [] := rfl
  refine ⟨by rw [hp]; simp, fun h => ?_, fun q h d hq hd => ?_, by simp [hk], by simp [hc], by decide +kernel, rfl,
    by decide +kernel, ?_, by simp [hc], ?_⟩
  · rw [hp, aboutToDispatch_frame]
    by_cases e : 5 = h
    · simp [e]
    · simp [e, Ne.symm e]
  · have h' : ∀ q : Fin 8, ∀ h ∈ aboutToDispatch.buf.queues[q], q = 2 := by decide +kernel
    have hq := h' q h hq
    rw [aboutToDispatch_frame] at hd
    split at hd
    · cases hd; exact ⟨hq.symm, rfl⟩
    · cases hd
  · intro l h hl
    have : ∀ l : Fin 4, (aboutToDispatch.lane l).frame? = none := by decide +kernel
    rw [this l] at hl; cases hl
  · intro f hf; cases hf

theorem aboutToDispatch_keys : KeysAccounted aboutToDispatch := by
  have hr : ∀ (a : Fin 64) (j : Fin 4),
      let r : SlotRef := { assoc := a, index := j }
      (aboutToDispatch.slot r).uses = (aboutToDispatch.lanesOfSlot r).length ∧
      ((aboutToDispatch.slot r).uses = 0 ∧ (aboutToDispatch.slot r).role ≠ .retiring) ∧
      ((aboutToDispatch.slot r).role = .empty → aboutToDispatch.slot r = KeySlot.wiped) := by decide +kernel
  refine ⟨fun r => (hr r.assoc r.index).1, fun r h => absurd (hr r.assoc r.index).2.1.1 h,
    fun r h => absurd h (hr r.assoc r.index).2.1.2, fun r => (hr r.assoc r.index).2.2, fun a => ?_, by decide +kernel,
    fun a h => absurd h (by decide), by decide +kernel⟩
  have ha : ∀ a : Fin 64, ((aboutToDispatch.assoc a).state = .live ∧ aboutToDispatch.slots a = liveKeys) ∨
      ((aboutToDispatch.assoc a).state = .dormant ∧ ∀ j : Fin 4, (aboutToDispatch.slots a)[j] = KeySlot.wiped) := by
    decide +kernel
  unfold State.keysFitState State.slotsOf
  rcases ha a with ⟨h1, h2⟩ | ⟨h1, h2⟩
  · rw [h1, h2]; decide +kernel
  · rw [h1]; exact h2

theorem witness_StepKeepsCountsAndPlaces :
    ErasedOutsideWork aboutToDispatch ∧ CellsBalance aboutToDispatch ∧ FramesAccounted aboutToDispatch ∧
    KeysAccounted aboutToDispatch ∧ step aboutToDispatch = .next dispatched :=
  ⟨fun h => absurd h (by decide), witness_StepKeepsCells.1, aboutToDispatch_frames, aboutToDispatch_keys, rfl⟩

end Sys2Proof.Tests
end

section
/-! SUPPORT. The notices an event hands over, as one list: what a list of notices handed over does to the queued ones, and
what `Reported` and `Notified` say of an event that handed it over. -/

namespace Sys2Proof.Machine

/-! ## Handing over a list of notices -/

/-- Notices handed over one after another. -/
def postAll (l : List Notice) (s : State) : State := l.foldl (fun s n => postNotice n s) s

/-- How many notices were lost, at group 65 (R177, R181). -/
def State.lost (s : State) : Nat := s.counters.frames[FrameCount.noticesLost.index]

/-- All that handing over a notice reads and writes is the same in two states. -/
structure SameDesk (u t : State) : Prop where
  device : t.device = u.device
  time : t.time = u.time
  notices : t.status.notices = u.status.notices
  alert : t.status.alert = u.status.alert
  lost : t.lost = u.lost

/-- Between `s` and `t` exactly the notices `l` were handed over, in this order; none is a COMMAND-OVERRUN, which merges. -/
structure Posts (s t : State) (l : List Notice) : Prop where
  desk : SameDesk (postAll l s) t
  noOverrun : ∀ n ∈ l, n.kind ≠ .commandOverrun

@[simp] theorem postAll_nil (s : State) : postAll [] s = s := rfl

@[simp] theorem postAll_cons (n : Notice) (l : List Notice) (s : State) :
    postAll (n :: l) s = postAll l (postNotice n s) := rfl

theorem postAll_append (l m : List Notice) (s : State) : postAll (l ++ m) s = postAll m (postAll l s) := by
  simp [postAll]

@[simp] theorem lost_setAlert (s : State) : (setAlert s).lost = s.lost := rfl

@[simp] theorem lost_bumpFrames (s : State) : (bumpFrames .noticesLost s).lost = satAdd48 s.lost 1 := by
  simp [State.lost, bumpFrames]

/-- Handing over a notice does the same in two states that agree in what it reads. -/
theorem SameDesk.postNotice {u t : State} (h : SameDesk u t) (n : Notice) :
    SameDesk (Machine.postNotice n u) (Machine.postNotice n t) := by
  obtain ⟨hd, ht, hn, ha, hl⟩ := h
  unfold Machine.postNotice
  rw [hd, hn]
  split
  · exact ⟨hd, ht, hn, ha, hl⟩
  split
  · exact ⟨rfl, ht, rfl, by simp [ha], by simpa [State.lost] using hl⟩
  split
  · exact ⟨hd, ht, by simp [joinNotice, hn, ht], by simp [joinNotice, ha], by simpa [joinNotice, State.lost] using hl⟩
  · exact ⟨by simpa using hd, by simpa using ht, by simpa [setAlert] using hn, rfl, by simp [hl]⟩

theorem SameDesk.postAll {u t : State} (h : SameDesk u t) (l : List Notice) :
    SameDesk (Machine.postAll l u) (Machine.postAll l t) := by
  induction l generalizing u t with
  | nil => exact h
  | cons n l ih => exact ih (h.postNotice n)

theorem SameDesk.trans {u v t : State} (h : SameDesk u v) (k : SameDesk v t) : SameDesk u t :=
  ⟨k.device.trans h.device, k.time.trans h.time, k.notices.trans h.notices, k.alert.trans h.alert, k.lost.trans h.lost⟩

/-- An operation that leaves device, time, status unit and counter set as they were hands nothing over. -/
theorem posts_nil {s t : State} (hd : t.device = s.device) (ht : t.time = s.time) (hs : t.status = s.status)
    (hc : t.lost = s.lost) : Posts s t [] :=
  ⟨⟨hd, ht, by rw [hs]; rfl, by rw [hs]; rfl, hc⟩, by simp⟩

theorem Posts.trans {s u t : State} {l m : List Notice} (h : Posts s u l) (k : Posts u t m) : Posts s t (l ++ m) where
  desk := by
    rw [postAll_append]
    exact (h.desk.postAll m).trans k.desk
  noOverrun n hn := (List.mem_append.1 hn).elim (h.noOverrun n) (k.noOverrun n)

theorem Posts.same {s u t : State} {l : List Notice} (h : Posts s u l) (k : SameDesk u t) : Posts s t l :=
  ⟨h.desk.trans k, h.noOverrun⟩

theorem posts_postNotice (n : Notice) (s : State) (h : n.kind ≠ .commandOverrun) : Posts s (postNotice n s) [n] :=
  ⟨⟨rfl, rfl, rfl, rfl, rfl⟩, by simpa using h⟩

/-- What a report hands over (R117, R121). -/
def State.handed (s : State) (c : ExcClass) (a : Fin 64) (value count : Nat) : List Notice :=
  if s.notifies c then
    [newNotice .exception (.cls c) a.val (s.assoc a).epochOrZero value count (s.alerts c)]
  else []

theorem posts_report (c : ExcClass) (a : Fin 64) (value count : Nat) (s : State) :
    Posts s (report c (some a) value count s) (s.handed c a value count) := by
  unfold report State.handed
  split
  · exact posts_postNotice _ _ (by simp [newNotice])
  · exact posts_nil rfl rfl rfl rfl

/-! ## One notice -/

theorem mergesInto_false_of_kind {n : Notice} (he : n.kind ≠ .exception) (ho : n.kind ≠ .commandOverrun) (x : Notice) :
    n.mergesInto x = false := by
  unfold Notice.mergesInto
  split <;> simp_all

/-- A notice that is no EXCEPTION, handed over before zeroization, joins the queue while there is room (R176). -/
theorem postNotice_joins {n : Notice} {s : State} (he : n.kind ≠ .exception) (ho : n.kind ≠ .commandOverrun)
    (hd : s.device.erased = false) :
    (postNotice n s).status.notices =
      if s.status.notices.length < 32 then s.status.notices ++ [{ n with time := s.time }] else s.status.notices := by
  have hm : s.status.notices.any n.mergesInto = false := by simp [mergesInto_false_of_kind he ho]
  unfold postNotice
  by_cases hl : s.status.notices.length < 32 <;> simp [hd, hm, hl, joinNotice, setAlert]

/-- What a merge compares: kind, detail and association (R176). -/
def Notice.sort (n : Notice) : NoticeKind × NoticeDetail × Nat := (n.kind, n.detail, n.assoc)

theorem sameException_eq_of_sort {n x y : Notice} (h : x.sort = y.sort) : n.sameException x = n.sameException y := by
  simp only [Notice.sort, Prod.mk.injEq] at h
  simp [Notice.sameException, h.1, h.2.1, h.2.2]

@[simp] theorem merge_sort (n x : Notice) : (n.merge x).sort = x.sort := rfl

theorem mergeNotice_map_sort (n : Notice) (l : List Notice) : (mergeNotice n l).map Notice.sort = l.map Notice.sort := by
  induction l with
  | nil => rfl
  | cons x l ih =>
    rw [mergeNotice]
    split
    · simp
    · simp [ih]

theorem mergeNotice_length (n : Notice) (l : List Notice) : (mergeNotice n l).length = l.length := by
  simpa using congrArg List.length (mergeNotice_map_sort n l)

/-- A merge of an EXCEPTION notice leaves every other kind of notice as it was. -/
theorem mergeNotice_others (n : Notice) (h : n.kind = .exception) (p : Notice → Bool)
    (hp : ∀ x, p x = true → x.kind ≠ .exception) (l : List Notice) : (mergeNotice n l).filter p = l.filter p := by
  have hno : ∀ x : Notice, x.kind = .exception → p x = false := fun x hx => by
    cases hpx : p x
    · rfl
    · exact absurd hx (hp x hpx)
  induction l with
  | nil => rfl
  | cons x l ih =>
    rw [mergeNotice, mergesInto_exception n x h]
    split
    · rename_i hx
      have hk : x.kind = .exception := by
        simp only [Notice.sameException, Bool.and_eq_true, beq_iff_eq] at hx
        exact hx.1.1
      rw [List.filter_cons_of_neg (by simp [hno _ (show (n.merge x).kind = .exception from hk)]),
        List.filter_cons_of_neg (by simp [hno x hk])]
    · simp [List.filter_cons, ih]

theorem postNotice_length_le (n : Notice) (s : State) :
    s.status.notices.length ≤ (postNotice n s).status.notices.length := by
  unfold postNotice
  (repeat' split) <;> simp [mergeNotice_length, joinNotice, setAlert]

/-- A notice handed over does not clear ALERT_N (R180). -/
theorem postNotice_alert_keeps (n : Notice) (s : State) (h : s.status.alert = true) :
    (postNotice n s).status.alert = true := by
  unfold postNotice
  (repeat' split) <;> simp [joinNotice, setAlert, h]

/-- A notice with alert, handed over before zeroization, drives ALERT_N low, lost or not (R177, R180). -/
theorem postNotice_alert_sets (n : Notice) (s : State) (hd : s.device.erased = false) (h : n.alert = true) :
    (postNotice n s).status.alert = true := by
  unfold postNotice
  simp only [hd]
  (repeat' split) <;> simp_all [joinNotice, setAlert]

/-- The count of lost notices falls at no notice handed over (R181). -/
theorem postNotice_lost_le (n : Notice) (s : State) : min s.lost max48 ≤ (postNotice n s).lost := by
  unfold postNotice
  (repeat' split)
  · exact min_le_left _ _
  · exact min_le_left _ _
  · exact min_le_left _ _
  · simp only [lost_setAlert, lost_bumpFrames, satAdd48]; omega

/-- With a full queue a notice handed over joins nothing: kinds, details and associations queued stay (R176, R177). -/
theorem postNotice_sorts_full (n : Notice) (s : State) (hf : 32 ≤ s.status.notices.length) :
    (postNotice n s).status.notices.map Notice.sort = s.status.notices.map Notice.sort := by
  unfold postNotice
  (repeat' split)
  · rfl
  · exact mergeNotice_map_sort _ _
  · omega
  · simp [setAlert]

/-- An EXCEPTION notice that finds the queue full of others is lost (R177). -/
theorem postNotice_lost (n : Notice) (s : State) (hk : n.kind = .exception) (hd : s.device.erased = false)
    (hf : 32 ≤ s.status.notices.length) (hx : ∀ x ∈ s.status.notices, n.sameException x = false) :
    (postNotice n s).status.alert = true ∧ (postNotice n s).lost = satAdd48 s.lost 1 := by
  have hm : s.status.notices.any n.mergesInto = false := by
    rw [List.any_eq_false]
    intro x h
    simp [mergesInto_exception n x hk, hx x h]
  unfold postNotice
  simp [hd, hm, show ¬ s.status.notices.length < 32 by omega, setAlert, State.lost, bumpFrames]

/-! ## A list of notices -/

@[simp] theorem postAll_device (l : List Notice) (s : State) : (postAll l s).device = s.device := by
  induction l generalizing s with
  | nil => rfl
  | cons n l ih => simp [ih]

@[simp] theorem postAll_time (l : List Notice) (s : State) : (postAll l s).time = s.time := by
  induction l generalizing s with
  | nil => rfl
  | cons n l ih => simp [ih]

theorem postAll_length_le (l : List Notice) (s : State) :
    s.status.notices.length ≤ (postAll l s).status.notices.length := by
  induction l generalizing s with
  | nil => rfl
  | cons n l ih => exact (postNotice_length_le n s).trans (ih _)

theorem postAll_alert_keeps (l : List Notice) (s : State) (h : s.status.alert = true) :
    (postAll l s).status.alert = true := by
  induction l generalizing s with
  | nil => exact h
  | cons n l ih => exact ih _ (postNotice_alert_keeps n s h)

theorem postAll_alert_sets (l : List Notice) (s : State) (hd : s.device.erased = false) (n : Notice) (hn : n ∈ l)
    (ha : n.alert = true) : (postAll l s).status.alert = true := by
  induction l generalizing s with
  | nil => simp at hn
  | cons m l ih =>
    rcases List.mem_cons.1 hn with rfl | h
    · exact postAll_alert_keeps l _ (postNotice_alert_sets n s hd ha)
    · exact ih _ (by simpa using hd) h

theorem postAll_lost_le (l : List Notice) (s : State) : min s.lost max48 ≤ (postAll l s).lost := by
  induction l generalizing s with
  | nil => exact min_le_left _ _
  | cons n l ih => exact (le_min (postNotice_lost_le n s) (min_le_right _ _)).trans (ih _)

theorem postAll_lost (l : List Notice) (s : State) (hd : s.device.erased = false) (hf : 32 ≤ s.status.notices.length)
    (n : Notice) (hn : n ∈ l) (hk : n.kind = .exception) (hx : ∀ x ∈ s.status.notices, n.sameException x = false) :
    (postAll l s).status.alert = true ∧ min (s.lost + 1) max48 ≤ (postAll l s).lost := by
  induction l generalizing s with
  | nil => simp at hn
  | cons m l ih =>
    rcases List.mem_cons.1 hn with rfl | h
    · obtain ⟨ha, hl⟩ := postNotice_lost n s hk hd hf hx
      refine ⟨postAll_alert_keeps l _ ha, ?_⟩
      have := postAll_lost_le l (postNotice n s)
      rw [hl] at this
      simp only [satAdd48] at this
      simp only [postAll_cons]
      omega
    · have hs := postNotice_sorts_full m s hf
      have hf' : 32 ≤ (postNotice m s).status.notices.length := hf.trans (postNotice_length_le m s)
      obtain ⟨ha, hl⟩ := ih (postNotice m s) (by simpa using hd) hf' h (fun x hxm => by
        obtain ⟨y, hy, hyx⟩ := List.mem_map.1 (hs ▸ List.mem_map_of_mem hxm)
        rw [← sameException_eq_of_sort hyx]
        exact hx y hy)
      refine ⟨ha, ?_⟩
      have := postNotice_lost_le m s
      simp only [postAll_cons]
      omega

/-- The EXCEPTION notices of a list handed over at a time. -/
def exceptionsIn (l : List Notice) (time : BitVec 32) : List Notice :=
  (l.filter (fun n => n.kind == .exception)).map (fun n => { n with time := time })

/-- The notices of a list that name an association, but for EXCEPTION ones, handed over at a time. -/
def namedIn (l : List Notice) (time : BitVec 32) (a : Nat) : List Notice :=
  (l.filter (fun n => n.assoc == a && n.kind != .exception)).map (fun n => { n with time := time })

theorem postAll_exceptions (l : List Notice) (s : State) (ho : ∀ n ∈ l, n.kind ≠ .commandOverrun)
    (hd : s.device.erased = false) (hl : (postAll l s).status.notices.length < 32) :
    (postAll l s).exceptions = (exceptionsIn l s.time).foldl afterException s.exceptions := by
  induction l generalizing s with
  | nil => rfl
  | cons n l ih =>
    have hroom : s.status.notices.length < 32 := by
      have := (postNotice_length_le n s).trans (postAll_length_le l _)
      exact this.trans_lt hl
    have hrest := ih (postNotice n s) (fun m hm => ho m (List.mem_cons_of_mem _ hm)) (by simpa using hd) hl
    rw [postAll_cons, hrest]
    by_cases hk : n.kind = .exception
    · rw [postNotice_exceptions n s hk hd hroom]
      simp [exceptionsIn, hk]
    · have : (postNotice n s).exceptions = s.exceptions := by
        simp [State.exceptions, postNotice_joins hk (ho n (by simp)) hd, hroom, hk]
      rw [this]
      simp [exceptionsIn, hk]

theorem postAll_noticesOf (l : List Notice) (s : State) (a : Nat) (ho : ∀ n ∈ l, n.kind ≠ .commandOverrun)
    (hd : s.device.erased = false) (hl : (postAll l s).status.notices.length < 32) :
    (postAll l s).noticesOf a = s.noticesOf a ++ namedIn l s.time a := by
  induction l generalizing s with
  | nil => simp [namedIn]
  | cons n l ih =>
    have hroom : s.status.notices.length < 32 :=
      ((postNotice_length_le n s).trans (postAll_length_le l _)).trans_lt hl
    have hrest := ih (postNotice n s) (fun m hm => ho m (List.mem_cons_of_mem _ hm)) (by simpa using hd) hl
    rw [postAll_cons, hrest]
    by_cases hk : n.kind = .exception
    · have : (postNotice n s).noticesOf a = s.noticesOf a := by
        unfold State.noticesOf postNotice
        simp only [hd]
        (repeat' split)
        · simp_all
        · exact mergeNotice_others n hk _ (by simp) _
        · simp [joinNotice, hk]
      rw [this]
      simp [namedIn, hk]
    · have : (postNotice n s).noticesOf a = s.noticesOf a ++ (namedIn [n] s.time a) := by
        unfold State.noticesOf namedIn
        rw [postNotice_joins hk (ho n (by simp)) hd, if_pos hroom]
        by_cases ha : n.assoc = a <;> simp [hk, ha]
      rw [this]
      by_cases ha : n.assoc = a <;> simp [namedIn, hk, ha]

/-- A queued notice that is no EXCEPTION stays queued while others are handed over. -/
theorem postAll_keeps (l : List Notice) (s : State) (x : Notice) (ho : ∀ n ∈ l, n.kind ≠ .commandOverrun)
    (hk : x.kind ≠ .exception) (h : x ∈ s.status.notices) : x ∈ (postAll l s).status.notices := by
  induction l generalizing s with
  | nil => exact h
  | cons n l ih =>
    refine ih (postNotice n s) (fun m hm => ho m (List.mem_cons_of_mem _ hm)) ?_
    unfold postNotice
    (repeat' split)
    · exact h
    · rename_i hm
      by_cases hn : n.kind = .exception
      · have : x ∈ s.status.notices.filter (fun y => y.kind != .exception) := List.mem_filter.2 ⟨h, by simpa using hk⟩
        rw [← mergeNotice_others n hn _ (by simp)] at this
        exact (List.mem_filter.1 this).1
      · simp [mergesInto_false_of_kind hn (ho n (by simp))] at hm
    · simp [joinNotice, h]
    · simpa [setAlert] using h

/-- A notice of the list that is no EXCEPTION stands in the queue, if the queue had room throughout (R176). -/
theorem postAll_mem (l : List Notice) (s : State) (n : Notice) (hn : n ∈ l) (ho : ∀ n ∈ l, n.kind ≠ .commandOverrun)
    (hk : n.kind ≠ .exception) (hd : s.device.erased = false) (hl : (postAll l s).status.notices.length < 32) :
    { n with time := s.time } ∈ (postAll l s).status.notices := by
  have h := postAll_noticesOf l s n.assoc ho hd hl
  have hm : ({ n with time := s.time } : Notice) ∈ (postAll l s).noticesOf n.assoc := by
    rw [h]
    exact List.mem_append_right _ (List.mem_map_of_mem (List.mem_filter.2 ⟨hn, by simp [hk]⟩))
  exact (List.mem_filter.1 hm).1

/-! ## What an event reported -/

/-- The arbiters clear no alert (R180). -/
theorem Settled.alert_keeps {u t : State} (h : Settled u t) (ha : u.status.alert = true) : t.status.alert = true := by
  rcases h.rack with ⟨-, -, hn⟩ | ⟨-, hp | ⟨-, hr | hs | hi⟩⟩
  · rw [hn.2.2, ha]
  · rw [hp.2.2.2.2.2.2, ha]
  · rw [hr.2.2.2.2.2, ha]
  · obtain ⟨-, -, -, hl⟩ := hs
    simp only at hl
    split at hl
    · exact hl.2.2
    · rw [hl.2.2, ha]
  · rw [hi.2.2.2.2.2, ha]

/-- While the rack transmitter is sending, the arbiters take no notice (R106, R179). -/
theorem Settled.notices_of_sending {u t : State} (h : Settled u t) (hs : u.rack.sending.isSome = true) :
    t.status.notices = u.status.notices := by
  have hne : ∀ k f, ¬ RackSends k f u t := by
    intro k f hr
    simp [hr.1] at hs
  rcases h.rack with ⟨-, -, hn⟩ | ⟨-, hp | ⟨-, ⟨⟨r, rest, -, hr⟩, -⟩ | hs' | ⟨⟨f, rest, -, hi⟩, -⟩⟩⟩
  · exact hn.1
  · exact absurd hp.1 (hne _ _)
  · exact absurd hr (hne _ _)
  · exact absurd hs'.1 (hne _ _)
  · exact absurd hi (hne _ _)

theorem reported_of_posts {s u t : State} {l : List Notice} (hp : Posts s u l) (hs : Settled u t)
    (hr : u.rack.sending = s.rack.sending) : Reported s t (exceptionsIn l s.time) := by
  have hx : ∀ n ∈ exceptionsIn l s.time, ∃ m ∈ l, m.kind = .exception ∧ n = { m with time := s.time } := by
    intro n hn
    obtain ⟨m, hm, rfl⟩ := List.mem_map.1 hn
    obtain ⟨hm, hk⟩ := List.mem_filter.1 hm
    exact ⟨m, hm, by simpa using hk, rfl⟩
  refine ⟨fun ⟨hd, hsend, hlen⟩ => ?_, fun hd n hn ha => ?_, fun hd hf n hn hno => ?_⟩
  · have ht := hs.notices_of_sending (hr ▸ hsend)
    have hu : t.exceptions = (postAll l s).exceptions := by simp [State.exceptions, ht, hp.desk.notices]
    rw [hu]
    exact postAll_exceptions l s hp.noOverrun hd (by rw [← hp.desk.notices, ← ht]; exact hlen)
  · obtain ⟨m, hm, -, rfl⟩ := hx n hn
    refine hs.alert_keeps ?_
    rw [hp.desk.alert]
    exact postAll_alert_sets l s hd m hm ha
  · obtain ⟨m, hm, hk, rfl⟩ := hx n hn
    obtain ⟨ha, hl⟩ := postAll_lost l s hd hf m hm hk hno
    refine ⟨hs.alert_keeps (by rw [hp.desk.alert]; exact ha), ?_⟩
    rw [hs.counters]
    exact hl.trans_eq hp.desk.lost.symm

theorem notified_of_posts {s u t : State} {l : List Notice} (hp : Posts s u l) (hs : Settled u t)
    (hr : u.rack.sending = s.rack.sending) (a : Nat) : Notified s t a (namedIn l s.time a) := by
  rintro ⟨hd, hsend, hlen⟩
  have ht := hs.notices_of_sending (hr ▸ hsend)
  have hu : t.noticesOf a = (postAll l s).noticesOf a := by simp [State.noticesOf, ht, hp.desk.notices]
  rw [hu]
  exact postAll_noticesOf l s a hp.noOverrun hd (by rw [← hp.desk.notices, ← ht]; exact hlen)

theorem exceptionsIn_append (l m : List Notice) (time : BitVec 32) :
    exceptionsIn (l ++ m) time = exceptionsIn l time ++ exceptionsIn m time := by simp [exceptionsIn]

theorem namedIn_append (l m : List Notice) (time : BitVec 32) (a : Nat) :
    namedIn (l ++ m) time a = namedIn l time a ++ namedIn m time a := by simp [namedIn]

theorem exceptionsIn_eq_nil {l : List Notice} (h : ∀ n ∈ l, n.kind ≠ .exception) (time : BitVec 32) :
    exceptionsIn l time = [] := by
  have : l.filter (fun n => n.kind == .exception) = [] := by simpa using h
  simp [exceptionsIn, this]

theorem namedIn_eq_nil {l : List Notice} {a : Nat} (h : ∀ n ∈ l, n.assoc ≠ a ∨ n.kind = .exception) (time : BitVec 32) :
    namedIn l time a = [] := by
  have : l.filter (fun n => n.assoc == a && n.kind != .exception) = [] := by
    rw [List.filter_eq_nil_iff]
    intro n hn
    rcases h n hn with h | h <;> simp [h]
  simp [namedIn, this]

theorem notifies_eq (s : State) (c : ExcClass) :
    s.notifies c = decide (c = .double ∨ c = .keyCheck ∨ s.cfg.settings[c.index].notify = true ∨
      s.cfg.settings[c.index].alert = true) := by
  cases c <;> simp [State.notifies, Bool.decide_or]

theorem alerts_eq (s : State) (c : ExcClass) :
    s.alerts c = (decide (c = .keyCheck) || s.cfg.settings[c.index].alert) := by
  cases c <;> simp [State.alerts]

/-- What a report hands over at a time is what its class's settings say (R117, R121). -/
theorem exceptionsIn_handed {s u : State} (c : ExcClass) (a : Fin 64) (value : Nat) (hi : u.image = s.image)
    (he : (u.assoc a).epochOrZero = (s.assoc a).epochOrZero) :
    exceptionsIn (u.handed c a value 1) s.time = s.reportOf c (some a) value := by
  unfold State.handed State.reportOf
  rw [notifies_eq, alerts_eq, cfg_eq_of_image hi, he]
  split
  · rename_i h
    rw [if_pos (of_decide_eq_true h)]
    rfl
  · rename_i h
    rw [if_neg (by simpa using h)]
    rfl

theorem namedIn_handed (u : State) (c : ExcClass) (b : Fin 64) (value count : Nat) (time : BitVec 32) (a : Nat) :
    namedIn (u.handed c b value count) time a = [] := by
  refine namedIn_eq_nil (fun n hn => .inr ?_) time
  unfold State.handed at hn
  split at hn
  · simp only [List.mem_singleton] at hn
    rw [hn]
    rfl
  · simp at hn

end Sys2Proof.Machine
end

section
/-! SUPPORT. Reading a record, a count, the marks posted and the notices handed over, behind the plain operations. -/

namespace Sys2Proof.Machine

/-! ## Records -/

/-- The records after a change of one, as a vector. -/
theorem assocs_eq_set {s t : State} {a : Fin 64} {r : Assoc} (hself : t.assoc a = r)
    (hne : ∀ b, b ≠ a → t.assoc b = s.assoc b) : t.assocs = s.assocs.set a r := by
  apply Vector.ext
  intro i hi
  by_cases h : i = a.val
  · subst h
    simpa [State.assoc] using hself
  · have := hne ⟨i, hi⟩ (fun hf => h (congrArg Fin.val hf))
    simpa [State.assoc, Vector.getElem_set, Ne.symm h] using this

theorem assocs_ext {s t : State} (h : ∀ b, t.assoc b = s.assoc b) : t.assocs = s.assocs :=
  Vector.ext (fun i hi => h ⟨i, hi⟩)

section
variable (s : State) (b : Fin 64)

@[simp] theorem assoc_setSlot (r : SlotRef) (k : KeySlot) : (s.setSlot r k).assoc b = s.assoc b :=
  assoc_eq_of_assocs (by simp) b
@[simp] theorem assoc_setLane (l : Fin 4) (x : Lane) : (s.setLane l x).assoc b = s.assoc b :=
  assoc_eq_of_assocs (by simp) b
@[simp] theorem assoc_wipeSlot (r : SlotRef) : (wipeSlot r s).assoc b = s.assoc b :=
  assoc_eq_of_assocs (by simp) b
@[simp] theorem assoc_bump (a : Fin 64) (c : AssocCount) (n : Nat) : (bump a c n s).assoc b = s.assoc b :=
  assoc_eq_of_assocs (by simp) b
@[simp] theorem assoc_bumpDrop (a : Fin 64) (c : ExcClass) (n : Nat) : (bumpDrop a c n s).assoc b = s.assoc b :=
  assoc_eq_of_assocs (by simp) b
@[simp] theorem assoc_bumpBus (c : BusCount) : (bumpBus c s).assoc b = s.assoc b :=
  assoc_eq_of_assocs (by simp) b
@[simp] theorem assoc_postNotice (n : Notice) : (postNotice n s).assoc b = s.assoc b :=
  assoc_eq_of_assocs (by simp) b
@[simp] theorem assoc_report (c : ExcClass) (a : Option (Fin 64)) (v k : Nat) :
    (report c a v k s).assoc b = s.assoc b :=
  assoc_eq_of_assocs (by simp) b
@[simp] theorem assoc_postKeyWanted (a : Fin 64) (e : Nat) : (postKeyWanted a e s).assoc b = s.assoc b :=
  assoc_eq_of_assocs (by simp) b
@[simp] theorem assoc_postMark (a : Fin 64) (c : ExcClass) : (postMark a c s).assoc b = s.assoc b :=
  assoc_eq_of_assocs (by simp) b
@[simp] theorem assoc_postAllMarks (a : Fin 64) : (postAllMarks a s).assoc b = s.assoc b :=
  assoc_eq_of_assocs (by simp) b
@[simp] theorem assoc_postEpochEnd (a : Fin 64) : (postEpochEnd a s).assoc b = s.assoc b :=
  assoc_eq_of_assocs (by simp) b
@[simp] theorem assoc_requestTx (k : MsgKind) (a : Fin 64) : (requestTx k a s).assoc b = s.assoc b :=
  assoc_eq_of_assocs (by simp) b
@[simp] theorem assoc_removeTx (k : MsgKind) (a : Fin 64) : (removeTx k a s).assoc b = s.assoc b :=
  assoc_eq_of_assocs (by simp) b
@[simp] theorem assoc_retireCurrent (a : Fin 64) : (retireCurrent a s).assoc b = s.assoc b :=
  assoc_eq_of_assocs (by simp) b
@[simp] theorem assoc_discardKeys (a : Fin 64) (p : KeySlot → Bool) : (discardKeys a p s).assoc b = s.assoc b :=
  assoc_eq_of_assocs (by simp) b
@[simp] theorem assoc_errorDown : (errorDown s).assoc b = s.assoc b := assoc_eq_of_assocs (by simp) b
@[simp] theorem assoc_finishEvent (before : State) : (finishEvent before s).assoc b = s.assoc b :=
  assoc_eq_of_assocs (by simp) b

end

section
variable (s : State) (a : Fin 64) {b : Fin 64}

/-! What each operation on a record makes of it, and that it leaves every other as it was. -/

@[simp] theorem discardReservation_assoc_self (c : AssocCount) :
    (discardReservation a c s).assoc a = { s.assoc a with active := none, queued := none } := by
  simp [discardReservation]

@[simp] theorem discardReservation_assoc_ne (c : AssocCount) (h : b ≠ a) :
    (discardReservation a c s).assoc b = s.assoc b := by
  simp [discardReservation, h]

@[simp] theorem activate_assoc_self (p q : Nat) :
    (activate a p q s).assoc a = { s.assoc a with active := some { start := p, stop := q, next := p }, acc := 0 } := by
  simp [activate]

@[simp] theorem activate_assoc_ne (p q : Nat) (h : b ≠ a) : (activate a p q s).assoc b = s.assoc b := by
  simp [activate, h]

/-- A queued range as the active one (R5). -/
def QueuedRange.promoted (y : QueuedRange) : ActiveRange := { start := y.start, stop := y.stop, next := y.start }

/-- A record whose active range has left (R6). -/
def Assoc.promoted (r : Assoc) : Assoc :=
  { r with active := r.queued.map QueuedRange.promoted, queued := none, acc := if r.queued.isSome then 0 else r.acc }

@[simp] theorem promote_assoc_self : (promote a s).assoc a = (s.assoc a).promoted := by
  unfold promote Assoc.promoted
  split
  · rename_i y hy
    simp [hy, QueuedRange.promoted]
  · rename_i hy
    simp [hy]

@[simp] theorem promote_assoc_ne (h : b ≠ a) : (promote a s).assoc b = s.assoc b := by
  unfold promote
  split <;> simp [h]

theorem cancelClaim_assocs :
    (cancelClaim a s).assocs = (s.modAssoc a (fun r => { r with pendingClaim := false })).assocs := by
  simp [cancelClaim]

@[simp] theorem cancelClaim_assoc_self : (cancelClaim a s).assoc a = { s.assoc a with pendingClaim := false } := by
  exact (assoc_eq_of_assocs (cancelClaim_assocs s a) a).trans (modAssoc_assoc_self s a _)

@[simp] theorem cancelClaim_assoc_ne (h : b ≠ a) : (cancelClaim a s).assoc b = s.assoc b := by
  exact (assoc_eq_of_assocs (cancelClaim_assocs s a) b).trans (modAssoc_assoc_ne s _ h)

@[simp] theorem cancelAdvance_assoc_self : (cancelAdvance a s).assoc a = { s.assoc a with pendingAdvance := none } := by
  simp [cancelAdvance]

@[simp] theorem cancelAdvance_assoc_ne (h : b ≠ a) : (cancelAdvance a s).assoc b = s.assoc b := by
  simp [cancelAdvance, h]

@[simp] theorem retireRecord_assoc_self : (retireRecord a s).assoc a = (s.assoc a).whenRetired := by
  simp [retireRecord, Assoc.whenRetired]

@[simp] theorem retireRecord_assoc_ne (h : b ≠ a) : (retireRecord a s).assoc b = s.assoc b := by
  simp [retireRecord, h]

@[simp] theorem retire_assoc_self (epochEnd : Bool) : (retire a epochEnd s).assoc a = (s.assoc a).whenRetired := by
  cases epochEnd <;> simp [retire]

@[simp] theorem retire_assoc_ne (epochEnd : Bool) (h : b ≠ a) : (retire a epochEnd s).assoc b = s.assoc b := by
  cases epochEnd <;> simp [retire, h]

/-- The advance that a request for a reason makes pending (R61). -/
def Assoc.nextAdvance (r : Assoc) (reason : AdvanceReason) (standby : Bool) : PendingAdvance :=
  { target := r.epochOrZero + 1, reason := reason, condition := if standby then .queued else .held }

/-- A record after an advance request (R61). -/
def Assoc.advanceAsked (r : Assoc) (reason : AdvanceReason) (standby : Bool) : Assoc :=
  if r.state.inEpoch = false then r
  else if r.epochOrZero = 65535 then r.whenRetired
  else if r.pendingAdvance.isSome then r
  else { r with pendingAdvance := some (r.nextAdvance reason standby) }

@[simp] theorem requestAdvance_assoc_self (reason : AdvanceReason) :
    (requestAdvance a reason s).assoc a = (s.assoc a).advanceAsked reason (s.hasStandby a) := by
  fun_cases requestAdvance a reason s <;> simp_all +zetaDelta [Assoc.advanceAsked, Assoc.nextAdvance]

@[simp] theorem requestAdvance_assoc_ne (reason : AdvanceReason) (h : b ≠ a) :
    (requestAdvance a reason s).assoc b = s.assoc b := by
  fun_cases requestAdvance a reason s <;> simp [h]

/-- A record after a claim request; `exhausted` when h ≥ λ (R14). -/
def Assoc.claimAsked (r : Assoc) (standby exhausted : Bool) : Assoc :=
  if r.pendingClaim = true ∨ r.state ≠ .live ∨ r.advanceQueued = true then r
  else if exhausted then r.advanceAsked .exhausted standby
  else { r with pendingClaim := true }

@[simp] theorem requestClaim_assoc_self :
    (requestClaim a s).assoc a = (s.assoc a).claimAsked (s.hasStandby a) (s.exhausted a) := by
  fun_cases requestClaim a s <;> simp_all [Assoc.claimAsked]

@[simp] theorem requestClaim_assoc_ne (h : b ≠ a) : (requestClaim a s).assoc b = s.assoc b := by
  fun_cases requestClaim a s <;> simp [h]

@[simp] theorem raiseFront_assoc_self (v : Nat) :
    (raiseFront a v s).assoc a = { s.assoc a with hwm := some (max (s.assoc a).front v) } := by
  simp [raiseFront]

@[simp] theorem raiseFront_assoc_ne (v : Nat) (h : b ≠ a) : (raiseFront a v s).assoc b = s.assoc b := by
  simp [raiseFront, h]

@[simp] theorem accumulate_assoc_self (n : Nat) :
    (accumulate a n s).assoc a = { s.assoc a with acc := satAdd48 (s.assoc a).acc n } := by
  simp [accumulate]

@[simp] theorem accumulate_assoc_ne (n : Nat) (h : b ≠ a) : (accumulate a n s).assoc b = s.assoc b := by
  simp [accumulate, h]

@[simp] theorem recordSettleView_assoc_ne (e v : Nat) (h : b ≠ a) : (recordSettleView a e v s).assoc b = s.assoc b := by
  simp [recordSettleView, h]

@[simp] theorem loseCurrentKey_assoc_self :
    (loseCurrentKey a s).assoc a =
      { s.assoc a with state := .keyWait, active := none, queued := none, pendingClaim := false } := by
  simp [loseCurrentKey]

@[simp] theorem loseCurrentKey_assoc_ne (h : b ≠ a) : (loseCurrentKey a s).assoc b = s.assoc b := by
  simp [loseCurrentKey, h]

@[simp] theorem countLate_assoc (e : Nat) : (countLate a e s).assoc b = s.assoc b :=
  assoc_eq_of_assocs (by simp) b

@[simp] theorem queueHeldAdvance_assoc_ne (h : b ≠ a) : (queueHeldAdvance a s).assoc b = s.assoc b := by
  unfold queueHeldAdvance
  (repeat' split) <;> simp [h]

/-- A record in a new epoch, before its state is known (R65). -/
def Assoc.inNewEpoch (r : Assoc) (epoch : Nat) (level : Fin 4) : Assoc :=
  { r with epoch := some epoch, hwm := some 0, assigned := 0, acc := 0, level := level, rekeyRequested := false,
           active := none, queued := none, pendingClaim := false, pendingAdvance := none }

@[simp] theorem resetRecordForEpoch_assoc_self (epoch : Nat) :
    (resetRecordForEpoch a epoch s).assoc a = (s.assoc a).inNewEpoch epoch (s.assocDef a).startLevel := by
  simp [resetRecordForEpoch, Assoc.inNewEpoch]

@[simp] theorem resetRecordForEpoch_assoc_ne (epoch : Nat) (h : b ≠ a) :
    (resetRecordForEpoch a epoch s).assoc b = s.assoc b := by
  simp [resetRecordForEpoch, h]

/-- An association holds a STANDBY of an epoch (R66). -/
def State.standbyOf (s : State) (a : Fin 64) (epoch : Nat) : Bool :=
  (findSlot (s.slots a) (fun k => k.role == .standby && k.epoch == epoch)).isSome

@[simp] theorem takeUpStandby_assoc_self (epoch : Nat) :
    (takeUpStandby a epoch s).assoc a =
      { s.assoc a with state := if s.standbyOf a epoch then .live else .keyWait } := by
  unfold takeUpStandby State.standbyOf
  split
  · rename_i j hj
    simp [hj]
  · rename_i hj
    simp [hj]

@[simp] theorem takeUpStandby_assoc_ne (epoch : Nat) (h : b ≠ a) : (takeUpStandby a epoch s).assoc b = s.assoc b := by
  unfold takeUpStandby
  split <;> simp [h]

@[simp] theorem applyAdvance_assoc_ne (epoch : Nat) (reason : AdvanceReason) (i : Nat) (h : b ≠ a) :
    (applyAdvance a epoch reason i s).assoc b = s.assoc b := by
  unfold applyAdvance
  simp only
  split <;> simp [h]

@[simp] theorem advanceReaches_assoc_ne (epoch : Nat) (reason : AdvanceReason) (i : Nat) (h : b ≠ a) :
    (advanceReaches a epoch reason i s).assoc b = s.assoc b := by
  unfold advanceReaches
  split <;> simp [h]

end

/-! ## Counts of an association (R181) -/

/-- A count of an association. -/
def State.count (s : State) (a : Fin 64) (c : AssocCount) : Nat := (s.counters.assoc[a])[c.index]

theorem AssocCount.index_inj : ∀ {c k : AssocCount}, c.index = k.index → c = k := by
  intro c k
  cases c <;> cases k <;> decide

theorem count_eq_of_counters {s t : State} (h : t.counters.assoc = s.counters.assoc) (a : Fin 64) (c : AssocCount) :
    t.count a c = s.count a c := by
  simp [State.count, h]

@[simp] theorem count_bump_self (s : State) (a : Fin 64) (c : AssocCount) (n : Nat) :
    (bump a c n s).count a c = satAdd48 (s.count a c) n := by
  simp [State.count, bump]

@[simp] theorem count_bump_ne (s : State) (a b : Fin 64) (n : Nat) {c k : AssocCount} (h : k ≠ c) :
    (bump a c n s).count b k = s.count b k := by
  have hi : c.index.val ≠ k.index.val := fun hf => h (AssocCount.index_inj (Fin.ext hf.symm))
  by_cases hb : b = a
  · subst hb
    simp [State.count, bump, hi]
  · have : a.val ≠ b.val := fun hf => hb (Fin.ext hf.symm)
    simp [State.count, bump, this]

theorem satAdd48_satAdd48 (n k m : Nat) : satAdd48 (satAdd48 n k) m = satAdd48 n (k + m) := by
  simp only [satAdd48]; omega

@[simp] theorem postNotice_counts (n : Notice) (s : State) : (postNotice n s).counters.assoc = s.counters.assoc := by
  unfold postNotice
  (repeat' split) <;> simp [joinNotice, setAlert, bumpFrames]

@[simp] theorem report_counts (c : ExcClass) (a : Option (Fin 64)) (v k : Nat) (s : State) :
    (report c a v k s).counters.assoc = s.counters.assoc := by
  unfold report
  split <;> simp

section
variable (s : State) (b : Fin 64) (k : AssocCount)

@[simp] theorem count_postNotice (n : Notice) : (postNotice n s).count b k = s.count b k :=
  count_eq_of_counters (by simp) b k
@[simp] theorem count_report (c : ExcClass) (a : Option (Fin 64)) (v m : Nat) :
    (report c a v m s).count b k = s.count b k :=
  count_eq_of_counters (by simp) b k
@[simp] theorem count_postKeyWanted (a : Fin 64) (e : Nat) : (postKeyWanted a e s).count b k = s.count b k :=
  count_eq_of_counters (by simp [postKeyWanted]) b k
@[simp] theorem count_postEpochEnd (a : Fin 64) : (postEpochEnd a s).count b k = s.count b k :=
  count_eq_of_counters (by simp [postEpochEnd]) b k
@[simp] theorem count_modAssoc (a : Fin 64) (f : Assoc → Assoc) : (s.modAssoc a f).count b k = s.count b k :=
  count_eq_of_counters (by simp) b k
@[simp] theorem count_setSlot (r : SlotRef) (x : KeySlot) : (s.setSlot r x).count b k = s.count b k :=
  count_eq_of_counters (by simp) b k
@[simp] theorem count_wipeSlot (r : SlotRef) : (wipeSlot r s).count b k = s.count b k :=
  count_eq_of_counters (by simp) b k
@[simp] theorem count_loseUse (r : SlotRef) : (loseUse r s).count b k = s.count b k :=
  count_eq_of_counters (by simp) b k
@[simp] theorem count_postMark (a : Fin 64) (c : ExcClass) : (postMark a c s).count b k = s.count b k :=
  count_eq_of_counters (by simp) b k
@[simp] theorem count_postAllMarks (a : Fin 64) : (postAllMarks a s).count b k = s.count b k :=
  count_eq_of_counters (by simp) b k
@[simp] theorem count_requestTx (m : MsgKind) (a : Fin 64) : (requestTx m a s).count b k = s.count b k :=
  count_eq_of_counters (by simp) b k
@[simp] theorem count_removeTx (m : MsgKind) (a : Fin 64) : (removeTx m a s).count b k = s.count b k :=
  count_eq_of_counters (by simp) b k
@[simp] theorem count_cancelClaim (a : Fin 64) : (cancelClaim a s).count b k = s.count b k :=
  count_eq_of_counters (by simp) b k
@[simp] theorem count_cancelAdvance (a : Fin 64) : (cancelAdvance a s).count b k = s.count b k :=
  count_eq_of_counters (by simp) b k
@[simp] theorem count_releaseFrame (h : Nat) : (releaseFrame h s).count b k = s.count b k :=
  count_eq_of_counters (by simp) b k
@[simp] theorem count_raiseFront (a : Fin 64) (v : Nat) : (raiseFront a v s).count b k = s.count b k :=
  count_eq_of_counters (by simp) b k
@[simp] theorem count_accumulate (a : Fin 64) (v : Nat) : (accumulate a v s).count b k = s.count b k :=
  count_eq_of_counters (by simp) b k
@[simp] theorem count_activate (a : Fin 64) (p q : Nat) : (activate a p q s).count b k = s.count b k :=
  count_eq_of_counters (by simp) b k
@[simp] theorem count_promote (a : Fin 64) : (promote a s).count b k = s.count b k :=
  count_eq_of_counters (by simp) b k

/-- A queue that loses a frame in flight changes no count of an association. -/
@[simp] theorem loseInFlight_counts (q : Fin 8) : (loseInFlight q s).counters.assoc = s.counters.assoc := by
  unfold loseInFlight becomeQuiesced
  simp only
  split <;> simp

@[simp] theorem removeLaneFrame_counts (l : Fin 4) : (removeLaneFrame l s).counters.assoc = s.counters.assoc := by
  unfold removeLaneFrame
  (repeat' split) <;> simp

@[simp] theorem count_removeLaneFrame (l : Fin 4) : (removeLaneFrame l s).count b k = s.count b k :=
  count_eq_of_counters (by simp) b k

@[simp] theorem count_discardKeys (a : Fin 64) (p : KeySlot → Bool) : (discardKeys a p s).count b k = s.count b k := by
  unfold discardKeys
  induction List.finRange 4 generalizing s with
  | nil => rfl
  | cons j l ih =>
    rw [List.foldl_cons, ih]
    split
    · exact count_eq_of_counters (by simp [discardKey, postKeyDiscarded]) b k
    · rfl

/-- Retiring the CURRENT key counts frames retired in flight alone (R67). -/
theorem count_retireCurrent (a : Fin 64) (h : k ≠ .retiredInFlight) : (retireCurrent a s).count b k = s.count b k := by
  have hfold : ∀ (r : SlotRef) (l : List (Fin 4)) (s : State), (l.foldl (abandonLane r) s).count b k = s.count b k := by
    intro r l
    induction l with
    | nil => intro s; rfl
    | cons m l ih => intro s; rw [List.foldl_cons, ih]; simp [abandonLane, h]
  have hfree : (freeOldestRetiring a s).count b k = s.count b k := by
    unfold freeOldestRetiring
    split <;> simp [hfold]
  fun_cases retireCurrent a s
  case case2 s1 =>
    have : s1.count b k = s.count b k := by
      unfold s1
      split
      · exact hfree
      · rfl
    simpa using this
  all_goals simp

/-- A retirement counts the reservation discarded, and frames retired in flight (R25, R67, R70). -/
theorem count_retire (a : Fin 64) (e : Bool) (h : k ≠ .retiredInFlight) (h' : k ≠ .discardRetire) :
    (retire a e s).count b k = s.count b k := by
  cases e <;> simp [retire, retireRecord, discardReservation, count_retireCurrent, h, h']

theorem count_retire_discardRetire (a : Fin 64) (e : Bool) :
    (retire a e s).count a .discardRetire = satAdd48 (s.count a .discardRetire) (s.assoc a).reservationCount := by
  cases e <;> simp [retire, retireRecord, discardReservation, count_retireCurrent]

theorem count_requestAdvance (a : Fin 64) (r : AdvanceReason) (h : k ≠ .retiredInFlight) (h' : k ≠ .discardRetire) :
    (requestAdvance a r s).count b k = s.count b k := by
  fun_cases requestAdvance a r s <;> simp [count_retire, h, h']

theorem count_requestClaim (a : Fin 64) (h : k ≠ .retiredInFlight) (h' : k ≠ .discardRetire) :
    (requestClaim a s).count b k = s.count b k := by
  fun_cases requestClaim a s <;> simp [count_requestAdvance, h, h']

end

/-! ## Marks posted (R125) -/

@[simp] theorem postMark_marks (a : Fin 64) (c : ExcClass) (s : State) :
    (postMark a c s).disp.marks = s.disp.marks ++ [{ assoc := a, cls := c }] := rfl

/-- The marks of the fault classes, which a retirement posts (R70). -/
def faultMarks (a : Fin 64) : List ReleaseMark :=
  [{ assoc := a, cls := .settling }, { assoc := a, cls := .noKey }, { assoc := a, cls := .blind },
   { assoc := a, cls := .exhausted }, { assoc := a, cls := .starved }]

/-- The mark of a range that becomes active (R6), when one does. -/
def starvedMark (a : Fin 64) (b : Bool) : List ReleaseMark := if b then [{ assoc := a, cls := .starved }] else []

@[simp] theorem postAllMarks_marks (a : Fin 64) (s : State) :
    (postAllMarks a s).disp.marks = s.disp.marks ++ faultMarks a := by
  simp [postAllMarks, faultMarks]

@[simp] theorem activate_marks (a : Fin 64) (p q : Nat) (s : State) :
    (activate a p q s).disp.marks = s.disp.marks ++ starvedMark a true := by
  simp [activate, starvedMark]

@[simp] theorem promote_marks (a : Fin 64) (s : State) :
    (promote a s).disp.marks = s.disp.marks ++ starvedMark a (s.assoc a).queued.isSome := by
  unfold promote
  split
  · rename_i y hy
    simp [hy]
  · rename_i hy
    simp [hy, starvedMark]

@[simp] theorem retire_marks (a : Fin 64) (e : Bool) (s : State) :
    (retire a e s).disp.marks = s.disp.marks ++ faultMarks a := by
  cases e <;> simp [retire]

/-- An advance request retires the association (R61). -/
def Assoc.endsAtAdvance (r : Assoc) : Bool := r.state.inEpoch && decide (r.epochOrZero = 65535)

@[simp] theorem requestAdvance_marks (a : Fin 64) (x : AdvanceReason) (s : State) :
    (requestAdvance a x s).disp.marks = s.disp.marks ++ (if (s.assoc a).endsAtAdvance then faultMarks a else []) := by
  fun_cases requestAdvance a x s <;> simp_all [Assoc.endsAtAdvance]

theorem mem_starvedMark {a : Fin 64} {b : Bool} {x : Fin 64} {c : ExcClass} :
    (∃ m ∈ starvedMark a b, x = m.assoc ∧ c = m.cls) ↔ x = a ∧ c = .starved ∧ b = true := by
  cases b <;> simp [starvedMark]

theorem mem_faultMarks {a x : Fin 64} {c : ExcClass} :
    (∃ m ∈ faultMarks a, x = m.assoc ∧ c = m.cls) ↔ x = a ∧ c.isFault = true := by
  cases c <;> simp [faultMarks, ExcClass.isFault]

/-! ## Notices handed over -/

/-- A notice of a queue that became QUIESCED, handed over as frames leave lanes (R148). -/
def Notice.ofQuiesce (n : Notice) : Prop := n.kind = .queueQuiesced ∧ n.assoc = 255 ∧ n.alert = false

theorem posts_of_status {s t : State} (hd : t.device = s.device := by simp) (ht : t.time = s.time := by simp)
    (hs : t.status = s.status := by simp) (hc : t.counters.frames = s.counters.frames := by simp) : Posts s t [] :=
  posts_nil hd ht hs (by simp [State.lost, hc])

@[simp] theorem bump_frames (a : Fin 64) (c : AssocCount) (n : Nat) (s : State) :
    (bump a c n s).counters.frames = s.counters.frames := rfl

@[simp] theorem discardReservation_frames (a : Fin 64) (c : AssocCount) (s : State) :
    (discardReservation a c s).counters.frames = s.counters.frames := by simp [discardReservation]

/-- Removing a lane's frame hands over at most the notice of its queue's end (R137, R148). -/
theorem posts_loseInFlight (q : Fin 8) (s : State) :
    ∃ l, Posts s (loseInFlight q s) l ∧ ∀ n ∈ l, n.ofQuiesce := by
  unfold loseInFlight
  simp only
  split
  · refine ⟨[newNotice .queueQuiesced .none 255 0 q.val 1 false], ?_, by simp [Notice.ofQuiesce, newNotice]⟩
    unfold becomeQuiesced
    exact (posts_of_status (s := s)).trans (posts_postNotice _ _ (by simp [newNotice]))
  · exact ⟨[], posts_of_status, by simp⟩

theorem posts_removeLaneFrame (l : Fin 4) (s : State) :
    ∃ p, Posts s (removeLaneFrame l s) p ∧ ∀ n ∈ p, n.ofQuiesce := by
  unfold removeLaneFrame
  split
  · rename_i h hf
    simp only
    split
    · rename_i d hd
      obtain ⟨p, hp, hq⟩ := posts_loseInFlight d.queue (removeCompletion h (s.setLane l .idle))
      refine ⟨p, ?_, hq⟩
      have := ((posts_of_status (s := s) (t := removeCompletion h (s.setLane l .idle))).trans hp).trans
        (posts_of_status (s := loseInFlight d.queue (removeCompletion h (s.setLane l .idle)))
          (t := releaseFrame h (loseInFlight d.queue (removeCompletion h (s.setLane l .idle)))))
      simpa using this
    · exact ⟨[], posts_of_status, by simp⟩
  · exact ⟨[], posts_of_status, by simp⟩

theorem posts_retireCurrent (a : Fin 64) (s : State) :
    ∃ p, Posts s (retireCurrent a s) p ∧ ∀ n ∈ p, n.ofQuiesce := by
  have hlane : ∀ (r : SlotRef) (m : Fin 4) (s : State),
      ∃ p, Posts s (abandonLane r s m) p ∧ ∀ n ∈ p, n.ofQuiesce := by
    intro r m s
    obtain ⟨p, hp, hq⟩ := posts_removeLaneFrame m (loseUse r (bump r.assoc .retiredInFlight 1 s))
    exact ⟨p, (posts_of_status (s := s)).trans hp, hq⟩
  have hfold : ∀ (r : SlotRef) (l : List (Fin 4)) (s : State),
      ∃ p, Posts s (l.foldl (abandonLane r) s) p ∧ ∀ n ∈ p, n.ofQuiesce := by
    intro r l
    induction l with
    | nil => intro s; exact ⟨[], posts_of_status, by simp⟩
    | cons m l ih =>
      intro s
      obtain ⟨p, hp, hq⟩ := hlane r m s
      obtain ⟨p', hp', hq'⟩ := ih (abandonLane r s m)
      exact ⟨p ++ p', hp.trans hp', fun n hn => (List.mem_append.1 hn).elim (hq n) (hq' n)⟩
  have hfree : ∃ p, Posts s (freeOldestRetiring a s) p ∧ ∀ n ∈ p, n.ofQuiesce := by
    unfold freeOldestRetiring
    split
    · rename_i j hj
      obtain ⟨p, hp, hq⟩ := hfold { assoc := a, index := j } (s.lanesOfSlot { assoc := a, index := j }) s
      exact ⟨p, by simpa using hp.trans (posts_of_status (t := wipeSlot { assoc := a, index := j } _)), hq⟩
    · exact ⟨[], posts_of_status, by simp⟩
  unfold retireCurrent
  split
  · simp only
    split
    · exact ⟨[], posts_of_status, by simp⟩
    split
    · obtain ⟨p, hp, hq⟩ := hfree
      exact ⟨p, by simpa using hp.trans (posts_of_status (t := (freeOldestRetiring a s).setSlot _ _)), hq⟩
    · exact ⟨[], posts_of_status, by simp⟩
  · exact ⟨[], posts_of_status, by simp⟩

end Sys2Proof.Machine
end

section
/-! SUPPORT. The order of counters, record by record: what each operation on a record keeps of its form and its order, and
what it does to the claims under way. -/

namespace Sys2Proof.Machine

/-! ## Records in form and in order -/

/-- A record in the form of its state with its counters in order (R2, R4, R5). -/
def Assoc.sound (r : Assoc) : Prop := r.inForm ∧ r.ordered

/-- Without a reservation the order is that of u, h and the settle view. -/
theorem ordered_of_empty {r : Assoc} (ha : r.active = none) (hq : r.queued = none) (hu : r.assigned ≤ r.front)
    (hf : r.front ≤ max48) (hv : ∀ v, r.settleView = some v → v.hwm ≤ max48) : r.ordered :=
  ⟨hu, hf, by simp [ha], by simp [hq], hv⟩

theorem sound_whenRetired (r : Assoc) : r.whenRetired.sound :=
  ⟨by simp [Assoc.whenRetired, Assoc.inForm], by simp [Assoc.whenRetired, Assoc.ordered, Assoc.front]⟩

/-- A pending claim is that of a LIVE association (R2, R14). -/
theorem live_of_pendingClaim {r : Assoc} (h : r.inForm) (hp : r.pendingClaim = true) : r.state = .live := by
  unfold Assoc.inForm at h
  split at h <;> simp_all

theorem inForm_live {r : Assoc} (h : r.state = .live) :
    r.inForm ↔ r.epoch.isSome ∧ r.hwm.isSome ∧ (r.queued.isSome → r.active.isSome) := by
  simp [Assoc.inForm, h]

theorem inForm_keyWait {r : Assoc} (h : r.state = .keyWait) :
    r.inForm ↔ r.epoch.isSome ∧ r.hwm.isSome ∧ r.active = none ∧ r.queued = none ∧ r.pendingClaim = false := by
  simp [Assoc.inForm, h]

theorem inForm_blind {r : Assoc} (h : r.state = .blind) :
    r.inForm ↔ r.epoch.isSome ∧ r.hwm = none ∧ r.assigned = 0 ∧ r.active = none ∧ r.queued = none ∧
      r.pendingClaim = false := by
  simp [Assoc.inForm, h]

/-- SETTLING and DORMANT records know no epoch and hold nothing. -/
theorem inForm_listening {r : Assoc} (h : r.state.listening = true) (hf : r.inForm) :
    r.epoch = none ∧ r.hwm = none ∧ r.assigned = 0 ∧ r.active = none ∧ r.queued = none ∧ r.pendingClaim = false ∧
      r.pendingAdvance = none := by
  unfold Assoc.inForm at hf
  split at hf <;> simp_all [AssocState.listening]

/-- The fields that form and order of a record in an epoch speak of are the same: a change of the others keeps both. -/
theorem sound_of_pendingAdvance {r : Assoc} (h : r.sound) (hs : r.state.inEpoch = true) (p : Option PendingAdvance) :
    ({ r with pendingAdvance := p } : Assoc).sound := by
  obtain ⟨hf, ho⟩ := h
  refine ⟨?_, ho⟩
  cases hst : r.state <;> simp_all [Assoc.inForm, AssocState.inEpoch]

theorem sound_advanceAsked {r : Assoc} (h : r.sound) (reason : AdvanceReason) (standby : Bool) :
    (r.advanceAsked reason standby).sound := by
  unfold Assoc.advanceAsked
  split
  · exact h
  split
  · exact sound_whenRetired r
  split
  · exact h
  · rename_i hs _ _
    exact sound_of_pendingAdvance h (by simpa using hs) _

/-- An empty reservation keeps form and order. -/
theorem sound_discarded {r : Assoc} (h : r.sound) : ({ r with active := none, queued := none } : Assoc).sound := by
  obtain ⟨hf, hu, hm, -, -, hv⟩ := h
  refine ⟨?_, ordered_of_empty rfl rfl hu hm hv⟩
  cases hst : r.state <;> simp_all [Assoc.inForm]

/-- A LIVE record whose active range has left, with u below the queued range (R5, R6). -/
theorem sound_promoted {r : Assoc} (hs : r.state = .live) (he : r.epoch.isSome) (hw : r.hwm.isSome)
    (hu : r.assigned ≤ r.front) (hm : r.front ≤ max48)
    (hq : ∀ y, r.queued = some y → r.assigned < y.start ∧ y.start ≤ y.stop ∧ y.stop ≤ r.front)
    (hv : ∀ v, r.settleView = some v → v.hwm ≤ max48) : r.promoted.sound := by
  refine ⟨(inForm_live (by simpa [Assoc.promoted] using hs)).2 ⟨he, hw, by simp [Assoc.promoted]⟩, hu, hm, ?_,
    by simp [Assoc.promoted], hv⟩
  intro x hx
  obtain ⟨y, hy, rfl⟩ := Option.map_eq_some_iff.1 hx
  exact hq y hy

/-- In a LIVE record in order the queued range lies above u. -/
theorem queued_above {r : Assoc} (h : r.ordered) {y : QueuedRange} (hy : r.queued = some y) :
    r.assigned < y.start ∧ y.start ≤ y.stop ∧ y.stop ≤ r.front := by
  obtain ⟨-, -, hx, hq, -⟩ := h
  obtain ⟨h1, h2, x, hxa, hlt⟩ := hq y hy
  obtain ⟨h3, h4, -⟩ := hx x hxa
  exact ⟨by omega, h1, h2⟩

/-- A LIVE record after a stale active range was discarded (R9). -/
def Assoc.staleGone (r : Assoc) : Assoc := { r with level := levelDown r.level }.promoted

theorem sound_staleGone {r : Assoc} (h : r.sound) (hs : r.state = .live) : r.staleGone.sound := by
  obtain ⟨hf, ho⟩ := h
  obtain ⟨he, hw, -⟩ := (inForm_live hs).1 hf
  exact sound_promoted (r := { r with level := levelDown r.level }) hs he hw ho.1 ho.2.1 (fun y hy => queued_above ho hy)
    ho.2.2.2.2

/-- A record after the next counter of its active range was taken: the range advances, or is used up, with the ladder test and
the promotion that follow (R11, R12). -/
def Assoc.taken (r : Assoc) (ladder : Vector Nat 4) : Assoc :=
  match r.active with
  | none => r
  | some x =>
    if x.stop < x.next + 1 then
      { r with assigned := x.next,
               level := if 2 * r.acc < ladder[r.level] then levelUp r.level else r.level }.promoted
    else { r with assigned := x.next, active := some { x with next := x.next + 1 } }

theorem sound_taken {r : Assoc} (h : r.sound) (hs : r.state = .live) (ladder : Vector Nat 4) : (r.taken ladder).sound := by
  obtain ⟨hf, hu, hm, hx, hq, hv⟩ := h
  obtain ⟨he, hw, hqa⟩ := (inForm_live hs).1 hf
  unfold Assoc.taken
  split
  · exact ⟨hf, hu, hm, hx, hq, hv⟩
  · rename_i x hxa
    obtain ⟨h1, h2, h3⟩ := hx x hxa
    have hqx : ∀ y, r.queued = some y → x.stop < y.start ∧ y.start ≤ y.stop ∧ y.stop ≤ r.front := by
      intro y hy
      obtain ⟨h4, h5, x', hx', h6⟩ := hq y hy
      rw [hxa] at hx'
      cases hx'
      exact ⟨h6, h4, h5⟩
    split
    · refine sound_promoted hs he hw ?_ hm (fun y hy => ?_) hv
      · exact h2.trans h3
      · obtain ⟨h4, h5, h6⟩ := hqx y hy
        exact ⟨by simp only; omega, h5, h6⟩
    · rename_i hlt
      refine ⟨(inForm_live (by exact hs)).2 ⟨he, hw, by simp⟩, h2.trans h3, hm, ?_, ?_, hv⟩
      · intro x' hx'
        simp only [Option.some.injEq] at hx'
        subst hx'
        exact ⟨by simp, by simp only; omega, h3⟩
      · intro y hy
        obtain ⟨h4, h5, h6⟩ := hqx y hy
        exact ⟨h5, h6, _, rfl, h4⟩

/-- h raised by a message, at most to 2^48 − 1, keeps form and order of a record whose h is known (R4). -/
theorem sound_raised {r : Assoc} (h : r.sound) (hs : r.state.frontKnown = true) {v : Nat} (hv : v ≤ max48) :
    ({ r with hwm := some (max r.front v) } : Assoc).sound := by
  obtain ⟨hf, hu, hm, hx, hq, hw⟩ := h
  have hfront : ({ r with hwm := some (max r.front v) } : Assoc).front = max r.front v := rfl
  refine ⟨?_, ?_⟩
  · cases hst : r.state <;> simp_all [Assoc.inForm, AssocState.frontKnown]
  · refine ⟨?_, ?_, ?_, ?_, hw⟩
    · rw [hfront]; exact hu.trans (le_max_left _ _)
    · rw [hfront]; exact max_le hm hv
    · intro x hxa
      obtain ⟨h1, h2, h3⟩ := hx x hxa
      rw [hfront]; exact ⟨h1, h2, h3.trans (le_max_left _ _)⟩
    · intro y hy
      obtain ⟨h1, h2, h3⟩ := hq y hy
      rw [hfront]; exact ⟨h1, h2.trans (le_max_left _ _), h3⟩

/-! ## Claims under way -/

/-- No CLAIM entry and no own CLAIM that counts is new in `t`. -/
structure KeepsClaims (s t : State) : Prop where
  entries : ∀ b, { kind := .claim, assoc := b } ∈ t.bus.txList → { kind := .claim, assoc := b } ∈ s.bus.txList
  onBus : ∀ o, t.bus.onBus = some o → o.withdrawn = false → s.bus.onBus = some o

/-- No claim of an association is under way: it has no CLAIM entry, and no CLAIM of it that counts is on the bus. -/
structure ClaimGone (a : Fin 64) (t : State) : Prop where
  entry : { kind := .claim, assoc := a } ∉ t.bus.txList
  onBus : ∀ o, t.bus.onBus = some o → o.withdrawn = false → o.message.content.kind = .claim → o.message.target ≠ a

theorem keepsClaims_of_bus {s t : State} (h : t.bus.txList = s.bus.txList := by simp)
    (h' : t.bus.onBus = s.bus.onBus := by simp) : KeepsClaims s t :=
  ⟨fun _ hb => h ▸ hb, fun _ ho _ => h' ▸ ho⟩

theorem KeepsClaims.trans {s u t : State} (h : KeepsClaims s u) (k : KeepsClaims u t) : KeepsClaims s t :=
  ⟨fun b hb => h.entries b (k.entries b hb), fun o ho hw => h.onBus o (k.onBus o ho hw) hw⟩

theorem KeepsClaims.gone {s t : State} (h : KeepsClaims s t) {a : Fin 64} (hg : ClaimGone a s) : ClaimGone a t :=
  ⟨fun ht => hg.entry (h.entries a ht), fun o ho hw => hg.onBus o (h.onBus o ho hw) hw⟩

theorem mem_removeTx {k : MsgKind} {a : Fin 64} {s : State} {e : TxEntry} :
    e ∈ (removeTx k a s).bus.txList ↔ e ∈ s.bus.txList ∧ e ≠ { kind := k, assoc := a } := by
  simp [removeTx]

theorem mem_txInsert {e x : TxEntry} {l : List TxEntry} : x ∈ txInsert e l ↔ x = e ∨ x ∈ l := by
  induction l with
  | nil => simp [txInsert]
  | cons y l ih =>
    rw [txInsert]
    split
    · rename_i h
      subst h
      simp
    split
    · simp
    · simp only [List.mem_cons, ih]
      tauto

theorem mem_requestTx {k : MsgKind} {a : Fin 64} {s : State} {e : TxEntry} :
    e ∈ (requestTx k a s).bus.txList ↔ e = { kind := k, assoc := a } ∨ e ∈ s.bus.txList := mem_txInsert

theorem keepsClaims_removeTx (k : MsgKind) (a : Fin 64) (s : State) : KeepsClaims s (removeTx k a s) :=
  ⟨fun _ hb => (mem_removeTx.1 hb).1, fun o ho _ => by simpa using ho⟩

theorem keepsClaims_requestTx {k : MsgKind} (h : k ≠ .claim) (a : Fin 64) (s : State) : KeepsClaims s (requestTx k a s) := by
  refine ⟨fun b hb => ?_, fun o ho _ => by simpa using ho⟩
  rcases mem_requestTx.1 hb with hb | hb
  · simp [Ne.symm h] at hb
  · exact hb

theorem cancelClaim_onBus (a : Fin 64) (s : State) :
    (cancelClaim a s).bus.onBus = s.bus.onBus.map (OwnMessage.withdrawClaim a) := by simp [cancelClaim]

theorem mem_cancelClaim {a : Fin 64} {s : State} {e : TxEntry} :
    e ∈ (cancelClaim a s).bus.txList ↔ e ∈ s.bus.txList ∧ e ≠ { kind := .claim, assoc := a } := by
  simp [cancelClaim, removeTx]

theorem keepsClaims_cancelClaim (a : Fin 64) (s : State) : KeepsClaims s (cancelClaim a s) := by
  refine ⟨fun _ hb => (mem_cancelClaim.1 hb).1, fun o ho hw => ?_⟩
  rw [cancelClaim_onBus] at ho
  obtain ⟨o', ho', rfl⟩ := Option.map_eq_some_iff.1 ho
  unfold OwnMessage.withdrawClaim at *
  split <;> simp_all

theorem claimGone_cancelClaim (a : Fin 64) (s : State) : ClaimGone a (cancelClaim a s) := by
  refine ⟨fun h => (mem_cancelClaim.1 h).2 rfl, fun o ho hw hk ht => ?_⟩
  rw [cancelClaim_onBus] at ho
  obtain ⟨o', ho', rfl⟩ := Option.map_eq_some_iff.1 ho
  unfold OwnMessage.withdrawClaim at *
  split at hk <;> simp_all

theorem keepsClaims_cancelAdvance (a : Fin 64) (s : State) : KeepsClaims s (cancelAdvance a s) :=
  (keepsClaims_of_bus (t := s.modAssoc a (fun r => { r with pendingAdvance := none }))).trans
    (keepsClaims_removeTx .advance a _)

theorem retireRecord_bus (a : Fin 64) (s : State) :
    (retireRecord a s).bus = (cancelAdvance a (cancelClaim a (discardReservation a .discardRetire s))).bus := by
  simp [retireRecord]

theorem keepsClaims_retireRecord (a : Fin 64) (s : State) : KeepsClaims s (retireRecord a s) :=
  (((keepsClaims_of_bus (t := discardReservation a .discardRetire s)).trans (keepsClaims_cancelClaim a _)).trans
    (keepsClaims_cancelAdvance a _)).trans
    (keepsClaims_of_bus (by rw [retireRecord_bus]) (by rw [retireRecord_bus]))

theorem claimGone_retireRecord (a : Fin 64) (s : State) : ClaimGone a (retireRecord a s) :=
  ((keepsClaims_cancelAdvance a _).trans
    (keepsClaims_of_bus (by rw [retireRecord_bus]) (by rw [retireRecord_bus]))).gone
    (claimGone_cancelClaim a (discardReservation a .discardRetire s))

theorem retire_bus (a : Fin 64) (e : Bool) (s : State) : (retire a e s).bus = (retireRecord a s).bus := by
  cases e <;> simp [retire]

theorem keepsClaims_retire (a : Fin 64) (e : Bool) (s : State) : KeepsClaims s (retire a e s) :=
  (keepsClaims_retireRecord a s).trans (keepsClaims_of_bus (by rw [retire_bus]) (by rw [retire_bus]))

theorem claimGone_retire (a : Fin 64) (e : Bool) (s : State) : ClaimGone a (retire a e s) :=
  (keepsClaims_of_bus (s := retireRecord a s) (by rw [retire_bus]) (by rw [retire_bus])).gone (claimGone_retireRecord a s)

theorem keepsClaims_requestAdvance (a : Fin 64) (x : AdvanceReason) (s : State) :
    KeepsClaims s (requestAdvance a x s) := by
  fun_cases requestAdvance a x s
  case case2 => exact keepsClaims_retire a true s
  case case4 => exact KeepsClaims.trans (keepsClaims_of_bus (by simp) (by simp)) (keepsClaims_requestTx (by simp) a _)
  all_goals exact keepsClaims_of_bus (by simp) (by simp)

theorem resetRecordForEpoch_bus (a : Fin 64) (e : Nat) (s : State) :
    (resetRecordForEpoch a e s).bus = (cancelAdvance a (cancelClaim a (discardReservation a .discardAdvance s))).bus := by
  simp [resetRecordForEpoch]

theorem keepsClaims_resetRecordForEpoch (a : Fin 64) (e : Nat) (s : State) :
    KeepsClaims s (resetRecordForEpoch a e s) :=
  (((keepsClaims_of_bus (t := discardReservation a .discardAdvance s)).trans (keepsClaims_cancelClaim a _)).trans
    (keepsClaims_cancelAdvance a _)).trans
    (keepsClaims_of_bus (by rw [resetRecordForEpoch_bus]) (by rw [resetRecordForEpoch_bus]))

theorem claimGone_resetRecordForEpoch (a : Fin 64) (e : Nat) (s : State) : ClaimGone a (resetRecordForEpoch a e s) :=
  ((keepsClaims_cancelAdvance a _).trans
    (keepsClaims_of_bus (by rw [resetRecordForEpoch_bus]) (by rw [resetRecordForEpoch_bus]))).gone
    (claimGone_cancelClaim a (discardReservation a .discardAdvance s))

/-! ## The invariant under a change of one record -/

theorem CountersOrdered.sound {s : State} (h : CountersOrdered s) (a : Fin 64) : (s.assoc a).sound := ⟨h.1 a, h.2.1 a⟩

/-- One record changes to a sound one, and its claim is gone or still belongs to it: the invariant stays. -/
theorem CountersOrdered.change {s t : State} (h : CountersOrdered s) (a : Fin 64)
    (hne : ∀ b, b ≠ a → t.assoc b = s.assoc b) (hsound : (t.assoc a).sound) (hk : KeepsClaims s t)
    (hclaim : ClaimGone a t ∨ ((s.assoc a).pendingClaim = true → (t.assoc a).pendingClaim = true ∧
      (t.bus.onBus = none ∨ ((t.assoc a).state = .live ∧ (t.assoc a).front = (s.assoc a).front)))) :
    CountersOrdered t := by
  obtain ⟨hform, hord, hbus, htx⟩ := h
  refine ⟨fun b => ?_, fun b => ?_, fun o ho hw epoch start count hc => ?_, fun b hb => ?_⟩
  · by_cases hb : b = a
    · exact hb ▸ hsound.1
    · exact hne b hb ▸ hform b
  · by_cases hb : b = a
    · exact hb ▸ hsound.2
    · exact hne b hb ▸ hord b
  · have hs := hbus o (hk.onBus o ho hw) hw epoch start count hc
    by_cases hb : o.message.target = a
    · rcases hclaim with hg | hg
      · exact absurd hb (hg.onBus o ho hw (by rw [hc]; rfl))
      · rw [hb] at hs ⊢
        obtain ⟨hp, hn | ⟨hl, hf⟩⟩ := hg hs.2.1
        · simp [hn] at ho
        · exact ⟨hl, hp, by rw [hf]; exact hs.2.2⟩
    · rwa [hne _ hb]
  · have hs := htx b (hk.entries b hb)
    by_cases hba : b = a
    · rcases hclaim with hg | hg
      · exact absurd (hba ▸ hb) hg.entry
      · rw [hba] at hs ⊢
        exact (hg hs).1
    · rwa [hne b hba]

/-- Nothing that the invariant reads changes. -/
theorem CountersOrdered.same {s t : State} (h : CountersOrdered s) (ha : t.assocs = s.assocs := by simp)
    (ht : t.bus.txList = s.bus.txList := by simp) (ho : t.bus.onBus = s.bus.onBus := by simp) : CountersOrdered t := by
  refine h.change 0 (fun b _ => assoc_eq_of_assocs ha b) ?_ (keepsClaims_of_bus ht ho) (.inr fun hp => ?_)
  · rw [assoc_eq_of_assocs ha]; exact h.sound 0
  · rw [assoc_eq_of_assocs ha]
    exact ⟨hp, .inr ⟨live_of_pendingClaim (h.1 0) hp, rfl⟩⟩

/-- The records stay and no claim is new. -/
theorem CountersOrdered.keep {s t : State} (h : CountersOrdered s) (hk : KeepsClaims s t)
    (ha : t.assocs = s.assocs := by simp) : CountersOrdered t := by
  refine h.change 0 (fun b _ => assoc_eq_of_assocs ha b) ?_ hk (.inr fun hp => ?_)
  · rw [assoc_eq_of_assocs ha]; exact h.sound 0
  · rw [assoc_eq_of_assocs ha]
    exact ⟨hp, .inr ⟨live_of_pendingClaim (h.1 0) hp, rfl⟩⟩

/-- One record changes, and nothing on the bus. -/
theorem CountersOrdered.modAssoc {s : State} (h : CountersOrdered s) {a : Fin 64} {f : Assoc → Assoc}
    (hs : (f (s.assoc a)).sound)
    (hc : (s.assoc a).pendingClaim = true → (f (s.assoc a)).pendingClaim = true ∧
      (s.bus.onBus = none ∨ ((f (s.assoc a)).state = .live ∧ (f (s.assoc a)).front = (s.assoc a).front))) :
    CountersOrdered (s.modAssoc a f) :=
  h.change a (fun b hb => by simp [hb]) (by simpa using hs) keepsClaims_of_bus (.inr (by simpa using hc))

end Sys2Proof.Machine
end

section
/-! SUPPORT. Key slots behind the operations that take them out of service. -/

namespace Sys2Proof.Machine

/-! ## Searching four slots -/

theorem findSlot_some {v : Vector KeySlot 4} {p : KeySlot → Bool} {j : Fin 4} (h : findSlot v p = some j) :
    p v[j] = true := by
  simpa using List.find?_some h

theorem findSlot_eq_none {v : Vector KeySlot 4} {p : KeySlot → Bool} : findSlot v p = none ↔ ∀ j : Fin 4, p v[j] = false := by
  simp [findSlot, List.find?_eq_none]

theorem findSlot_isSome {v : Vector KeySlot 4} {p : KeySlot → Bool} :
    (findSlot v p).isSome = true ↔ ∃ j : Fin 4, p v[j] = true := by
  cases h : findSlot v p with
  | none => simpa using findSlot_eq_none.1 h
  | some j => simpa using ⟨j, findSlot_some h⟩

theorem findSlot_congr {v w : Vector KeySlot 4} {p : KeySlot → Bool} (h : ∀ j : Fin 4, p v[j] = p w[j]) :
    findSlot v p = findSlot w p := by
  unfold findSlot
  congr 1
  exact funext h

theorem slotWithRole_role {v : Vector KeySlot 4} {r : Role} {j : Fin 4} (h : slotWithRole v r = some j) : v[j].role = r := by
  simpa using findSlot_some h

theorem oldestRetiring_role {v : Vector KeySlot 4} {j : Fin 4} (h : oldestRetiring v = some j) : v[j].role = .retiring := by
  unfold oldestRetiring at h
  refine List.foldlRecOn (motive := fun best => ∀ b, best = some b → v[b].role = .retiring) (List.finRange 4) _
    (by simp) (fun best hb m _ c hc => ?_) j h
  split at hc
  · rename_i hm
    split at hc
    · cases hc; exact hm
    · split at hc <;> cases hc
      · exact hm
      · exact hb _ rfl
  · exact hb c hc

/-! ## The CURRENT key leaves service (R66, R67) -/

theorem loseUse_slot_ne {r p : SlotRef} (h : p ≠ r) (s : State) : (loseUse r s).slot p = s.slot p := by
  simp [loseUse, h]

theorem wipeSlot_slot (r p : SlotRef) (s : State) : (wipeSlot r s).slot p = if p = r then KeySlot.wiped else s.slot p := by
  simp [wipeSlot, setSlot_slot]

theorem abandonLane_slot_ne {r p : SlotRef} (h : p ≠ r) (s : State) (l : Fin 4) :
    (abandonLane r s l).slot p = s.slot p := by
  have hlane : (abandonLane r s l).slot p = (loseUse r (bump r.assoc .retiredInFlight 1 s)).slot p :=
    slot_eq_of_keys (by simp [abandonLane]) p
  rw [hlane, loseUse_slot_ne h]
  exact slot_eq_of_keys (by simp) p

theorem abandonLanes_slot_ne {r p : SlotRef} (h : p ≠ r) (l : List (Fin 4)) (s : State) :
    (l.foldl (abandonLane r) s).slot p = s.slot p := by
  induction l generalizing s with
  | nil => rfl
  | cons m l ih => rw [List.foldl_cons, ih, abandonLane_slot_ne h]

/-- Freeing the older RETIRING slot wipes one RETIRING slot and leaves every other (R67). -/
theorem freeOldestRetiring_slot (a : Fin 64) (s : State) (p : SlotRef) :
    (freeOldestRetiring a s).slot p = s.slot p ∨
      (p.assoc = a ∧ (s.slot p).role = .retiring ∧ (freeOldestRetiring a s).slot p = KeySlot.wiped) := by
  unfold freeOldestRetiring
  split
  · rename_i j hj
    simp only [wipeSlot_slot]
    split
    · rename_i hp
      subst hp
      exact .inr ⟨rfl, oldestRetiring_role hj, rfl⟩
    · rename_i hp
      exact .inl (abandonLanes_slot_ne hp _ s)
  · exact .inl rfl

/-- What becomes of a slot when the CURRENT key leaves service: a CURRENT or RETIRING one may be wiped or RETIRING, every other is
as it was (R66, R67). -/
theorem retireCurrent_slot (a : Fin 64) (s : State) (p : SlotRef) :
    (retireCurrent a s).slot p = s.slot p ∨
      (p.assoc = a ∧ ((s.slot p).role = .current ∨ (s.slot p).role = .retiring) ∧
        ((retireCurrent a s).slot p = KeySlot.wiped ∨ ((retireCurrent a s).slot p).role = .retiring)) := by
  fun_cases retireCurrent a s
  case case1 j hj r hu =>
    rw [wipeSlot_slot]
    split
    · rename_i hp
      subst hp
      exact .inr ⟨rfl, .inl (slotWithRole_role hj), .inl rfl⟩
    · exact .inl rfl
  case case2 j hj r hu s1 =>
    have h1 : s1.slot p = s.slot p ∨ (p.assoc = a ∧ (s.slot p).role = .retiring ∧ s1.slot p = KeySlot.wiped) := by
      unfold s1
      split
      · exact freeOldestRetiring_slot a s p
      · exact .inl rfl
    rw [setSlot_slot]
    split
    · rename_i hp
      subst hp
      exact .inr ⟨rfl, .inl (slotWithRole_role hj), .inr rfl⟩
    · rcases h1 with h1 | ⟨ha, hr, hw⟩
      · exact .inl h1
      · exact .inr ⟨ha, .inr hr, .inl hw⟩
  case case3 => exact .inl rfl

theorem retireCurrent_slot_ne {a : Fin 64} {p : SlotRef} (h : p.assoc ≠ a) (s : State) :
    (retireCurrent a s).slot p = s.slot p := by
  rcases retireCurrent_slot a s p with h' | ⟨h', -⟩
  · exact h'
  · exact absurd h' h

theorem slots_ext {s t : State} {b : Fin 64} (h : ∀ j : Fin 4, t.slot { assoc := b, index := j } = s.slot { assoc := b, index := j }) :
    t.slots b = s.slots b :=
  Vector.ext (fun i hi => h ⟨i, hi⟩)

theorem retireCurrent_slots_ne {a b : Fin 64} (h : b ≠ a) (s : State) : (retireCurrent a s).slots b = s.slots b :=
  slots_ext fun _ => retireCurrent_slot_ne h s

/-- A test that only STANDBY and PENDING slots meet says the same of every slot when the CURRENT key leaves service. -/
theorem retireCurrent_test {p : KeySlot → Bool} (hp : ∀ k, p k = true → k.role = .standby ∨ k.role = .pending) (a : Fin 64)
    (s : State) (r : SlotRef) : p ((retireCurrent a s).slot r) = p (s.slot r) := by
  have hno : ∀ k : KeySlot, k.role ≠ .standby → k.role ≠ .pending → p k = false := by
    intro k h1 h2
    cases hk : p k
    · rfl
    · rcases hp k hk with h | h
      · exact absurd h h1
      · exact absurd h h2
  rcases retireCurrent_slot a s r with h | ⟨-, hs, ht⟩
  · rw [h]
  · have h1 : p (s.slot r) = false := by rcases hs with h | h <;> exact hno _ (by simp [h]) (by simp [h])
    have h2 : p ((retireCurrent a s).slot r) = false := by
      rcases ht with h | h
      · rw [h]; exact hno _ (by simp [KeySlot.wiped]) (by simp [KeySlot.wiped])
      · exact hno _ (by simp [h]) (by simp [h])
    rw [h1, h2]

theorem standbyOf_iff {s : State} {a : Fin 64} {e : Nat} :
    s.standbyOf a e = true ↔ ∃ j : Fin 4, (s.slots a)[j].role = .standby ∧ (s.slots a)[j].epoch = e := by
  simp [State.standbyOf, findSlot_isSome]

theorem retireCurrent_standbyOf (a : Fin 64) (e : Nat) (s : State) :
    (retireCurrent a s).standbyOf a e = s.standbyOf a e := by
  refine congrArg Option.isSome (findSlot_congr fun j => ?_)
  exact retireCurrent_test (p := fun k => k.role == .standby && k.epoch == e)
    (fun k hk => .inl (by simpa using (Bool.and_eq_true_iff.1 hk).1)) a s { assoc := a, index := j }

/-! ## Keys discarded -/

theorem discardKey_slot (r p : SlotRef) (s : State) :
    (discardKey r s).slot p = if p = r then KeySlot.wiped else s.slot p := by
  have hpost : (discardKey r s).slot p = (wipeSlot r s).slot p := slot_eq_of_keys (by simp [discardKey]) p
  rw [hpost, wipeSlot_slot]

/-- Discarding the keys that meet a test wipes these slots of the association and leaves every other. -/
theorem discardKeys_slot (a : Fin 64) (p : KeySlot → Bool) (s : State) (r : SlotRef) :
    (discardKeys a p s).slot r = if r.assoc = a ∧ p (s.slot r) = true then KeySlot.wiped else s.slot r := by
  have hfold : ∀ (l : List (Fin 4)) (s : State), l.Nodup →
      (l.foldl (fun s j => if p (s.slot { assoc := a, index := j }) then discardKey { assoc := a, index := j } s else s)
        s).slot r = if r.assoc = a ∧ r.index ∈ l ∧ p (s.slot r) = true then KeySlot.wiped else s.slot r := by
    intro l
    induction l with
    | nil => intro s _; simp
    | cons j l ih =>
      intro s hnd
      obtain ⟨hj, hnd⟩ := List.nodup_cons.1 hnd
      rw [List.foldl_cons, ih _ hnd]
      by_cases hr : r = { assoc := a, index := j }
      · subst hr
        by_cases hp : p (s.slot { assoc := a, index := j }) = true <;> simp [hp, hj, discardKey_slot]
      · have hs : (if p (s.slot { assoc := a, index := j }) = true then discardKey { assoc := a, index := j } s else s).slot r =
            s.slot r := by
          split
          · rw [discardKey_slot, if_neg hr]
          · rfl
        have hi : r.assoc = a → r.index ≠ j := fun ha hi => hr (by cases r; simp_all)
        rw [hs]
        by_cases ha : r.assoc = a
        · simp [ha, hi ha]
        · simp [ha]
  have h := hfold (List.finRange 4) s (List.nodup_finRange 4)
  unfold discardKeys
  rw [h]
  simp

theorem discardKeys_slots_ne {a b : Fin 64} (h : b ≠ a) (p : KeySlot → Bool) (s : State) :
    (discardKeys a p s).slots b = s.slots b :=
  slots_ext fun _ => by rw [discardKeys_slot]; simp [h]

end Sys2Proof.Machine
end

section
/-! SUPPORT. Every operation on records keeps the order of counters: requests, advances, placement and installs, dispatch, and
delivered messages. -/

namespace Sys2Proof.Machine

/-! ## Requests and retirement -/

theorem CountersOrdered.retire {s : State} (h : CountersOrdered s) (a : Fin 64) (e : Bool) :
    CountersOrdered (retire a e s) :=
  h.change a (fun b hb => by simp [hb]) (by simpa using sound_whenRetired (s.assoc a)) (keepsClaims_retire a e s)
    (.inl (claimGone_retire a e s))

theorem CountersOrdered.requestAdvance {s : State} (h : CountersOrdered s) (a : Fin 64) (x : AdvanceReason) :
    CountersOrdered (requestAdvance a x s) := by
  refine h.change a (fun b hb => by simp [hb]) (by simpa using sound_advanceAsked (h.sound a) x _)
    (keepsClaims_requestAdvance a x s) ?_
  fun_cases Machine.requestAdvance a x s
  case case2 => exact .inl (claimGone_retire a true s)
  all_goals
    refine .inr fun hp => ?_
    have hl := live_of_pendingClaim (h.1 a) hp
    simp [hp, hl, Assoc.front]

theorem CountersOrdered.requestClaim {s : State} (h : CountersOrdered s) (a : Fin 64) :
    CountersOrdered (requestClaim a s) := by
  fun_cases Machine.requestClaim a s
  case case4 => exact h.requestAdvance a _
  case case5 hp hl hq hx =>
    have hr : CountersOrdered (s.modAssoc a fun r => { r with pendingClaim := true }) := by
      have hl : (s.assoc a).state = .live := by simpa using hl
      exact h.modAssoc ⟨(inForm_live (by exact hl)).2 ((inForm_live hl).1 (h.1 a)), h.2.1 a⟩ (fun hp' => absurd hp' hp)
    obtain ⟨h1, h2, h3, h4⟩ := hr
    refine ⟨fun b => by simpa using h1 b, fun b => by simpa using h2 b, fun o ho => by simpa using h3 o (by simpa using ho),
      fun b hb => ?_⟩
    rcases mem_requestTx.1 hb with hb | hb
    · simp only [TxEntry.mk.injEq, true_and] at hb
      simp [hb]
    · simpa using h4 b hb
  all_goals exact h

theorem CountersOrdered.queueHeldAdvance {s : State} (h : CountersOrdered s) (a : Fin 64) :
    CountersOrdered (queueHeldAdvance a s) := by
  fun_cases Machine.queueHeldAdvance a s
  case case1 p hp hc =>
    refine CountersOrdered.keep (CountersOrdered.modAssoc h ?_ fun hp => ?_) (keepsClaims_requestTx (by simp) a _)
    · refine sound_of_pendingAdvance (h.sound a) ?_ _
      have hf := h.1 a
      unfold Assoc.inForm at hf
      split at hf <;> simp_all [AssocState.inEpoch]
    · have hl := live_of_pendingClaim (h.1 a) hp
      exact ⟨hp, .inr ⟨hl, rfl⟩⟩
  all_goals exact h

theorem CountersOrdered.loseCurrentKey {s : State} (h : CountersOrdered s) {a : Fin 64} (hl : (s.assoc a).state = .live) :
    CountersOrdered (loseCurrentKey a s) := by
  have hbus : (Machine.loseCurrentKey a s).bus = (cancelClaim a (discardReservation a .discardKeyLoss s)).bus := by
    simp [Machine.loseCurrentKey]
  have hk : KeepsClaims (cancelClaim a (discardReservation a .discardKeyLoss s)) (Machine.loseCurrentKey a s) :=
    keepsClaims_of_bus (by rw [hbus]) (by rw [hbus])
  obtain ⟨hf, hu, hm, -, -, hv⟩ := h.sound a
  obtain ⟨he, hw, -⟩ := (inForm_live hl).1 hf
  refine h.change a (fun b hb => by simp [hb]) ?_ ?_ (.inl (hk.gone (claimGone_cancelClaim a _)))
  · rw [loseCurrentKey_assoc_self]
    exact ⟨(inForm_keyWait rfl).2 ⟨he, hw, rfl, rfl, rfl⟩, ordered_of_empty rfl rfl hu hm hv⟩
  · exact ((keepsClaims_of_bus (t := discardReservation a .discardKeyLoss s)).trans (keepsClaims_cancelClaim a _)).trans hk

/-! ## An advance applied (R65, R66, R68) -/

/-- An advance applied, before a claim that was pending is requested again. -/
def enterEpoch (a : Fin 64) (epoch : Nat) (reason : AdvanceReason) (initiator : Nat) (s : State) : State :=
  s |> resetRecordForEpoch a epoch
    |> postNotice (newNotice .advanced (.reason reason) a.val epoch initiator 1 false)
    |> retireCurrent a |> takeUpStandby a epoch
    |> postMark a .blind |> postMark a .exhausted |> postMark a .starved

theorem applyAdvance_eq (a : Fin 64) (epoch : Nat) (reason : AdvanceReason) (initiator : Nat) (s : State) :
    applyAdvance a epoch reason initiator s =
      if (s.assoc a).pendingClaim then requestClaim a (enterEpoch a epoch reason initiator s)
      else enterEpoch a epoch reason initiator s := rfl

section
variable (a : Fin 64) (epoch : Nat) (reason : AdvanceReason) (i : Nat) (s : State)

@[simp] theorem enterEpoch_assoc_self :
    (enterEpoch a epoch reason i s).assoc a =
      { (s.assoc a).inNewEpoch epoch (s.assocDef a).startLevel with
        state := if s.standbyOf a epoch then .live else .keyWait } := by
  have hstandby : (retireCurrent a (postNotice (newNotice .advanced (.reason reason) a.val epoch i 1 false)
      (resetRecordForEpoch a epoch s))).standbyOf a epoch = s.standbyOf a epoch := by
    rw [retireCurrent_standbyOf]
    simp [State.standbyOf, State.slots]
  simp [enterEpoch, hstandby]

@[simp] theorem enterEpoch_assoc_ne {b : Fin 64} (h : b ≠ a) : (enterEpoch a epoch reason i s).assoc b = s.assoc b := by
  simp [enterEpoch, h]

theorem enterEpoch_bus : (enterEpoch a epoch reason i s).bus = (resetRecordForEpoch a epoch s).bus := by
  simp only [enterEpoch, postMark_frame]
  have : ∀ u : State, (takeUpStandby a epoch u).bus = u.bus := fun u => by simp
  simp

theorem keepsClaims_enterEpoch : KeepsClaims s (enterEpoch a epoch reason i s) :=
  (keepsClaims_resetRecordForEpoch a epoch s).trans
    (keepsClaims_of_bus (by rw [enterEpoch_bus]) (by rw [enterEpoch_bus]))

theorem claimGone_enterEpoch : ClaimGone a (enterEpoch a epoch reason i s) :=
  (keepsClaims_of_bus (by rw [enterEpoch_bus]) (by rw [enterEpoch_bus])).gone (claimGone_resetRecordForEpoch a epoch s)

end

theorem CountersOrdered.applyAdvance {s : State} (h : CountersOrdered s) (a : Fin 64) (epoch : Nat) (reason : AdvanceReason)
    (i : Nat) : CountersOrdered (applyAdvance a epoch reason i s) := by
  have hv := (h.2.1 a).2.2.2.2
  have he : CountersOrdered (enterEpoch a epoch reason i s) := by
    refine h.change a (fun b hb => by simp [hb]) ?_ (keepsClaims_enterEpoch a epoch reason i s)
      (.inl (claimGone_enterEpoch a epoch reason i s))
    rw [enterEpoch_assoc_self]
    refine ⟨?_, ordered_of_empty rfl rfl (by simp [Assoc.inNewEpoch]) (by simp [Assoc.inNewEpoch, Assoc.front]) hv⟩
    split
    · exact (inForm_live rfl).2 (by simp [Assoc.inNewEpoch])
    · exact (inForm_keyWait rfl).2 (by simp [Assoc.inNewEpoch])
  rw [applyAdvance_eq]
  split
  · exact he.requestClaim a
  · exact he

theorem CountersOrdered.advanceReaches {s : State} (h : CountersOrdered s) (a : Fin 64) (epoch : Nat)
    (reason : AdvanceReason) (i : Nat) : CountersOrdered (advanceReaches a epoch reason i s) := by
  unfold Machine.advanceReaches
  split
  · exact h.applyAdvance a epoch reason i
  · exact h

/-! ## Placement and installs (R54 to R60) -/

theorem sound_settleView_none {r : Assoc} (h : r.sound) : ({ r with settleView := none } : Assoc).sound :=
  ⟨h.1, h.2.1, h.2.2.1, h.2.2.2.1, h.2.2.2.2.1, by simp⟩

theorem CountersOrdered.settleView_none {s : State} (h : CountersOrdered s) (a : Fin 64) :
    CountersOrdered (s.modAssoc a fun r => { r with settleView := none }) :=
  h.modAssoc (sound_settleView_none (h.sound a)) fun hp => ⟨hp, .inr ⟨live_of_pendingClaim (h.1 a) hp, rfl⟩⟩

/-- A placement of a SETTLING or DORMANT association: the record takes the form of its new state (R54, R55). -/
theorem CountersOrdered.placeRecord {s : State} (h : CountersOrdered s) {a : Fin 64}
    (hl : (s.assoc a).state.listening = true) (e : Nat) (w : Option Nat) (st : AssocState)
    (hst : (st = .live ∨ st = .keyWait) ∧ (∃ v, w = some v ∧ v ≤ max48) ∨ st = .blind ∧ w = none) :
    CountersOrdered (placeRecord a e w st s) := by
  obtain ⟨-, -, -, -, -, hp, -⟩ := inForm_listening hl (h.1 a)
  have hv := (h.2.1 a).2.2.2.2
  refine h.modAssoc ⟨?_, ordered_of_empty rfl rfl (Nat.zero_le _) ?_ hv⟩ (fun hp' => by simp [hp] at hp')
  · rcases hst with ⟨rfl | rfl, v, rfl, -⟩ | ⟨rfl, rfl⟩ <;> simp [Assoc.inForm, hp]
  · rcases hst with ⟨-, v, rfl, hv⟩ | ⟨-, rfl⟩ <;> simp [Assoc.front, *]

theorem CountersOrdered.reportPlaced {s : State} (h : CountersOrdered s) (a : Fin 64) (v : Vector KeySlot 4)
    (l : List (Fin 4)) : CountersOrdered (reportPlaced a v l s) := h.same

theorem CountersOrdered.place {s : State} (h : CountersOrdered s) {a : Fin 64}
    (hl : (s.assoc a).state.listening = true) : CountersOrdered (place a s) := by
  have hroles : ∀ e, CountersOrdered (assignRoles a e s) ∧ ((assignRoles a e s).assoc a).state.listening = true := fun e =>
    ⟨h.same, by rw [assoc_eq_of_assocs (s := s) (by simp)]; exact hl⟩
  unfold Machine.place
  split
  · rename_i v hv
    have hm : v.hwm ≤ max48 := (h.2.1 a).2.2.2.2 v hv
    unfold placeInEpoch
    simp only
    refine CountersOrdered.settleView_none (CountersOrdered.reportPlaced ?_ a _ _) a
    split
    · exact (hroles v.epoch).1.placeRecord (hroles v.epoch).2 _ _ _ (.inl ⟨.inl rfl, _, rfl, hm⟩)
    · have hw := (hroles v.epoch).1.placeRecord (hroles v.epoch).2 v.epoch (some v.hwm) .keyWait (.inl ⟨.inr rfl, _, rfl, hm⟩)
      exact hw.same
  split
  · rename_i f hf
    unfold placeBlind
    simp only
    refine CountersOrdered.settleView_none (CountersOrdered.reportPlaced ?_ a _ _) a
    exact ((hroles f).1.placeRecord (hroles f).2 _ _ _ (.inr ⟨rfl, rfl⟩)).requestAdvance a _
  · obtain ⟨he, hw, hu, ha, hq, hp, hpa⟩ := inForm_listening hl (h.1 a)
    exact h.modAssoc ⟨by simp [Assoc.inForm, *], h.2.1 a⟩ (fun hp' => by simp [hp] at hp')

theorem CountersOrdered.installCurrent {s : State} (h : CountersOrdered s) {a : Fin 64}
    (hk : (s.assoc a).state = .keyWait) (i : Install) : CountersOrdered (installCurrent a i s) := by
  have hw : (writeEmptySlot a .current i s).assoc a = s.assoc a := assoc_eq_of_assocs (by simp) a
  obtain ⟨he, hh, ha, hq, hp⟩ := (inForm_keyWait hk).1 (h.1 a)
  have hlive : CountersOrdered ((writeEmptySlot a .current i s).modAssoc a fun r => { r with state := .live }) := by
    refine CountersOrdered.modAssoc (CountersOrdered.same h) ?_ ?_
    · rw [hw]
      exact ⟨(inForm_live rfl).2 ⟨he, hh, by simp [hq]⟩, h.2.1 a⟩
    · rw [hw]
      simp [hp]
  exact hlive.same (by simp [Machine.installCurrent]) (by simp [Machine.installCurrent]) (by simp [Machine.installCurrent])

theorem CountersOrdered.installStandby {s : State} (h : CountersOrdered s) (a : Fin 64) (i : Install) :
    CountersOrdered (installStandby a i s) := by
  unfold Machine.installStandby
  split
  · exact CountersOrdered.queueHeldAdvance (CountersOrdered.same h) a
  · exact CountersOrdered.queueHeldAdvance (CountersOrdered.same h) a

theorem CountersOrdered.decideInstall {s : State} (h : CountersOrdered s) (a : Fin 64) (i : Install) :
    CountersOrdered (decideInstall a i s).state := by
  fun_cases Machine.decideInstall a i s
  case case1 => exact h.same
  case case2 hl =>
    fun_cases installDormant a i s
    case case3 =>
      refine CountersOrdered.place (CountersOrdered.same h) ?_
      rw [assoc_eq_of_assocs (s := s) (by simp)]
      exact hl
    all_goals exact h
  case case3 =>
    fun_cases installRunning a i s
    case case2 hc _ => exact h.installCurrent hc.2 i
    case case4 => exact h.installStandby a i
    all_goals exact h

/-! ## A dispatch (R9, R11 to R13) -/

@[simp] theorem discardStale_assoc_ne {a b : Fin 64} (h : b ≠ a) (s : State) : (discardStale a s).assoc b = s.assoc b := by
  unfold discardStale
  split <;> simp [h]

theorem discardStale_assoc_self {a : Fin 64} {s : State} {x : ActiveRange} (h : (s.assoc a).active = some x) :
    (discardStale a s).assoc a = (s.assoc a).staleGone := by
  simp [discardStale, h, Assoc.staleGone]

@[simp] theorem ladderTest_assoc_self (a : Fin 64) (s : State) :
    (ladderTest a s).assoc a = { s.assoc a with
      level := if 2 * (s.assoc a).acc < s.cfg.ladder[(s.assoc a).level] then levelUp (s.assoc a).level
        else (s.assoc a).level } := by
  fun_cases ladderTest a s
  case case1 h =>
    have h : 2 * (s.assoc a).acc < s.cfg.ladder[(s.assoc a).level] := h
    simp only [if_pos h, modAssoc_assoc_self]
  case case2 h =>
    have h : ¬ 2 * (s.assoc a).acc < s.cfg.ladder[(s.assoc a).level] := h
    simp only [if_neg h]

@[simp] theorem ladderTest_assoc_ne {a b : Fin 64} (h : b ≠ a) (s : State) : (ladderTest a s).assoc b = s.assoc b := by
  unfold ladderTest
  split <;> simp [h]

@[simp] theorem takeCounter_assoc_self (a : Fin 64) (s : State) :
    (takeCounter a s).assoc a = (s.assoc a).taken s.cfg.ladder := by
  fun_cases takeCounter a s
  case case1 x hx s1 hlt =>
    have hc : s1.cfg = s.cfg := cfg_eq_of_image (by simp [s1])
    simp only [promote_assoc_self, ladderTest_assoc_self, hc]
    simp [s1, Assoc.taken, hx, hlt, Assoc.promoted]
  case case2 x hx s1 hlt => simp [s1, Assoc.taken, hx, hlt]
  case case3 hx => simp [Assoc.taken, hx]

@[simp] theorem takeCounter_assoc_ne {a b : Fin 64} (h : b ≠ a) (s : State) : (takeCounter a s).assoc b = s.assoc b := by
  fun_cases takeCounter a s <;> simp +zetaDelta [h]

/-- A record on which the range walk or a dispatch works stays LIVE with its pending claim and its h. -/
theorem CountersOrdered.live_change {s t : State} (h : CountersOrdered s) {a : Fin 64} (hl : (s.assoc a).state = .live)
    (hne : ∀ b, b ≠ a → t.assoc b = s.assoc b) (hs : (t.assoc a).sound)
    (hsame : (t.assoc a).state = (s.assoc a).state ∧ (t.assoc a).pendingClaim = (s.assoc a).pendingClaim ∧
      (t.assoc a).front = (s.assoc a).front)
    (ht : t.bus.txList = s.bus.txList := by simp) (ho : t.bus.onBus = s.bus.onBus := by simp) :
    CountersOrdered t ∧ (t.assoc a).state = .live := by
  refine ⟨h.change a hne hs (keepsClaims_of_bus ht ho) (.inr fun hp => ?_), hsame.1.trans hl⟩
  rw [hsame.1, hsame.2.1, hsame.2.2]
  exact ⟨hp, .inr ⟨hl, rfl⟩⟩

theorem CountersOrdered.rangeWalk {s : State} (h : CountersOrdered s) {a : Fin 64} (hl : (s.assoc a).state = .live) (n : Nat) :
    CountersOrdered (rangeWalk n a s) ∧ ((rangeWalk n a s).assoc a).state = .live := by
  induction n generalizing s with
  | zero => exact ⟨h, hl⟩
  | succ n ih =>
    rw [Machine.rangeWalk]
    split
    · rename_i hst
      obtain ⟨x, hx⟩ : ∃ x, (s.assoc a).active = some x := by
        unfold State.staleActive at hst
        split at hst
        · exact ⟨_, by assumption⟩
        · simp at hst
      have hr := discardStale_assoc_self hx
      obtain ⟨h', hl'⟩ := h.live_change hl (t := discardStale a s) (fun b hb => discardStale_assoc_ne hb s)
        (by rw [hr]; exact sound_staleGone (h.sound a) hl) (by rw [hr]; exact ⟨rfl, rfl, rfl⟩)
      exact ih h' hl'
    · exact ⟨h, hl⟩

theorem taken_keeps (r : Assoc) (ladder : Vector Nat 4) :
    (r.taken ladder).state = r.state ∧ (r.taken ladder).pendingClaim = r.pendingClaim ∧
      (r.taken ladder).hwm = r.hwm ∧ (r.taken ladder).epoch = r.epoch ∧
      (r.taken ladder).pendingAdvance = r.pendingAdvance := by
  unfold Assoc.taken
  (repeat' split) <;> simp [Assoc.promoted]

theorem CountersOrdered.takeCounter {s : State} (h : CountersOrdered s) {a : Fin 64} (hl : (s.assoc a).state = .live) :
    CountersOrdered (takeCounter a s) := by
  obtain ⟨hst, hp, hw, -⟩ := taken_keeps (s.assoc a) s.cfg.ladder
  refine (h.live_change hl (fun b hb => by simp [hb]) ?_ ?_).1
  · rw [takeCounter_assoc_self]; exact sound_taken (h.sound a) hl _
  · rw [takeCounter_assoc_self]; exact ⟨hst, hp, by simp [Assoc.front, hw]⟩

theorem CountersOrdered.prefetchTest {s : State} (h : CountersOrdered s) (a : Fin 64) : CountersOrdered (prefetchTest a s) := by
  unfold Machine.prefetchTest
  split
  · exact h.requestClaim a
  · exact h

theorem CountersOrdered.checkFrame {s : State} (h : CountersOrdered s) (d : Descriptor) :
    CountersOrdered (checkFrame d s).1 ∧ ∀ a, (checkFrame d s).2 = .assign a → ((checkFrame d s).1.assoc a).state = .live := by
  fun_cases Machine.checkFrame d s
  case case9 a _ _ _ hl =>
    obtain ⟨hw, hlw⟩ := h.rangeWalk hl 2
    unfold serveCounter
    simp only
    split
    · exact ⟨hw, fun b hb => by cases hb; exact hlw⟩
    split
    · exact ⟨hw.requestAdvance a _, by simp⟩
    · exact ⟨hw.requestClaim a, by simp⟩
  case case1 => exact ⟨h, fun a ha => by split at ha <;> cases ha⟩
  all_goals exact ⟨h, by simp⟩

theorem CountersOrdered.sendToLane {s : State} (h : CountersOrdered s) {a : Fin 64} (hl : (s.assoc a).state = .live)
    (f : Nat) (d : Descriptor) : CountersOrdered (sendToLane a f d s) :=
  CountersOrdered.prefetchTest (CountersOrdered.same (h.takeCounter hl)) a

theorem CountersOrdered.dispatchCandidate {s : State} (h : CountersOrdered s) (c : Candidate) :
    CountersOrdered (dispatchCandidate c s) := by
  fun_cases Machine.dispatchCandidate c s
  case case1 e =>
    fun_cases dispatchParked e s
    case case1 => exact h.same
    case case2 d hd =>
      obtain ⟨hc, hl⟩ := h.checkFrame d
      unfold settleParked
      split
      · exact hc.same
      · rename_i a ha
        exact CountersOrdered.sendToLane hc.same (by rw [assoc_eq_of_assocs (s := (Machine.checkFrame d s).1) (by simp)]; exact hl a ha) _ _
      · exact hc.same
      · split <;> exact hc.same
  case case2 q f rest =>
    fun_cases dispatchQueued q f rest s
    case case1 => exact h.same
    case case2 => exact h.same (by simp +zetaDelta) (by simp +zetaDelta) (by simp +zetaDelta)
    case case3 d hd s1 hg =>
      have h1 : CountersOrdered s1 := h.same (by simp [s1]) (by simp [s1]) (by simp [s1])
      obtain ⟨hc, hl⟩ := h1.checkFrame d
      unfold settleQueued
      split
      · exact hc.same
      · rename_i a ha
        exact hc.sendToLane (hl a ha) _ _
      · exact hc.same
      · split <;> exact hc.same

end Sys2Proof.Machine
end

section
/-! SUPPORT. The removal of an overlap (R21): the pieces a peer's claim leaves, and the record it makes of them. -/

namespace Sys2Proof.Machine

/-! ## The pieces outside a claim -/

theorem mem_cutRange {p q lo hi : Nat} {x : Nat × Nat} :
    x ∈ cutRange p q lo hi ↔
      (lo < p ∧ lo ≤ hi ∧ x = (lo, min hi (p - 1))) ∨ (q < hi ∧ lo ≤ hi ∧ x = (max lo (q + 1), hi)) := by
  unfold cutRange
  split <;> split <;> simp_all

/-- The counters of a range that lie outside a claim are those of its pieces (R21). -/
theorem cutRange_counters {p q lo hi n : Nat} :
    (∃ x ∈ cutRange p q lo hi, x.1 ≤ n ∧ n ≤ x.2) ↔ (lo ≤ n ∧ n ≤ hi) ∧ ¬ (p ≤ n ∧ n ≤ q) := by
  constructor
  · rintro ⟨x, hx, h1, h2⟩
    rcases mem_cutRange.1 hx with ⟨ha, hb, rfl⟩ | ⟨ha, hb, rfl⟩ <;> simp only at h1 h2 <;> omega
  · rintro ⟨⟨h1, h2⟩, h3⟩
    by_cases hp : n < p
    · exact ⟨_, mem_cutRange.2 (.inl ⟨by omega, by omega, rfl⟩), h1, by simp only; omega⟩
    · exact ⟨_, mem_cutRange.2 (.inr ⟨by omega, by omega, rfl⟩), by simp only; omega, h2⟩

/-- The pieces of a range stand in ascending order within it. -/
theorem cutRange_ascending {p q : Nat} (lo hi : Nat) (hpq : p ≤ q) :
    (cutRange p q lo hi).Pairwise (fun x y => x.2 < y.1) ∧ ∀ x ∈ cutRange p q lo hi, lo ≤ x.1 ∧ x.1 ≤ x.2 ∧ x.2 ≤ hi := by
  constructor
  · unfold cutRange
    split <;> split <;> simp
    omega
  · intro x hx
    rcases mem_cutRange.1 hx with ⟨ha, hb, rfl⟩ | ⟨ha, hb, rfl⟩ <;> simp only <;> omega

/-- A range has as many counters in its pieces as in itself exactly when the claim does not meet it. -/
theorem rangesCount_cutRange {p q : Nat} (lo hi : Nat) (hpq : p ≤ q) :
    rangesCount (cutRange p q lo hi) ≤ hi + 1 - lo ∧
      (rangesCount (cutRange p q lo hi) = hi + 1 - lo → lo ≤ hi → (hi < p ∨ q < lo) ∧ cutRange p q lo hi = [(lo, hi)]) ∧
      ((∀ n, lo ≤ n → n ≤ hi → n < p ∨ q < n) → rangesCount (cutRange p q lo hi) = hi + 1 - lo) := by
  by_cases hle : lo ≤ hi
  · by_cases h1 : hi < p
    · have hc : cutRange p q lo hi = [(lo, hi)] := by
        have h2 : lo < p := by omega
        have h3 : ¬ q < hi := by omega
        have h4 : min hi (p - 1) = hi := by omega
        simp [cutRange, hle, h2, h3, h4]
      rw [hc]
      simp [rangesCount, h1]
    by_cases h2 : q < lo
    · have hc : cutRange p q lo hi = [(lo, hi)] := by
        have h3 : ¬ lo < p := by omega
        have h4 : q < hi := by omega
        have h5 : max lo (q + 1) = lo := by omega
        simp [cutRange, hle, h3, h4, h5]
      rw [hc]
      simp [rangesCount, h2]
    · have hlt : rangesCount (cutRange p q lo hi) < hi + 1 - lo := by
        unfold cutRange rangesCount
        by_cases h3 : lo < p <;> by_cases h4 : q < hi <;> simp [h3, h4, hle] <;> omega
      refine ⟨hlt.le, fun h => absurd h (by omega), fun h => ?_⟩
      have := h (max lo p) (by omega) (by omega)
      omega
  · have hc : cutRange p q lo hi = [] := by simp [cutRange, hle]
    rw [hc]
    have hz : hi + 1 - lo = 0 := by omega
    simp [rangesCount, hle, hz]

theorem rangesCount_append (l m : List (Nat × Nat)) : rangesCount (l ++ m) = rangesCount l + rangesCount m := by
  simp [rangesCount]

/-! ## The ranges of a reservation -/

/-- The counters of a record not yet assigned, as ranges: the active one from its next counter, then the queued one (R1). -/
def Assoc.ranges (r : Assoc) : List (Nat × Nat) :=
  (r.active.map (fun x => (x.next, x.stop))).toList ++ (r.queued.map (fun y => (y.start, y.stop))).toList

theorem piecesOutside_eq (r : Assoc) (p q : Nat) :
    r.piecesOutside p q = r.ranges.flatMap (fun x => cutRange p q x.1 x.2) := by
  unfold Assoc.piecesOutside Assoc.ranges
  cases r.active <;> cases r.queued <;> simp

theorem reservationCount_eq (r : Assoc) : r.reservationCount = rangesCount r.ranges := by
  unfold Assoc.reservationCount Assoc.ranges
  cases r.active <;> cases r.queued <;> simp [rangesCount, ActiveRange.left, QueuedRange.size]

theorem reserves_iff (r : Assoc) (n : Nat) : r.reserves n ↔ ∃ x ∈ r.ranges, x.1 ≤ n ∧ n ≤ x.2 := by
  unfold Assoc.reserves Assoc.ranges
  cases r.active <;> cases r.queued <;> simp

theorem pieces_counters (r : Assoc) (p q n : Nat) :
    (∃ x ∈ r.piecesOutside p q, x.1 ≤ n ∧ n ≤ x.2) ↔ r.reserves n ∧ ¬ (p ≤ n ∧ n ≤ q) := by
  rw [piecesOutside_eq, reserves_iff]
  simp only [List.mem_flatMap]
  constructor
  · rintro ⟨x, ⟨y, hy, hx⟩, h⟩
    obtain ⟨h1, h2⟩ := cutRange_counters.1 ⟨x, hx, h⟩
    exact ⟨⟨y, hy, h1⟩, h2⟩
  · rintro ⟨⟨y, hy, h1⟩, h2⟩
    obtain ⟨x, hx, h⟩ := cutRange_counters.2 ⟨h1, h2⟩
    exact ⟨x, ⟨y, hy, hx⟩, h⟩

theorem rangesCount_flatMap_cut (l : List (Nat × Nat)) {p q : Nat} (hpq : p ≤ q) :
    rangesCount (l.flatMap (fun x => cutRange p q x.1 x.2)) ≤ rangesCount l ∧
      (rangesCount (l.flatMap (fun x => cutRange p q x.1 x.2)) = rangesCount l ↔
        ∀ x ∈ l, rangesCount (cutRange p q x.1 x.2) = x.2 + 1 - x.1) := by
  induction l with
  | nil => simp [rangesCount]
  | cons y l ih =>
    obtain ⟨h1, -⟩ := rangesCount_cutRange (p := p) (q := q) y.1 y.2 hpq
    obtain ⟨h2, h3⟩ := ih
    have hc : rangesCount (y :: l) = (y.2 + 1 - y.1) + rangesCount l := by simp [rangesCount]
    rw [List.flatMap_cons, rangesCount_append, hc]
    refine ⟨by omega, ?_⟩
    rw [List.forall_mem_cons, ← h3]
    omega

/-- The pieces hold all counters of the reservation exactly when the claim meets none of them (R21). -/
theorem pieces_whole_iff (r : Assoc) {p q : Nat} (hpq : p ≤ q) :
    rangesCount (r.piecesOutside p q) = r.reservationCount ↔ ∀ n, r.reserves n → n < p ∨ q < n := by
  rw [piecesOutside_eq, reservationCount_eq, (rangesCount_flatMap_cut r.ranges hpq).2]
  constructor
  · intro h n hn
    obtain ⟨x, hx, h1, h2⟩ := (reserves_iff r n).1 hn
    obtain ⟨-, h3, -⟩ := rangesCount_cutRange (p := p) (q := q) x.1 x.2 hpq
    rcases (h3 (h x hx) (h1.trans h2)).1 with h4 | h4 <;> omega
  · intro h x hx
    exact (rangesCount_cutRange x.1 x.2 hpq).2.2 (fun n h1 h2 => h n ((reserves_iff r n).2 ⟨x, hx, h1, h2⟩))

/-- With no counter met at most two pieces are left. -/
theorem pieces_length_le (r : Assoc) {p q : Nat} (hpq : p ≤ q)
    (h : rangesCount (r.piecesOutside p q) = r.reservationCount) : (r.piecesOutside p q).length ≤ 2 := by
  rw [piecesOutside_eq, reservationCount_eq, (rangesCount_flatMap_cut r.ranges hpq).2] at h
  have hone : ∀ x ∈ r.ranges, (cutRange p q x.1 x.2).length ≤ 1 := by
    intro x hx
    by_cases hle : x.1 ≤ x.2
    · rw [((rangesCount_cutRange x.1 x.2 hpq).2.1 (h x hx) hle).2]; simp
    · simp [cutRange, hle]
  have hlen : r.ranges.length ≤ 2 := by
    unfold Assoc.ranges
    cases r.active <;> cases r.queued <;> simp
  rw [piecesOutside_eq, List.length_flatMap]
  calc (r.ranges.map (fun x => (cutRange p q x.1 x.2).length)).sum
      ≤ (r.ranges.map (fun x => (cutRange p q x.1 x.2).length)).length • 1 :=
        List.sum_le_card_nsmul _ 1 (fun n hn => by
          obtain ⟨x, hx, rfl⟩ := List.mem_map.1 hn
          exact hone x hx)
    _ ≤ 2 := by simpa using hlen

/-! ## The record behind the removal -/

/-- The first piece as the active range: the former one kept up to its end, or a new one (R21 step 3). -/
def Assoc.pieceActive (r : Assoc) (piece : Nat × Nat) : ActiveRange :=
  { start := match r.active with | some x => if x.next = piece.1 then x.start else piece.1 | none => piece.1,
    stop := piece.2, next := piece.1 }

/-- A record after an overlap removal (R21). -/
def Assoc.cut (r : Assoc) (p q : Nat) : Assoc :=
  let pieces := r.piecesOutside p q
  if rangesCount pieces = r.reservationCount then r
  else { r with
    active := pieces[0]?.map r.pieceActive,
    queued := pieces[1]?.map (fun y => { start := y.1, stop := y.2 }),
    acc := if pieces = [] ∨ r.active.map (·.next) = pieces.head?.map (·.1) then r.acc else 0 }

@[simp] theorem keepFirstPiece_assoc_self (a : Fin 64) (x : Nat × Nat) (s : State) :
    (keepFirstPiece a x s).assoc a = { s.assoc a with
      active := some ((s.assoc a).pieceActive x),
      acc := if (s.assoc a).active.map (·.next) = some x.1 then (s.assoc a).acc else 0 } := by
  unfold keepFirstPiece Assoc.pieceActive
  split
  · rename_i y hy
    split
    · rename_i h
      simp [hy, h]
    · rename_i h
      simp [hy, h]
  · rename_i hy
    simp [hy]

@[simp] theorem keepFirstPiece_assoc_ne {a b : Fin 64} (h : b ≠ a) (x : Nat × Nat) (s : State) :
    (keepFirstPiece a x s).assoc b = s.assoc b := by
  unfold keepFirstPiece
  (repeat' split) <;> simp [h]

@[simp] theorem overlapRemoval_assoc_self (a : Fin 64) (p q : Nat) (s : State) :
    (overlapRemoval a p q s).assoc a = (s.assoc a).cut p q := by
  unfold overlapRemoval Assoc.cut
  simp only
  split
  · rfl
  · simp only [assoc_report, assoc_bump]
    split
    · rename_i h
      simp [h]
    · rename_i x h
      simp [h, Assoc.pieceActive]
    · rename_i x y l h
      simp [h, Assoc.pieceActive]

@[simp] theorem overlapRemoval_assoc_ne {a b : Fin 64} (h : b ≠ a) (p q : Nat) (s : State) :
    (overlapRemoval a p q s).assoc b = s.assoc b := by
  unfold overlapRemoval
  simp only
  split
  · rfl
  · simp only [assoc_report, assoc_bump]
    split <;> simp [h]

/-- The ranges behind the removal are the first two pieces (R21). -/
theorem cut_ranges (r : Assoc) (p q : Nat) (h : rangesCount (r.piecesOutside p q) ≠ r.reservationCount) :
    (r.cut p q).ranges = (r.piecesOutside p q).take 2 := by
  unfold Assoc.cut Assoc.ranges
  simp only [if_neg h]
  rcases r.piecesOutside p q with _ | ⟨x, _ | ⟨y, l⟩⟩ <;> simp [Assoc.pieceActive]

/-- What the reservation holds behind the removal: the counters of the first two pieces. -/
theorem cut_reserves (r : Assoc) {p q : Nat} (hpq : p ≤ q) (n : Nat) :
    (r.cut p q).reserves n ↔ ∃ x ∈ (r.piecesOutside p q).take 2, x.1 ≤ n ∧ n ≤ x.2 := by
  by_cases h : rangesCount (r.piecesOutside p q) = r.reservationCount
  · have hcut : r.cut p q = r := by simp [Assoc.cut, h]
    rw [hcut, List.take_of_length_le (pieces_length_le r hpq h), pieces_counters r]
    have := (pieces_whole_iff r hpq).1 h n
    constructor
    · intro hn
      exact ⟨hn, by have := this hn; omega⟩
    · exact fun hn => hn.1
  · rw [reserves_iff, cut_ranges r p q h]

/-- In a record in order the pieces ascend, above u and at or below h. -/
theorem pieces_ascending {r : Assoc} (h : r.ordered) {p q : Nat} (hpq : p ≤ q) :
    (r.piecesOutside p q).Pairwise (fun x y => x.2 < y.1) ∧
      ∀ x ∈ r.piecesOutside p q, r.assigned < x.1 ∧ x.1 ≤ x.2 ∧ x.2 ≤ r.front := by
  obtain ⟨-, -, hx, hq, -⟩ := h
  rw [piecesOutside_eq]
  cases ha : r.active with
  | none =>
    have : r.queued = none := by
      cases hy : r.queued with
      | none => rfl
      | some y =>
        obtain ⟨-, -, x, hxa, -⟩ := hq y hy
        simp [ha] at hxa
    simp [Assoc.ranges, ha, this]
  | some x =>
    obtain ⟨h1, h2, h3⟩ := hx x ha
    obtain ⟨hp1, hb1⟩ := cutRange_ascending x.next x.stop hpq
    cases hy : r.queued with
    | none =>
      simp only [Assoc.ranges, ha, hy, Option.map_some, Option.map_none, Option.toList_some, Option.toList_none,
        List.append_nil, List.flatMap_cons, List.flatMap_nil]
      exact ⟨hp1, fun z hz => by obtain ⟨h4, h5, h6⟩ := hb1 z hz; omega⟩
    | some y =>
      obtain ⟨h4, h5, x', hx', h6⟩ := hq y hy
      rw [ha] at hx'
      cases hx'
      obtain ⟨hp2, hb2⟩ := cutRange_ascending y.start y.stop hpq
      simp only [Assoc.ranges, ha, hy, Option.map_some, Option.toList_some, List.cons_append, List.nil_append,
        List.flatMap_cons, List.flatMap_nil, List.append_nil]
      refine ⟨List.pairwise_append.2 ⟨hp1, hp2, fun z hz w hw => ?_⟩, fun z hz => ?_⟩
      · have := hb1 z hz
        have := hb2 w hw
        omega
      · rcases List.mem_append.1 hz with hz | hz
        · have := hb1 z hz
          omega
        · have := hb2 z hz
          omega

theorem sound_cut {r : Assoc} (h : r.sound) (hl : r.state = .live) {p q : Nat} (hpq : p ≤ q) : (r.cut p q).sound := by
  obtain ⟨hf, ho⟩ := h
  obtain ⟨he, hw, -⟩ := (inForm_live hl).1 hf
  obtain ⟨hasc, hin⟩ := pieces_ascending ho hpq
  obtain ⟨hu, hm, hx, hq, hv⟩ := ho
  unfold Assoc.cut
  simp only
  split
  · exact ⟨hf, hu, hm, hx, hq, hv⟩
  · rcases hp : r.piecesOutside p q with _ | ⟨x, _ | ⟨y, l⟩⟩
    · exact ⟨(inForm_live (by exact hl)).2 ⟨he, hw, by simp⟩, hu, hm, by simp, by simp, hv⟩
    · obtain ⟨h1, h2, h3⟩ := hin x (by simp [hp])
      exact ⟨(inForm_live (by exact hl)).2 ⟨he, hw, by simp⟩, hu, hm, by simp [Assoc.pieceActive, h1, h2]; exact h3, by simp, hv⟩
    · obtain ⟨h1, h2, h3⟩ := hin x (by simp [hp])
      obtain ⟨h4, h5, h6⟩ := hin y (by simp [hp])
      have h7 : x.2 < y.1 := by
        rw [hp] at hasc
        exact (List.pairwise_cons.1 hasc).1 y (by simp)
      exact ⟨(inForm_live (by exact hl)).2 ⟨he, hw, by simp⟩, hu, hm, by simp [Assoc.pieceActive, h1, h2]; exact h3,
        by simp [Assoc.pieceActive, h5, h7]; exact h6, hv⟩

end Sys2Proof.Machine
end

section
/-! SUPPORT. Delivered messages on a record (R17, R18, R20, R23), and that they keep the order of counters. -/

namespace Sys2Proof.Machine

/-! ## A claim won (R5, R17, R18) -/

/-- A record after its own claim [p, q] was won, before the rekey-point test (R5, R17). -/
def Assoc.won (r : Assoc) (p q : Nat) : Assoc :=
  { r with
    pendingClaim := false, hwm := some (max r.front q),
    active := match r.active with
      | none => some { start := p, stop := q, next := p }
      | some x => some x,
    queued := match r.active with
      | none => r.queued
      | some _ => some { start := p, stop := q },
    acc := match r.active with | none => 0 | some _ => r.acc }

@[simp] theorem queueRange_assoc_self (a : Fin 64) (p q : Nat) (s : State) :
    (queueRange a p q s).assoc a = { s.assoc a with queued := some { start := p, stop := q } } := by
  simp [queueRange]

@[simp] theorem queueRange_assoc_ne {a b : Fin 64} (h : b ≠ a) (p q : Nat) (s : State) :
    (queueRange a p q s).assoc b = s.assoc b := by
  simp [queueRange, h]

@[simp] theorem addRange_assoc_ne {a b : Fin 64} (h : b ≠ a) (p q : Nat) (s : State) :
    (addRange a p q s).assoc b = s.assoc b := by
  unfold addRange
  split <;> simp [h]

/-- An own claim won, up to the rekey-point test (R17). -/
def joinRange (a : Fin 64) (p q : Nat) (s : State) : State :=
  s.modAssoc a (fun r => { r with pendingClaim := false }) |> raiseFront a q |> addRange a p q |> bump a .claimsWon 1

theorem winClaim_eq (a : Fin 64) (p q : Nat) (s : State) : winClaim a p q s = rekeyPointTest a q (joinRange a p q s) := rfl

@[simp] theorem joinRange_assoc_self (a : Fin 64) (p q : Nat) (s : State) :
    (joinRange a p q s).assoc a = (s.assoc a).won p q := by
  unfold joinRange addRange Assoc.won
  cases ha : (s.assoc a).active <;> cases hq : (s.assoc a).queued <;> simp [ha, hq, Assoc.front]

@[simp] theorem joinRange_assoc_ne {a b : Fin 64} (h : b ≠ a) (p q : Nat) (s : State) :
    (joinRange a p q s).assoc b = s.assoc b := by
  simp [joinRange, h]

@[simp] theorem joinRange_frame (a : Fin 64) (p q : Nat) (s : State) :
    (joinRange a p q s).device = s.device ∧ (joinRange a p q s).time = s.time ∧ (joinRange a p q s).image = s.image ∧
    (joinRange a p q s).keys = s.keys ∧ (joinRange a p q s).bus = s.bus ∧ (joinRange a p q s).rack = s.rack ∧
    (joinRange a p q s).disp.park = s.disp.park ∧ (joinRange a p q s).station = s.station := by
  simp [joinRange]

/-- A record whose claim, behind the front, is won stays in order: the range lies above u, above the active range and at h. -/
theorem sound_won {r : Assoc} (h : r.sound) (hl : r.state = .live) {p q : Nat} (hp : p = r.front + 1) (hpq : p ≤ q)
    (hq : q ≤ max48) : (r.won p q).sound := by
  obtain ⟨hf, hu, hm, hx, -, hv⟩ := h
  obtain ⟨he, hw, hqa⟩ := (inForm_live hl).1 hf
  have hfront : (r.won p q).front = q := max_eq_right (by omega)
  refine ⟨(inForm_live (by exact hl)).2 ⟨he, by simp [Assoc.won], ?_⟩, ?_, ?_, ?_, ?_, hv⟩
  · cases ha : r.active <;> simp [Assoc.won, ha]
  · rw [hfront]; exact (hu.trans (by omega) : r.assigned ≤ q)
  · rw [hfront]; exact hq
  · intro x hxa
    rw [hfront]
    cases ha : r.active with
    | none =>
      simp only [Assoc.won, ha, Option.some.injEq] at hxa
      subst hxa
      exact ⟨by simp only [Assoc.won]; omega, hpq, le_rfl⟩
    | some y =>
      simp only [Assoc.won, ha, Option.some.injEq] at hxa
      subst hxa
      obtain ⟨h1, h2, h3⟩ := hx y ha
      exact ⟨h1, h2, by omega⟩
  · intro y hy
    rw [hfront]
    cases ha : r.active with
    | none =>
      have hqn : r.queued = none := by
        cases hq' : r.queued with
        | none => rfl
        | some z => simp [hq', ha] at hqa
      simp [Assoc.won, ha, hqn] at hy
    | some x =>
      simp only [Assoc.won, ha, Option.some.injEq] at hy
      subst hy
      obtain ⟨-, -, h3⟩ := hx x ha
      exact ⟨hpq, le_rfl, x, by simp [Assoc.won, ha], by simp only; omega⟩

/-- The rekey-point test finds its point (R18). -/
abbrev State.atRekeyPoint (s : State) (a : Fin 64) (q : Nat) : Prop :=
  s.limit a ≤ q + (s.assocDef a).margin ∧ (s.assoc a).rekeyRequested = false

/-- At the rekey point the flag is set, reported, and an advance requested (R18). -/
theorem rekeyPointTest_of_point {a : Fin 64} {q : Nat} {s : State} (h : s.atRekeyPoint a q) :
    rekeyPointTest a q s = requestAdvance a .rekey
      (report .rekeyPoint (some a) q 1 (s.modAssoc a (fun r => { r with rekeyRequested := true }))) := if_pos h

theorem rekeyPointTest_of_no_point {a : Fin 64} {q : Nat} {s : State} (h : ¬ s.atRekeyPoint a q) :
    rekeyPointTest a q s = s := if_neg h

theorem CountersOrdered.rekeyPointTest {s : State} (h : CountersOrdered s) (a : Fin 64) (q : Nat) :
    CountersOrdered (rekeyPointTest a q s) := by
  by_cases hp : s.atRekeyPoint a q
  · rw [rekeyPointTest_of_point hp]
    have hm : CountersOrdered (s.modAssoc a (fun r => { r with rekeyRequested := true })) := by
      refine h.modAssoc ⟨?_, h.2.1 a⟩ (fun hp => ⟨hp, .inr ⟨live_of_pendingClaim (h.1 a) hp, rfl⟩⟩)
      have hf := h.1 a
      cases hst : (s.assoc a).state <;> simp_all [Assoc.inForm]
    have hr : CountersOrdered (report .rekeyPoint (some a) q 1
      (s.modAssoc a (fun r => { r with rekeyRequested := true }))) := hm.same
    exact hr.requestAdvance a _
  · rw [rekeyPointTest_of_no_point hp]
    exact h

/-! ## Messages delivered, with no own message on the bus -/

theorem CountersOrdered.raiseFront {s : State} (h : CountersOrdered s) (hb : s.bus.onBus = none) {a : Fin 64}
    (hk : (s.assoc a).state.frontKnown = true) {v : Nat} (hv : v ≤ max48) : CountersOrdered (raiseFront a v s) :=
  h.modAssoc (sound_raised (h.sound a) hk hv) fun hp => ⟨hp, .inl hb⟩

theorem CountersOrdered.accumulate {s : State} (h : CountersOrdered s) (a : Fin 64) (n : Nat) :
    CountersOrdered (accumulate a n s) := by
  refine h.modAssoc ⟨?_, h.2.1 a⟩ (fun hp => ⟨hp, .inr ⟨live_of_pendingClaim (h.1 a) hp, rfl⟩⟩)
  have hf := h.1 a
  cases hst : (s.assoc a).state <;> simp_all [Assoc.inForm]

theorem cut_keeps (r : Assoc) (p q : Nat) : (r.cut p q).state = r.state ∧ (r.cut p q).pendingClaim = r.pendingClaim ∧
    (r.cut p q).hwm = r.hwm ∧ (r.cut p q).epoch = r.epoch ∧ (r.cut p q).assigned = r.assigned ∧
    (r.cut p q).level = r.level ∧ (r.cut p q).pendingAdvance = r.pendingAdvance := by
  unfold Assoc.cut
  simp only
  split <;> simp

theorem CountersOrdered.overlapRemoval {s : State} (h : CountersOrdered s) {a : Fin 64} (hl : (s.assoc a).state = .live)
    {p q : Nat} (hpq : p ≤ q) : CountersOrdered (overlapRemoval a p q s) := by
  obtain ⟨hst, hp, hw, -⟩ := cut_keeps (s.assoc a) p q
  refine (h.live_change hl (fun b hb => by simp [hb]) ?_ ?_).1
  · rw [overlapRemoval_assoc_self]; exact sound_cut (h.sound a) hl hpq
  · rw [overlapRemoval_assoc_self]; exact ⟨hst, hp, by simp [Assoc.front, hw]⟩

theorem CountersOrdered.overlapAdvanceTest {s : State} (h : CountersOrdered s) (a : Fin 64) (p : Nat) :
    CountersOrdered (overlapAdvanceTest a p s) := by
  unfold Machine.overlapAdvanceTest
  split
  · exact h.requestAdvance a _
  · exact h

theorem CountersOrdered.peerClaimInEpoch {s : State} (h : CountersOrdered s) (hb : s.bus.onBus = none) (a : Fin 64)
    {p q : Nat} (hpq : p ≤ q) (hq : q ≤ max48) : CountersOrdered (peerClaimInEpoch a p q s) := by
  fun_cases Machine.peerClaimInEpoch a p q s
  case case1 hl =>
    refine CountersOrdered.overlapAdvanceTest (CountersOrdered.overlapRemoval
      (CountersOrdered.accumulate (h.raiseFront hb (by simp [hl, AssocState.frontKnown]) hq) a _) ?_ hpq) a p
    simpa using hl
  case case2 hk =>
    exact CountersOrdered.overlapAdvanceTest
      (CountersOrdered.accumulate (h.raiseFront hb (by simp [hk, AssocState.frontKnown]) hq) a _) a p
  case case3 => exact h

theorem CountersOrdered.recordSettleView {s : State} (h : CountersOrdered s) {a : Fin 64}
    (hl : (s.assoc a).state.listening = true) (e : Nat) {v : Nat} (hv : v ≤ max48) :
    CountersOrdered (recordSettleView a e v s) := by
  obtain ⟨he, hw, hu, ha, hq, hp, hpa⟩ := inForm_listening hl (h.1 a)
  refine h.modAssoc ⟨?_, h.2.1 a |>.1, h.2.1 a |>.2.1, h.2.1 a |>.2.2.1, h.2.1 a |>.2.2.2.1, ?_⟩
    (fun hp' => by simp [hp] at hp')
  · cases hst : (s.assoc a).state <;> simp_all [Assoc.inForm, AssocState.listening]
  · intro w hw'
    have hold := (h.2.1 a).2.2.2.2
    simp only at hw'
    split at hw'
    · cases hw'; exact hv
    · rename_i w' hw''
      have := hold w' hw''
      split at hw'
      · cases hw'; exact hv
      split at hw'
      · cases hw'; exact max_le this hv
      · cases hw'; exact this

theorem CountersOrdered.countLate {s : State} (h : CountersOrdered s) (a : Fin 64) (e : Nat) :
    CountersOrdered (countLate a e s) := h.same

/-- With no own message on the bus none is there after an advance. -/
theorem advanceReaches_onBus_none {s : State} (hb : s.bus.onBus = none) (a : Fin 64) (e : Nat) (x : AdvanceReason) (i : Nat) :
    (advanceReaches a e x i s).bus.onBus = none := by
  have hadv : ∀ (x : AdvanceReason) (u : State), u.bus.onBus = none → (requestAdvance a x u).bus.onBus = none := by
    intro x u hu
    fun_cases requestAdvance a x u
    case case2 => simp [retire_bus, retireRecord, cancelClaim_onBus, hu]
    all_goals simp [hu]
  have hent : (enterEpoch a e x i s).bus.onBus = none := by
    simp [enterEpoch_bus, resetRecordForEpoch_bus, cancelClaim_onBus, hb]
  unfold advanceReaches
  split
  · rw [applyAdvance_eq]
    split
    · fun_cases requestClaim a (enterEpoch a e x i s)
      case case4 => exact hadv _ _ hent
      all_goals simp [hent]
    · exact hent
  · exact hb

theorem CountersOrdered.peerClaim {s : State} (h : CountersOrdered s) (hb : s.bus.onBus = none) (a : Fin 64) {p q : Nat}
    (e : Nat) (x : BitVec 3) (hpq : p ≤ q) (hq : q ≤ max48) : CountersOrdered (peerClaim a p q e x s) := by
  fun_cases Machine.peerClaim a p q e x s
  case case1 hl => exact h.recordSettleView hl e hq
  case case2 s1 _ =>
    exact CountersOrdered.peerClaimInEpoch (h.advanceReaches a e _ _) (advanceReaches_onBus_none hb a e _ _) a hpq hq
  case case3 s1 _ => exact CountersOrdered.countLate (h.advanceReaches a e _ _) a e

theorem CountersOrdered.beaconDelivered {s : State} (h : CountersOrdered s) (hb : s.bus.onBus = none) (a : Fin 64) (e : Nat)
    {v : Nat} (x : BitVec 3) (hv : v ≤ max48) : CountersOrdered (beaconDelivered a e v x s) := by
  fun_cases Machine.beaconDelivered a e v x s
  case case1 hl => exact h.recordSettleView hl e hv
  case case2 s1 _ hk =>
    exact CountersOrdered.raiseFront (h.advanceReaches a e _ _) (advanceReaches_onBus_none hb a e _ _) hk hv
  case case3 s1 _ _ => exact h.advanceReaches a e _ _
  case case4 s1 _ => exact CountersOrdered.countLate (h.advanceReaches a e _ _) a e

theorem CountersOrdered.advanceDelivered {s : State} (h : CountersOrdered s) (a : Fin 64) (e : Nat) (r : AdvanceReason)
    (x : BitVec 3) : CountersOrdered (advanceDelivered a e r x s) := by
  unfold Machine.advanceDelivered
  split
  · rename_i hl
    exact h.recordSettleView hl e (Nat.zero_le _)
  · exact h.advanceReaches a e r _

/-! ## An own claim delivered -/

/-- What the order of counters needs of an own claim that comes back: it is withdrawn, or begins right behind the front of a LIVE
record that no longer has an entry for it. -/
def State.claimsRightBehind (s : State) (a : Fin 64) (p : Nat) : Prop :=
  p = (s.assoc a).front + 1 ∧ { kind := .claim, assoc := a } ∉ s.bus.txList

theorem CountersOrdered.winClaim {s : State} (h : CountersOrdered s) (hb : s.bus.onBus = none) {a : Fin 64} {p q : Nat}
    (hl : (s.assoc a).state = .live) (hp : s.claimsRightBehind a p) (hpq : p ≤ q) (hq : q ≤ max48) :
    CountersOrdered (winClaim a p q s) := by
  rw [winClaim_eq]
  have hbus : (joinRange a p q s).bus = s.bus := by simp
  refine CountersOrdered.rekeyPointTest (h.change a (fun b hb => by simp [hb]) ?_
    (keepsClaims_of_bus (by rw [hbus]) (by rw [hbus])) (.inl ⟨by rw [hbus]; exact hp.2, by simp [hb]⟩)) a q
  rw [joinRange_assoc_self]
  exact sound_won (h.sound a) hl hp.1 hpq hq

theorem CountersOrdered.ownClaim {s : State} (h : CountersOrdered s) (hb : s.bus.onBus = none) (a : Fin 64) {p q : Nat}
    (e : Nat) (w : Bool) (hp : w = false → (s.assoc a).state = .live → s.claimsRightBehind a p) (hpq : p ≤ q)
    (hq : q ≤ max48) : CountersOrdered (ownClaim a p q e w s) := by
  fun_cases Machine.ownClaim a p q e w s
  case case1 hc => exact h.winClaim hb hc.2.1 (hp hc.2.2 hc.2.1) hpq hq
  case case2 hc => exact h.raiseFront hb hc.2 hq
  case case3 => exact h.countLate a e

/-! ## The end of a bus message -/

/-- The counters of a valid claim: it begins at one or above and ends at or behind its start, within 48 bits (R205). -/
theorem claim_valid {epoch : BitVec 16} {start : BitVec 48} {count : BitVec 24}
    (h : (MsgContent.claim epoch start count).valid = true) :
    1 ≤ start.toNat ∧ 1 ≤ count.toNat ∧ start.toNat ≤ start.toNat + count.toNat - 1 ∧
      start.toNat + count.toNat - 1 ≤ max48 ∧ count.toNat ≤ 8388608 := by
  simp only [MsgContent.valid, Bool.and_eq_true, bne_iff_ne, ne_eq, decide_eq_true_eq] at h
  obtain ⟨⟨⟨⟨-, hs⟩, hc⟩, hm⟩, hq⟩ := h
  have hs : start.toNat ≠ 0 := fun h => hs (BitVec.eq_of_toNat_eq (by simpa using h))
  have hc : count.toNat ≠ 0 := fun h => hc (BitVec.eq_of_toNat_eq (by simpa using h))
  omega

/-- A message heard cancels one entry of the transmit list at most (R37). -/
theorem cancelByMessage_cases (own : Bool) (m : BusMessage) (s : State) :
    cancelByMessage own m s = s ∨ ∃ k a, cancelByMessage own m s = removeTx k a s := by
  fun_cases cancelByMessage own m s
  case case1 => exact .inr ⟨_, _, rfl⟩
  case case4 => exact .inr ⟨_, _, rfl⟩
  case case7 => exact .inr ⟨_, _, rfl⟩
  all_goals exact .inl rfl

theorem CountersOrdered.cancelByMessage {s : State} (h : CountersOrdered s) (own : Bool) (m : BusMessage) :
    CountersOrdered (cancelByMessage own m s) := by
  refine h.keep ?_
  rcases cancelByMessage_cases own m s with he | ⟨k, a, he⟩ <;> rw [he]
  · exact keepsClaims_of_bus rfl rfl
  · exact keepsClaims_removeTx k a s

theorem keepsClaims_scheduleBeacons (s : State) : KeepsClaims s (scheduleBeacons s) := by
  unfold scheduleBeacons
  refine List.foldlRecOn (motive := fun u => KeepsClaims s u) _ _ (keepsClaims_of_bus rfl rfl) (fun u hu a _ => ?_)
  split
  · exact hu.trans (keepsClaims_requestTx (by simp) a u)
  · exact hu

/-- A delivered message keeps the order of counters when no own message is on the bus any more, and an own claim begins right
behind the front. -/
theorem CountersOrdered.applyMessage {s : State} (h : CountersOrdered s) (hb : s.bus.onBus = none) (own w : Bool)
    (m : BusMessage)
    (hp : own = true → w = false → ∀ epoch start count, m.content = .claim epoch start count → 1 ≤ start.toNat →
      (s.assoc m.target).state = .live → s.claimsRightBehind m.target start.toNat) :
    CountersOrdered (applyMessage own w m s) := by
  have hc := h.cancelByMessage own m
  have hcb : (Machine.cancelByMessage own m s).bus.onBus = none := by simp [hb]
  have hct : ∀ x, x.kind = .claim → (x ∈ (Machine.cancelByMessage own m s).bus.txList → x ∈ s.bus.txList) := by
    intro x hx
    rcases cancelByMessage_cases own m s with he | ⟨k, a, he⟩ <;> rw [he]
    · exact id
    · exact fun hm => (mem_removeTx.1 hm).1
  have hca : ∀ b, (Machine.cancelByMessage own m s).assoc b = s.assoc b := fun b => assoc_eq_of_assocs (by simp) b
  unfold Machine.applyMessage
  generalize Machine.cancelByMessage own m s = u at hc hcb hct hca
  fun_cases handMessage own w m u
  case case1 => exact hc.keep (keepsClaims_scheduleBeacons u)
  case case3 => exact hc.advanceDelivered _ _ _ _
  case case5 epoch hwm _ _ => exact hc.beaconDelivered hcb _ _ _ (Nat.le_sub_one_of_lt hwm.isLt)
  case case7 epoch start count hm hv ho =>
    obtain ⟨h1, h2, h3, h4, -⟩ := claim_valid (hm ▸ hv.2)
    refine hc.ownClaim hcb _ _ w (fun hw hl => ?_) h3 h4
    obtain ⟨h5, h6⟩ := hp ho hw epoch start count hm h1 (by rw [← hca]; exact hl)
    exact ⟨by rw [hca]; exact h5, fun hx => h6 (hct _ rfl hx)⟩
  case case8 epoch start count hm hv ho =>
    obtain ⟨h1, h2, h3, h4, -⟩ := claim_valid (hm ▸ hv.2)
    exact hc.peerClaim hcb _ _ _ h3 h4
  all_goals exact hc

theorem CountersOrdered.clearOnBus {s : State} (h : CountersOrdered s) : CountersOrdered (clearOnBus s) :=
  h.keep ⟨fun _ hb => hb, fun _ ho => by simp [Machine.clearOnBus] at ho⟩ rfl

theorem CountersOrdered.asReceiver {s : State} (h : CountersOrdered s) (hb : s.bus.onBus = none) (m : BusMessage)
    (crcOk : Bool) (x : BusOutcome) : CountersOrdered (asReceiver m crcOk x s) := by
  have h1 : CountersOrdered (if x = .voidByError then bumpBus .busVoids s else s) := by split <;> exact h.same
  have hb1 : (if x = .voidByError then bumpBus .busVoids s else s).bus.onBus = none := by split <;> simpa using hb
  unfold Machine.asReceiver
  simp only
  generalize (if x = .voidByError then bumpBus .busVoids s else s) = u at h1 hb1
  split
  · exact h1.same
  split
  · have h2 : CountersOrdered (errorDown u) := h1.same
    exact h2.applyMessage (by simpa using hb1) false false m (by simp)
  · exact h1

/-- An own message delivered: it has left the bus, and an own claim that counts comes back right behind the front (R15, R17). -/
theorem CountersOrdered.ownDelivered {s : State} (h : CountersOrdered s) {o : OwnMessage} (ho : s.bus.onBus = some o) :
    CountersOrdered (ownDelivered o s) := by
  unfold Machine.ownDelivered
  simp only
  have h2 : CountersOrdered (if o.withdrawn then Machine.clearOnBus s
      else removeTx o.message.content.kind o.message.target (Machine.clearOnBus s)) := by
    split
    · exact h.clearOnBus
    · exact h.clearOnBus.keep (keepsClaims_removeTx _ _ _)
  have hb2 : (if o.withdrawn then Machine.clearOnBus s
      else removeTx o.message.content.kind o.message.target (Machine.clearOnBus s)).bus.onBus = none := by
    split <;> simp [Machine.clearOnBus]
  have ht2 : o.withdrawn = false → { kind := o.message.content.kind, assoc := o.message.target } ∉
      (if o.withdrawn then Machine.clearOnBus s
        else removeTx o.message.content.kind o.message.target (Machine.clearOnBus s)).bus.txList := by
    intro hw
    simp [hw, mem_removeTx]
  have ha2 : ∀ b, (if o.withdrawn then Machine.clearOnBus s
      else removeTx o.message.content.kind o.message.target (Machine.clearOnBus s)).assoc b = s.assoc b := by
    intro b
    split
    · rfl
    · simp only [assoc_removeTx]; rfl
  generalize (if o.withdrawn then Machine.clearOnBus s
      else removeTx o.message.content.kind o.message.target (Machine.clearOnBus s)) = u at h2 hb2 ht2 ha2
  have h3 : CountersOrdered (errorDown (if o.message.content.kind = .claim then { u with bus := { u.bus with noAck := 0 } }
      else u)) := by
    split <;> exact h2.same
  refine h3.applyMessage (by split <;> simpa using hb2) true o.withdrawn o.message (fun _ hw e p c hm h1 hl => ?_)
  have hk : o.message.content.kind = .claim := by rw [hm]; rfl
  have hlive := h.2.2.1 o ho hw e p c hm
  have hmax := (h.2.1 o.message.target).2.1
  refine ⟨?_, ?_⟩
  · have hp : p.toNat = (s.assoc o.message.target).front + 1 := by
      have := hlive.2.2
      rw [this, BitVec.toNat_ofNat] at h1 ⊢
      by_cases hf : (s.assoc o.message.target).front = max48
      · rw [hf] at h1; simp at h1
      · exact Nat.mod_eq_of_lt (Nat.succ_lt_succ (lt_of_le_of_ne hmax hf))
    have : (errorDown (if o.message.content.kind = .claim then { u with bus := { u.bus with noAck := 0 } }
      else u)).assoc o.message.target = s.assoc o.message.target := by
      rw [assoc_errorDown, ← ha2]
      split <;> rfl
    rw [this, hp]
  · have := ht2 hw
    rw [hk] at this
    simpa [hk] using this

theorem CountersOrdered.messageCompletes {s : State} (h : CountersOrdered s) (m : BusMessage) (e : BusEnding) :
    CountersOrdered (messageCompletes m e s) := by
  have h0 : CountersOrdered { s with bus := { s.bus with idleSeen := true } } := h.same
  have hvoid : ∀ u, CountersOrdered u → CountersOrdered (ownVoid u) := fun u hu => by
    have h1 : CountersOrdered (bumpBus .busVoids (oweBackoff (Machine.clearOnBus u))) := hu.clearOnBus.same
    exact h1.same (by simp [ownVoid]) (by simp [ownVoid]) (by simp [ownVoid])
  have hlose : ∀ o u, CountersOrdered u → CountersOrdered (loseArbitration o u) ∧ (loseArbitration o u).bus.onBus = none := by
    intro o u hu
    unfold loseArbitration
    simp only
    split
    · exact ⟨CountersOrdered.same hu.clearOnBus, by simp [Machine.clearOnBus]⟩
    · exact ⟨hu.clearOnBus, rfl⟩
  have hob : ({ s with bus := { s.bus with idleSeen := true } } : State).bus.onBus = s.bus.onBus := rfl
  unfold Machine.messageCompletes
  simp only
  generalize ({ s with bus := { s.bus with idleSeen := true } } : State) = s0 at h0 hob
  generalize busPart s.bus.onBus m e.startRead e.crc = part
  generalize decideOutcome _ _ _ _ = outcome
  rw [← hob]
  split
  · rename_i o ho
    unfold asSender
    split
    · exact h0.ownDelivered ho
    · exact hvoid _ h0
    · unfold ownNoAck
      simp only
      split <;> exact CountersOrdered.same h0.clearOnBus
  · exact hvoid _ h0
  · rename_i o _ _ _
    obtain ⟨hl, hb⟩ := hlose o s0 h0
    exact hl.asReceiver hb m _ _
  · rename_i ho
    exact CountersOrdered.asReceiver (CountersOrdered.same h0) (by simpa using ho) m _ _

/-! ## An attempt (R15, R16, R35) -/

theorem CountersOrdered.attempt {s : State} (h : CountersOrdered s) (hb : s.bus.onBus = none) (n : Nat) :
    CountersOrdered (attempt n s) := by
  have hbegin : ∀ {u : State}, CountersOrdered u → ∀ m : BusMessage,
      (∀ epoch start count, m.content = .claim epoch start count → (u.assoc m.target).state = .live ∧
        (u.assoc m.target).pendingClaim = true ∧ start = BitVec.ofNat 48 ((u.assoc m.target).front + 1)) →
      CountersOrdered (beginMessage m u) := by
    intro u hu m hm
    refine ⟨hu.1, hu.2.1, fun o ho _ => ?_, hu.2.2.2⟩
    simp only [beginMessage, Option.some.injEq] at ho
    subst ho
    exact hm
  have hadv : ∀ (a : Fin 64) (x : AdvanceReason) (u : State), u.bus.onBus = none →
      (Machine.requestAdvance a x u).bus.onBus = none := by
    intro a x u hu
    fun_cases Machine.requestAdvance a x u
    case case2 => simp [retire_bus, retireRecord, cancelClaim_onBus, hu]
    all_goals simp [hu]
  induction n generalizing s with
  | zero => exact h
  | succ n ih =>
    rw [Machine.attempt]
    split
    · exact h
    · rename_i e rest he
      split
      · split
        · exact hbegin h _ (by simp [State.message, PendingAdvance.content])
        · exact ih (h.keep (keepsClaims_removeTx _ _ _)) (by simpa using hb)
      · rename_i hk
        have hin : { kind := .claim, assoc := e.assoc } ∈ s.bus.txList := by rw [he]; cases e; simp_all
        have hp := h.2.2.2 e.assoc hin
        split
        · have hc : CountersOrdered (cancelClaim e.assoc s) := by
            refine h.change e.assoc (fun b hb => by simp [hb]) ?_ (keepsClaims_cancelClaim _ _)
              (.inl (claimGone_cancelClaim _ _))
            have hl := live_of_pendingClaim (h.1 e.assoc) hp
            rw [cancelClaim_assoc_self]
            exact ⟨(inForm_live (by exact hl)).2 ((inForm_live hl).1 (h.1 e.assoc)), h.2.1 e.assoc⟩
          exact ih (hc.requestAdvance _ _) (hadv _ _ _ (by simp [cancelClaim_onBus, hb]))
        · refine hbegin h _ (fun epoch start count hm => ?_)
          have ht : (s.message e.assoc (s.claimContent e.assoc)).target = e.assoc := by
            simp [State.message, BusMessage.target]
          rw [ht]
          simp only [State.message, State.claimContent, MsgContent.claim.injEq] at hm
          exact ⟨live_of_pendingClaim (h.1 e.assoc) hp, hp, hm.2.1.symm⟩
      · split
        · exact hbegin h _ (by simp [State.message])
        · exact ih (h.keep (keepsClaims_removeTx _ _ _)) (by simpa using hb)
      · exact hbegin h _ (by simp [State.message])

end Sys2Proof.Machine
end

section
/-! The step keeps every record in the form of its state and its counters in order. -/

namespace Sys2Proof.Machine

/-! ## The commands that reach records by another way than a message or a dispatch -/

theorem CountersOrdered.finishEvent {s : State} (h : CountersOrdered s) (before : State) :
    CountersOrdered (finishEvent before s) := h.same

/-- Sound records and a bus with no claim are in order. -/
theorem countersOrdered_of_idle {s : State} (ha : ∀ a, (s.assoc a).sound) (ht : ∀ e ∈ s.bus.txList, e.kind ≠ .claim)
    (ho : s.bus.onBus = none) : CountersOrdered s :=
  ⟨fun a => (ha a).1, fun a => (ha a).2, by simp [ho], fun _ hb => absurd rfl (ht _ hb)⟩

theorem sound_reset : Assoc.reset.sound := by
  refine ⟨by simp [Assoc.reset, Assoc.inForm], ordered_of_empty rfl rfl ?_ ?_ ?_⟩ <;> simp [Assoc.reset, Assoc.front]

theorem sound_toDormant (r : Assoc) : r.toDormant.sound := by
  refine ⟨by simp [Assoc.toDormant, Assoc.inForm], ordered_of_empty rfl rfl ?_ ?_ ?_⟩ <;>
    simp [Assoc.toDormant, Assoc.front]

/-- A DORMANT record at entry to SETTLING (R191). -/
theorem sound_atSettle {r : Assoc} (h : r.sound) (hd : r.state = .dormant) (d : AssocDef) : (r.atSettle d).sound := by
  obtain ⟨he, hw, hu, ha, hq, hp, hpa⟩ := inForm_listening (by simp [hd, AssocState.listening]) h.1
  refine ⟨?_, ordered_of_empty ha hq ?_ ?_ ?_⟩
  · unfold Assoc.atSettle
    split <;> simp_all [Assoc.inForm]
  · simp [Assoc.atSettle, hu]
  · simp [Assoc.atSettle, Assoc.front, hw]
  · simp [Assoc.atSettle]

theorem countersOrdered_reset : CountersOrdered State.reset :=
  countersOrdered_of_idle (fun a => by simpa [State.reset, State.assoc] using sound_reset) (by simp [State.reset, Bus.reset]) rfl

/-- A part that is neither SETTLING nor RUNNING has DORMANT records and an empty bus controller. -/
theorem HoldsNothing.idle {s : State} (h : HoldsNothing s) :
    (∀ a, (s.assoc a).state = .dormant) ∧ s.bus.txList = [] ∧ s.bus.onBus = none := by
  obtain ⟨hd, -, -, -, -, -, -, -, -, -, -, -, -, -, -, ht, ho, -⟩ := h
  exact ⟨hd, ht, ho⟩

theorem CountersOrdered.checkImage {s : State} (h : CountersOrdered s) (hn : HoldsNothing s) :
    CountersOrdered (checkImage s) := by
  obtain ⟨hd, ht, ho⟩ := hn.idle
  unfold Machine.checkImage
  split
  · exact h.same (by simp [halt]) (by simp [halt]) (by simp [halt])
  · refine countersOrdered_of_idle (fun a => ?_) ?_ ?_
    · have : (loadComplete s.readBuffer s).assoc a = (s.assoc a).atSettle (parseImage s.readBuffer).defs[a] := by
        simp [loadComplete, State.assoc]
      rw [this]
      exact sound_atSettle (h.sound a) (hd a) _
    · intro e he
      have : e = { kind := .join, assoc := 0 } := by simpa [loadComplete, requestTx, ht, txInsert] using he
      simp [this]
    · simp [loadComplete, ho]

theorem CountersOrdered.placeAll {s : State} (h : CountersOrdered s) : CountersOrdered (placeAll s) := by
  unfold Machine.placeAll
  refine List.foldlRecOn (motive := CountersOrdered) _ _ h (fun u hu a _ => ?_)
  split
  · rename_i hs
    exact hu.place (by simp [hs, AssocState.listening])
  · exact hu

theorem CountersOrdered.postSettlingMarks {s : State} (h : CountersOrdered s) : CountersOrdered (postSettlingMarks s) := by
  unfold Machine.postSettlingMarks
  refine List.foldlRecOn (motive := CountersOrdered) _ _ h (fun u hu a _ => ?_)
  split
  · exact hu.same
  · exact hu

/-- Zeroization leaves every record DORMANT and the bus controller empty (R197). -/
theorem countersOrdered_zeroizeSequence (s : State) : CountersOrdered (zeroizeSequence s) := by
  refine countersOrdered_of_idle (fun a => ?_) (by simp [zeroizeSequence, zeroizeStep3, zeroizeStep4, zeroizeStep5])
    (by simp [zeroizeSequence, zeroizeStep3, zeroizeStep4, zeroizeStep5])
  have : (zeroizeSequence s).assoc a = ((zeroizeStep2 (zeroizeStep1 s)).assoc a).toDormant := by
    simp [zeroizeSequence, zeroizeStep3, zeroizeStep4, zeroizeStep5, State.assoc]
  rw [this]
  exact sound_toDormant _

theorem CountersOrdered.zeroizeRequest {s : State} (h : CountersOrdered s) : CountersOrdered (zeroizeRequest s) := by
  unfold Machine.zeroizeRequest
  split
  · exact h
  split
  · exact h
  · exact h.same rfl rfl rfl
  · exact countersOrdered_zeroizeSequence _

theorem CountersOrdered.keyCheckFailure {s : State} (h : CountersOrdered s) (r : SlotRef) :
    CountersOrdered (keyCheckFailure r s) := by
  have hw : CountersOrdered (wipeSlot r s) := h.same
  have hf : CountersOrdered (failedKeyState r.assoc (s.slot r).role (wipeSlot r s)) := by
    unfold failedKeyState
    split
    · rename_i hc
      exact hw.loseCurrentKey hc.2
    · exact hw
  exact hf.same (by simp [Machine.keyCheckFailure]) (by simp [Machine.keyCheckFailure]) (by simp [Machine.keyCheckFailure])

/-! ## The command engine -/

theorem CountersOrdered.placeReply {o : CommandOutcome} (h : CountersOrdered o.state) (data : List Byte) :
    CountersOrdered (placeReply data o) := h.same

theorem CountersOrdered.runCommand {s : State} (h : CountersOrdered s) (code : Byte) (rule : List Byte → State → CommandOutcome)
    (hr : ∀ body, CountersOrdered (rule body s).state) : CountersOrdered (runCommand code rule s) := by
  unfold Machine.runCommand
  split
  · refine CountersOrdered.finishEvent (CountersOrdered.placeReply ?_ _) s
    split
    · exact hr _
    · exact h
  · exact h

theorem CountersOrdered.onAssoc {s : State} (h : CountersOrdered s) (rule : Fin 64 → State → CommandOutcome) (body : List Byte)
    (hr : ∀ a, CountersOrdered (rule a s).state) : CountersOrdered (onAssoc rule body s).state := by
  unfold Machine.onAssoc
  split
  · exact hr _
  · exact h

theorem CountersOrdered.installRule {s : State} (h : CountersOrdered s) (body : List Byte) (a : Fin 64) :
    CountersOrdered (installRule body a s).state := by
  unfold Machine.installRule
  simp only
  split
  · exact h
  · have hu : CountersOrdered (setUnwrapStore (unwrapInstall s.engine.wrapKey body).key s) := h.same
    have hd := hu.decideInstall a (unwrapInstall s.engine.wrapKey body)
    have h0 : CountersOrdered (setUnwrapStore 0 (Machine.decideInstall a (unwrapInstall s.engine.wrapKey body)
      (setUnwrapStore (unwrapInstall s.engine.wrapKey body).key s)).state) := hd.same
    unfold installDecided
    simp only
    split
    · simp only [answer]
      split
      · exact h0.same
      · exact h0
    · exact h0

theorem CountersOrdered.advanceEpochRule {s : State} (h : CountersOrdered s) (a : Fin 64) :
    CountersOrdered (advanceEpochRule a s).state := by
  unfold Machine.advanceEpochRule
  split
  · exact h.requestAdvance a _
  · exact h

theorem CountersOrdered.retireSaRule {s : State} (h : CountersOrdered s) (a : Fin 64) :
    CountersOrdered (retireSaRule a s).state := by
  unfold Machine.retireSaRule
  split
  · exact h
  · exact CountersOrdered.same (h.retire a false) (by simp [answer]) (by simp [answer]) (by simp [answer])

/-- An event that touches neither records nor the bus. -/
theorem CountersOrdered.event {s u : State} (h : CountersOrdered s) (ha : u.assocs = s.assocs := by simp)
    (ht : u.bus.txList = s.bus.txList := by simp) (ho : u.bus.onBus = s.bus.onBus := by simp) :
    CountersOrdered (Machine.finishEvent s u) := (h.same ha ht ho).finishEvent s

theorem CountersOrdered.quiesceAll {s : State} (h : CountersOrdered s) (mask : Byte) (l : List (Fin 8)) :
    CountersOrdered (l.foldl (quiesceOne mask) s) :=
  List.foldlRecOn (motive := CountersOrdered) _ _ h fun _ hu _ _ => hu.same

theorem CountersOrdered.quiesceRule {s : State} (h : CountersOrdered s) (body : List Byte) :
    CountersOrdered (quiesceRule body s).state := by
  unfold Machine.quiesceRule
  simp only
  split
  · exact h
  · exact h.quiesceAll _ _

theorem CountersOrdered.resumeRule {s : State} (h : CountersOrdered s) (body : List Byte) :
    CountersOrdered (resumeRule body s).state := by
  unfold Machine.resumeRule
  simp only
  split
  · exact h
  · exact h.same (by simp [answer]) (by simp [answer]) (by simp [answer])

theorem CountersOrdered.readStatusRule {s : State} (h : CountersOrdered s) (body : List Byte) :
    CountersOrdered (readStatusRule body s).state := by
  unfold Machine.readStatusRule
  simp only
  split
  · exact h
  · exact h.same

theorem CountersOrdered.moveSegmentsRule {s : State} (h : CountersOrdered s) (body : List Byte) :
    CountersOrdered (moveSegmentsRule body s).state := by
  fun_cases Machine.moveSegmentsRule body s
  case case1 | case2 | case4 => exact h
  case case3 => exact h.same rfl rfl rfl

theorem CountersOrdered.writeSegmentsRule {s : State} (h : CountersOrdered s) (data : List Byte) :
    CountersOrdered (writeSegmentsRule data s) := by
  unfold Machine.writeSegmentsRule
  split
  · exact h.placeReply (o := refuseCommand .refusedFormat 0 s) data
  split
  · exact h.placeReply (o := refuseCommand .refusedRange 0 s) data
  · unfold writeNext
    simp only
    split
    · exact CountersOrdered.same h
    · exact CountersOrdered.same h (by simp [answer]) (by simp [answer]) (by simp [answer])

/-! ## One command, and the step -/

/-- Every command keeps the order of counters. -/
theorem CountersOrdered.exec {s t : State} (he : ErasedOutsideWork s) (h : CountersOrdered s) (i : Instr)
    (ht : exec i s = .next t) : CountersOrdered t := by
  cases i <;> simp only [Machine.exec] at ht
  case deviceReset =>
    cases ht
    exact countersOrdered_reset.same rfl rfl rfl
  case loadingStart straps =>
    cases ht
    split
    · exact h.same rfl rfl rfl
    · exact h
  case imageReadDone memory =>
    cases ht
    split
    · rename_i hd
      have hn : HoldsNothing (readImage memory s) := he (by simp [hd, DeviceState.working])
      have h1 : CountersOrdered (readImage memory s) := h.same rfl rfl rfl
      exact (h1.checkImage hn).finishEvent s
    · exact h
  case settleTimerExpiry =>
    cases ht
    split
    · have hr : CountersOrdered (enterRunning s) :=
        CountersOrdered.keep (s := { s with device := .running, bus := { s.bus with settleTimer := none } })
          (h.same rfl rfl rfl) (keepsClaims_removeTx _ _ _) (ha := by simp [enterRunning])
      have hp : CountersOrdered (postSettled (Machine.postSettlingMarks (Machine.placeAll (enterRunning s)))) :=
        CountersOrdered.same hr.placeAll.postSettlingMarks (by simp [postSettled]) (by simp [postSettled])
          (by simp [postSettled])
      exact hp.finishEvent s
    · exact h
  case zeroizePinRequest =>
    cases ht
    split
    · exact h
    · exact h.zeroizeRequest.finishEvent s
  case zeroizeComplete =>
    cases ht
    split
    · exact CountersOrdered.finishEvent (h.same (by simp [zeroizeStep6]) (by simp [zeroizeStep6]) (by simp [zeroizeStep6])) s
    · exact h
  case busAttemptStart bits =>
    cases ht
    split
    · rename_i hm
      have hb : s.bus.onBus = none := by
        simp only [State.mayAttempt, Bool.and_eq_true] at hm
        simpa using hm.1.1.2
      exact (h.attempt hb _).finishEvent s
    · exact h
  case claim | beacon | advance | join =>
    cases ht
    unfold busMessage
    split
    · exact (h.messageCompletes _ _).finishEvent s
    · exact h
  case dispatch =>
    cases ht
    split
    · split
      · exact (h.dispatchCandidate _).finishEvent s
      · exact h
    · exact h
  case keyTakeUp l u =>
    cases ht
    split
    · simp only
      split
      · exact CountersOrdered.finishEvent (CountersOrdered.same h) s
      · exact CountersOrdered.finishEvent (CountersOrdered.keyCheckFailure (CountersOrdered.same h) _) s
    · exact h
  case installKey =>
    cases ht
    exact h.runCommand _ _ fun body => h.onAssoc _ _ fun a => h.installRule body a
  case advanceEpoch =>
    cases ht
    exact h.runCommand _ _ fun body => h.onAssoc _ _ fun a => h.advanceEpochRule a
  case retireSa =>
    cases ht
    exact h.runCommand _ _ fun body => h.onAssoc _ _ fun a => h.retireSaRule a
  case zeroize =>
    cases ht
    split
    · refine CountersOrdered.finishEvent ?_ s
      split
      · unfold zeroizeCommand
        split
        · exact (h.placeReply _ (o := answer .accepted 0 s)).zeroizeRequest
        · exact CountersOrdered.zeroizeRequest (CountersOrdered.same h)
      · exact h.placeReply _ (o := refuseCommand .refusedFormat 0 s)
    · exact h
  case rackFrameReceived | inboundFrameReceived =>
    cases ht
    split
    · split
      · exact h.event
      · exact h.event
    · exact h
  case rackPauseTimerExpiry | campusPauseTimerExpiry =>
    cases ht
    split
    · exact h
    · exact h.event
  case statusFrameDue =>
    cases ht
    split
    · exact h.event
    · exact h
  case pauseRepeatTimerExpiry | rackTransmitDone | parkTimeout | laneFinish | clearPassDone | campusFrameSent | scanStep =>
    cases ht
    split
    · exact h.event
    · exact h
  case commandFrameCheck =>
    cases ht
    split
    · split
      · exact h.event (by simp [admitCommand]) (by simp [admitCommand]) (by simp [admitCommand])
      · exact h.event (by simp [dropUnauthentic]) (by simp [dropUnauthentic]) (by simp [dropUnauthentic])
    · exact h
  case unknownCommand =>
    cases ht
    split
    · split
      · exact h
      · exact (h.placeReply (o := refuseCommand .refusedUnknown 0 s) _).finishEvent s
    · exact h
  case writeSegments =>
    cases ht
    split
    · exact (h.writeSegmentsRule _).finishEvent s
    · exact h
  case moveSegments =>
    cases ht
    exact h.runCommand _ _ h.moveSegmentsRule
  case flushSa =>
    cases ht
    exact h.runCommand _ _ fun body => h.onAssoc _ _ fun a => h.same (by simp [flushSaRule, answer])
      (by simp [flushSaRule, answer]) (by simp [flushSaRule, answer])
  case quiesceQueue =>
    cases ht
    exact h.runCommand _ _ h.quiesceRule
  case resumeQueue =>
    cases ht
    exact h.runCommand _ _ h.resumeRule
  case readStatus =>
    cases ht
    exact h.runCommand _ _ h.readStatusRule

/-- Settles O59, command by command: each operation on a record keeps it sound, and a claim enters the transmit list
or the bus only with its pending claim. -/
theorem stepKeepsCountersOrdered : Obligations.StepKeepsCountersOrdered := by
  intro s t he h ht
  unfold step at ht
  split at ht
  · cases ht
    unfold tick
    split
    · exact h.same rfl rfl rfl
    · exact h.same rfl rfl rfl
  · rename_i c rest hq
    exact CountersOrdered.exec (s := { s with pending := rest }) he (h.same rfl rfl rfl) c ht

end Sys2Proof.Machine
end

section
/-! The coordination bus: what an attempt sends. -/

namespace Sys2Proof.Machine

/-! ## An attempt, entry by entry (R35) -/

/-- What an entry of the transmit list sends, if the content test lets it (R15, R16, R35). -/
def State.content? (s : State) (e : TxEntry) : Option MsgContent :=
  match e.kind with
  | .advance => (s.assoc e.assoc).pendingAdvance.map PendingAdvance.content
  | .claim => if s.exhausted e.assoc then none else some (s.claimContent e.assoc)
  | .beacon =>
    if (s.assoc e.assoc).state.frontKnown then
      some (.beacon (BitVec.ofNat 16 (s.assoc e.assoc).epochOrZero) (BitVec.ofNat 48 (s.assoc e.assoc).front))
    else none
  | .join => some .join

/-- The association in the message of an entry: a JOIN names association 0 (R203). -/
def TxEntry.named (e : TxEntry) : Fin 64 := if e.kind = .join then 0 else e.assoc

/-- An entry that the content test removes (R16, R35). -/
def dropEntry (e : TxEntry) (s : State) : State :=
  if e.kind = .claim then requestAdvance e.assoc .exhausted (cancelClaim e.assoc s) else removeTx e.kind e.assoc s

/-- The first entry is sent, or removed, and the next is tried (R35). -/
theorem attempt_cons (n : Nat) {s : State} {e : TxEntry} {rest : List TxEntry} (hl : s.bus.txList = e :: rest) :
    attempt (n + 1) s =
      match s.content? e with
      | some c => beginMessage (s.message e.named c) s
      | none => attempt n (dropEntry e s) := by
  obtain ⟨kind, a⟩ := e
  rw [attempt, hl]
  cases kind
  case advance => cases hp : (s.assoc a).pendingAdvance <;> simp [State.content?, TxEntry.named, dropEntry, hp]
  case claim => cases hx : s.exhausted a <;> simp [State.content?, TxEntry.named, dropEntry, hx]
  case beacon => cases hf : (s.assoc a).state.frontKnown <;> simp [State.content?, TxEntry.named, dropEntry, hf]
  case join => rfl

theorem content?_kind {s : State} {e : TxEntry} {c : MsgContent} (h : s.content? e = some c) : c.kind = e.kind := by
  unfold State.content? at h
  split at h
  case h_1 hk =>
    obtain ⟨p, -, rfl⟩ := Option.map_eq_some_iff.1 h
    rw [hk]
    rfl
  case h_2 hk =>
    split at h
    · cases h
    · cases h
      rw [hk]
      rfl
  case h_3 hk =>
    split at h
    · cases h
      rw [hk]
      rfl
    · cases h
  case h_4 hk =>
    cases h
    rw [hk]
    rfl

theorem mayAttempt_of {s : State} {idleBits : Nat} {e : TxEntry} {rest : List TxEntry} (hw : s.device.working = true)
    (hq : s.bus.quiet = false) (hb : s.bus.onBus = none) (hl : s.bus.txList = e :: rest)
    (hi : 16 + s.bus.backoff ≤ idleBits) : s.mayAttempt idleBits = true := by
  simp [State.mayAttempt, hw, hq, hb, hl, hi]

/-- Settles O9: the content of each kind is what the content test computes for its entry. -/
theorem attemptSendsFirstEntry : Obligations.AttemptSendsFirstEntry := by
  intro s idleBits e rest hw hq hb hl hi content hc
  have hsend : attempt 194 s = beginMessage (s.message e.assoc content) s := by
    have hcontent : s.content? e = some content ∧ e.named = e.assoc := by
      unfold State.content? TxEntry.named
      rcases hc with ⟨hk, hlt, rfl⟩ | ⟨hk, p, hp, rfl⟩ | ⟨hk, hf, rfl⟩ | ⟨rfl, rfl⟩
      · have hx : s.exhausted e.assoc = false := by simpa [State.exhausted] using hlt
        simp [hk, hx, State.claimContent, State.claimCount, State.claimSize, State.span]
      · simp [hk, hp, PendingAdvance.content]
      · simp [hk, hf]
      · simp
    rw [attempt_cons 193 hl, hcontent.1, hcontent.2]
  refine ⟨finishEvent s (attempt 194 s), ?_, ?_⟩
  · simp [exec, execBusAttemptStart, mayAttempt_of hw hq hb hl hi]
  · rw [hsend]
    exact finishEvent_settled s _

/-! ## A claim that is not sent (R16, R61) -/

/-- No claim of an association is pending and none has an entry, while no own message is on the bus. -/
structure ClaimOut (a : Fin 64) (s : State) : Prop where
  notPending : (s.assoc a).pendingClaim = false
  noEntry : { kind := .claim, assoc := a } ∉ s.bus.txList
  idle : s.bus.onBus = none

theorem requestAdvance_onBus_none {s : State} (hb : s.bus.onBus = none) (a : Fin 64) (x : AdvanceReason) :
    (requestAdvance a x s).bus.onBus = none := by
  fun_cases requestAdvance a x s
  case case2 => simp [retire_bus, retireRecord, cancelClaim_onBus, hb]
  all_goals simp [hb]

/-- An advance request of another association leaves an ADVANCE entry. -/
theorem mem_requestAdvance_of_ne {a b : Fin 64} (h : a ≠ b) (x : AdvanceReason) {s : State}
    (hm : { kind := .advance, assoc := a } ∈ s.bus.txList) :
    { kind := .advance, assoc := a } ∈ (requestAdvance b x s).bus.txList := by
  fun_cases requestAdvance b x s
  case case2 => simpa [retire_bus, retireRecord_bus, cancelAdvance, removeTx, cancelClaim, h] using hm
  case case4 => exact mem_requestTx.2 (.inr (by simpa using hm))
  all_goals simpa using hm

/-- An advance request with a STANDBY and none pending puts the ADVANCE entry on the list (R61). -/
theorem mem_requestAdvance_self {a : Fin 64} {x : AdvanceReason} {s : State} (hs : (s.assoc a).state.inEpoch = true)
    (he : (s.assoc a).epochOrZero ≠ 65535) (hp : (s.assoc a).pendingAdvance = none) (hst : s.hasStandby a = true) :
    { kind := .advance, assoc := a } ∈ (requestAdvance a x s).bus.txList := by
  fun_cases requestAdvance a x s
  case case4 => exact mem_requestTx.2 (.inl rfl)
  all_goals simp_all

theorem hasStandby_of_keys {s t : State} (h : t.keys = s.keys) (a : Fin 64) : t.hasStandby a = s.hasStandby a := by
  simp [State.hasStandby, slots_eq_of_keys h]

theorem advanceAsked_pendingClaim {r : Assoc} (h : r.pendingClaim = false) (x : AdvanceReason) (standby : Bool) :
    (r.advanceAsked x standby).pendingClaim = false := by
  unfold Assoc.advanceAsked
  (repeat' split) <;> simp [h, Assoc.whenRetired]

section
variable {a : Fin 64} {s : State} {e : TxEntry}

theorem dropEntry_assoc_ne (h : e.kind = .claim → e.assoc ≠ a) : (dropEntry e s).assoc a = s.assoc a := by
  unfold dropEntry
  split
  · rename_i hk
    simp [(h hk).symm]
  · simp

theorem ClaimOut.dropEntry (h : ClaimOut a s) (hne : e.kind = .claim → e.assoc ≠ a) : ClaimOut a (dropEntry e s) := by
  refine ⟨by rw [dropEntry_assoc_ne hne]; exact h.notPending, ?_, ?_⟩
  all_goals unfold Machine.dropEntry
  all_goals split
  · exact fun hin => h.noEntry (((keepsClaims_cancelClaim e.assoc s).trans
      (keepsClaims_requestAdvance e.assoc .exhausted _)).entries a hin)
  · exact fun hin => h.noEntry ((keepsClaims_removeTx e.kind e.assoc s).entries a hin)
  · exact requestAdvance_onBus_none (by simp [cancelClaim_onBus, h.idle]) _ _
  · simpa using h.idle

theorem dropEntry_keeps_advance (hne : e.kind = .claim → e.assoc ≠ a) (hs : e.kind = .advance → e.assoc ≠ a)
    (hm : { kind := .advance, assoc := a } ∈ s.bus.txList) :
    { kind := .advance, assoc := a } ∈ (dropEntry e s).bus.txList := by
  unfold dropEntry
  split
  · rename_i hk
    exact mem_requestAdvance_of_ne (hne hk).symm _ (mem_cancelClaim.2 ⟨hm, by simp⟩)
  · refine mem_removeTx.2 ⟨hm, fun heq => ?_⟩
    injection heq with h1 h2
    exact hs h1.symm h2.symm

end

/-- An attempt that sends nothing of an association leaves its claim out, and its ADVANCE entry in. -/
theorem attempt_claimOut (n : Nat) {a : Fin 64} {s : State} (h : ClaimOut a s) :
    ((attempt n s).assoc a).pendingClaim = false ∧ { kind := .claim, assoc := a } ∉ (attempt n s).bus.txList ∧
      (∀ o, (attempt n s).bus.onBus = some o → o.message.content.kind = .claim → o.message.target ≠ a) ∧
      ((s.assoc a).pendingAdvance.isSome = true → { kind := .advance, assoc := a } ∈ s.bus.txList →
        { kind := .advance, assoc := a } ∈ (attempt n s).bus.txList ∧
        ((attempt n s).assoc a).pendingAdvance = (s.assoc a).pendingAdvance) := by
  induction n generalizing s with
  | zero => exact ⟨h.notPending, h.noEntry, by simp [attempt, h.idle], fun _ hm => ⟨hm, rfl⟩⟩
  | succ n ih =>
    cases hl : s.bus.txList with
    | nil =>
      have : attempt (n + 1) s = s := by simp [attempt, hl]
      rw [this]
      exact ⟨h.notPending, h.noEntry, by simp [h.idle], by simp [hl]⟩
    | cons e rest =>
      have hne : e.kind = .claim → e.assoc ≠ a := by
        rintro hk rfl
        exact h.noEntry (by rw [hl, ← hk]; simp)
      rw [← hl, attempt_cons n hl]
      split
      · rename_i c hc
        refine ⟨h.notPending, h.noEntry, fun o ho hk => ?_, fun _ hm => ⟨hm, rfl⟩⟩
        simp only [beginMessage, Option.some.injEq] at ho
        subst ho
        have hek : e.kind = .claim := (content?_kind hc).symm.trans hk
        have hn : e.named = e.assoc := by simp [TxEntry.named, hek]
        simpa [State.message, BusMessage.target, hn] using hne hek
      · rename_i hc
        have hs := dropEntry_assoc_ne (s := s) hne
        obtain ⟨h1, h2, h3, h4⟩ := ih (h.dropEntry hne)
        refine ⟨h1, h2, h3, fun hp hm => ?_⟩
        rw [hs] at h4
        refine h4 hp (dropEntry_keeps_advance hne (fun hk => ?_) hm)
        rintro rfl
        simp only [State.content?, hk, Option.map_eq_none_iff] at hc
        simp [hc] at hp

/-- Settles O10: the claim leaves with the content test, and no entry tried after it brings it back. -/
theorem exhaustedClaimIsNotSent : Obligations.ExhaustedClaimIsNotSent := by
  intro s idleBits a rest hw hq hb hl hi hx
  have hfirst : attempt 194 s = attempt 193 (requestAdvance a .exhausted (cancelClaim a s)) := by
    rw [attempt_cons 193 hl]
    simp [State.content?, State.exhausted, hx, dropEntry]
  have hout : ClaimOut a (requestAdvance a .exhausted (cancelClaim a s)) := by
    refine ⟨?_, ?_, requestAdvance_onBus_none (by simp [cancelClaim_onBus, hb]) _ _⟩
    · rw [requestAdvance_assoc_self]
      exact advanceAsked_pendingClaim (by simp) _ _
    · exact ((keepsClaims_requestAdvance a .exhausted _).gone (claimGone_cancelClaim a s)).entry
  obtain ⟨h1, h2, h3, h4⟩ := attempt_claimOut 193 hout
  refine ⟨finishEvent s (attempt 194 s), ?_, ?_⟩
  · simp [exec, execBusAttemptStart, mayAttempt_of hw hq hb hl hi]
  · have hs := finishEvent_settled s (attempt 194 s)
    rw [assoc_eq_of_assocs hs.assocs, hs.bus, hfirst]
    refine ⟨h1, h2, h3, fun ⟨hlive, he, hn, hst⟩ => ?_⟩
    have hst' : (cancelClaim a s).hasStandby a = true := by rwa [hasStandby_of_keys (s := s) (by simp)]
    have hne : (s.assoc a).epochOrZero ≠ 65535 := he.ne
    have hrec : ((requestAdvance a .exhausted (cancelClaim a s)).assoc a).pendingAdvance =
        some { target := (s.assoc a).epochOrZero + 1, reason := .exhausted, condition := .queued } := by
      rw [requestAdvance_assoc_self, hst', cancelClaim_assoc_self]
      simp only [Assoc.epochOrZero] at hne
      simp [Assoc.advanceAsked, Assoc.nextAdvance, hlive, AssocState.inEpoch, hn, Assoc.epochOrZero, hne]
    have hin : { kind := .advance, assoc := a } ∈ (requestAdvance a .exhausted (cancelClaim a s)).bus.txList := by
      refine mem_requestAdvance_self ?_ ?_ ?_ hst' <;> rw [cancelClaim_assoc_self]
      · simp [hlive, AssocState.inEpoch]
      · exact hne
      · exact hn
    obtain ⟨k1, k2⟩ := h4 (by rw [hrec]; rfl) hin
    exact ⟨k1, k2.trans hrec⟩

end Sys2Proof.Machine
end

section
/-! The coordination bus: a message delivered to this station, and its own delivered. -/

namespace Sys2Proof.Machine

/-! ## Delivery (R31, R32, R33) -/

/-- What every message delivered to this station changes before it is applied (R34, R38, R39). -/
def State.afterHeard (s : State) : State := errorDown (spendBackoff { s with bus := { s.bus with idleSeen := true } })

/-- What an own message delivered changes before it is applied: its entry leaves, unless it was withdrawn, and a CLAIM
clears the no-ack count (R33, R38, R39, R40). -/
def State.afterSent (s : State) (m : BusMessage) (withdrawn : Bool) : State :=
  let s1 := clearOnBus { s with bus := { s.bus with idleSeen := true } }
  let s2 := if withdrawn then s1 else removeTx m.content.kind m.target s1
  errorDown (if m.content.kind = .claim then { s2 with bus := { s2.bus with noAck := 0 } } else s2)

theorem compareBits_self (n : Nat) (l : List Bool) : compareBits n l l = .sender := by
  induction l generalizing n with
  | nil => rfl
  | cons b l ih => simp [compareBits, ih]

theorem messageCompletes_of_hears {s : State} {m : BusMessage} {e : BusEnding} (h : s.hears m e) :
    messageCompletes m e s = applyMessage false false m s.afterHeard := by
  obtain ⟨-, hb, hc, he, ha⟩ := h
  have hout : decideOutcome (e.peersErr || (slotsDriven .receiver s.bus.quiet true).2)
      (e.peersAck || (slotsDriven .receiver s.bus.quiet true).1) m.content.kind s.cfg.singleStation = .delivered := by
    cases hq : s.bus.quiet
    · simp [slotsDriven, decideOutcome, he]
    · rcases ha with ha | ha | ha | ha <;> simp_all [slotsDriven, decideOutcome]
  have hcrc : (e.crc == m.crc) = true := by simp [hc]
  have hpart : busPart s.bus.onBus m e.startRead e.crc = .receiver := by rw [hb]; rfl
  simp only [messageCompletes, hpart, hcrc, hout]
  split
  · simp_all
  · simp_all
  · simp_all
  · rfl

theorem messageCompletes_of_delivers {s : State} {m : BusMessage} {w : Bool} {e : BusEnding} (h : s.delivers m w e) :
    messageCompletes m e s = applyMessage true w m (s.afterSent m w) := by
  obtain ⟨-, hb, hc, hs, he, ha⟩ := h
  have hpart : busPart s.bus.onBus m e.startRead e.crc = .sender := by
    rw [hb, hs, hc]
    exact compareBits_self _ _
  have hout : decideOutcome (e.peersErr || (slotsDriven .sender s.bus.quiet (e.crc == m.crc)).2)
      (e.peersAck || (slotsDriven .sender s.bus.quiet (e.crc == m.crc)).1) m.content.kind s.cfg.singleStation =
      .delivered := by
    rcases ha with ha | ha | ha <;> simp_all [slotsDriven, decideOutcome]
  simp only [messageCompletes, hpart, hout]
  split
  · rename_i o ho _
    obtain rfl : { message := m, withdrawn := w } = o := Option.some.inj (hb.symm.trans ho)
    rfl
  all_goals simp_all

theorem busMessage_of_hears {s : State} {m : BusMessage} {e : BusEnding} (h : s.hears m e) :
    busMessage m e s = finishEvent s (applyMessage false false m s.afterHeard) := by
  rw [busMessage, if_pos h.1, messageCompletes_of_hears h]

theorem busMessage_of_delivers {s : State} {m : BusMessage} {w : Bool} {e : BusEnding} (h : s.delivers m w e) :
    busMessage m e s = finishEvent s (applyMessage true w m (s.afterSent m w)) := by
  rw [busMessage, if_pos h.1, messageCompletes_of_delivers h]

/-! ## What delivery leaves as it was -/

/-- A notice about the part itself and no exception: a queue that became QUIESCED, the quiet state of the bus. -/
def Notice.ofPart (n : Notice) : Prop := n.kind ≠ .exception ∧ n.assoc = 255

theorem Notice.ofQuiesce.ofPart {n : Notice} (h : n.ofQuiesce) : n.ofPart := ⟨by simp [h.1], h.2.1⟩

theorem exceptionsIn_ofPart {l : List Notice} (h : ∀ n ∈ l, n.ofPart) (time : BitVec 32) : exceptionsIn l time = [] :=
  exceptionsIn_eq_nil (fun n hn => (h n hn).1) time

theorem namedIn_ofPart {l : List Notice} (h : ∀ n ∈ l, n.ofPart) (time : BitVec 32) (a : Fin 64) :
    namedIn l time a.val = [] :=
  namedIn_eq_nil (fun n hn => .inl (by rw [(h n hn).2]; have := a.isLt; omega)) time

/-- What delivery to this station, before the message is applied, leaves of the state. -/
structure Arrived (s u : State) : Prop where
  assocs : u.assocs = s.assocs
  keys : u.keys = s.keys
  image : u.image = s.image
  device : u.device = s.device
  time : u.time = s.time
  station : u.station = s.station
  disp : u.disp = s.disp
  lanes : u.lanes = s.lanes
  rack : u.rack = s.rack
  counts : u.counters.assoc = s.counters.assoc
  onBus : u.bus.onBus = none
  posts : ∃ l, Posts s u l ∧ (∀ n ∈ l, n.ofPart) ∧ l.length ≤ 1

theorem quietTest_counts (s : State) : (quietTest s).counters.assoc = s.counters.assoc := by
  unfold quietTest
  split
  · simp
  split
  · simp
  · rfl

theorem posts_quietTest (s : State) : ∃ l, Posts s (quietTest s) l ∧ (∀ n ∈ l, n.ofPart) ∧ l.length ≤ 1 := by
  unfold quietTest
  split
  · exact ⟨_, (posts_of_status (s := s)).trans (posts_postNotice _ _ (by simp [newNotice])),
      by simp [Notice.ofPart, newNotice]⟩
  split
  · exact ⟨_, (posts_of_status (s := s)).trans (posts_postNotice _ _ (by simp [newNotice])),
      by simp [Notice.ofPart, newNotice]⟩
  · exact ⟨[], posts_of_status, by simp⟩

/-- The fall of the error count changes, but for a notice of the quiet state, nothing but the bus record. -/
theorem arrived_errorDown {s u : State} (ha : u.assocs = s.assocs := by simp) (hk : u.keys = s.keys := by simp)
    (hi : u.image = s.image := by simp) (hd : u.device = s.device := by simp) (ht : u.time = s.time := by simp)
    (hs : u.station = s.station := by simp) (hm : u.disp = s.disp := by simp) (hl : u.lanes = s.lanes := by simp)
    (hr : u.rack = s.rack := by simp) (hc : u.counters = s.counters := by simp)
    (hn : u.status = s.status := by simp) (hb : u.bus.onBus = none := by simp) : Arrived s (errorDown u) := by
  refine ⟨by simp [ha], by simp [hk], by simp [hi], by simp [hd], by simp [ht], by simp [hs], ?_, by simp [hl], by simp [hr],
    ?_, by simp [hb], ?_⟩
  · rw [← hm]
    unfold errorDown setErrorCount quietTest
    (repeat' split) <;> simp
  · rw [← hc]
    exact quietTest_counts _
  · obtain ⟨l, hl, hp⟩ := posts_quietTest { u with bus := { u.bus with errorCount := u.bus.errorCount - 1 } }
    exact ⟨l, (posts_of_status (s := s) (t := { u with bus := { u.bus with errorCount := u.bus.errorCount - 1 } })
      hd ht hn (by simp [hc])).trans hl, hp⟩

theorem arrived_afterHeard {s : State} (h : s.bus.onBus = none) : Arrived s s.afterHeard :=
  arrived_errorDown (hb := by simpa using h)

theorem arrived_afterSent (s : State) (m : BusMessage) (w : Bool) : Arrived s (s.afterSent m w) := by
  unfold State.afterSent
  simp only
  (repeat' split) <;> exact arrived_errorDown (hb := by simp [clearOnBus])

theorem txList_afterHeard (s : State) : s.afterHeard.bus.txList = s.bus.txList := by simp [State.afterHeard]

theorem txList_afterSent (s : State) (m : BusMessage) (w : Bool) :
    (s.afterSent m w).bus.txList =
      if w then s.bus.txList else s.bus.txList.filter (fun x => x != { kind := m.content.kind, assoc := m.target }) := by
  cases w <;> by_cases hk : m.content.kind = .claim <;> simp [State.afterSent, hk, removeTx, clearOnBus]

theorem noAck_afterSent {s : State} {m : BusMessage} (h : m.content.kind = .claim) (w : Bool) :
    (s.afterSent m w).bus.noAck = 0 := by
  cases w <;> simp [State.afterSent, h]

/-- Away from the quiet limits the error count only falls. -/
theorem errorDown_of_calm {s : State} (hq : s.bus.quiet = false) (he : s.bus.errorCount < 128) :
    errorDown s = { s with bus := { s.bus with errorCount := s.bus.errorCount - 1 } } := by
  have : ¬ 128 ≤ s.bus.errorCount - 1 := by omega
  simp [errorDown, setErrorCount, quietTest, hq, this]

theorem afterHeard_of_calm {s : State} (hq : s.bus.quiet = false) (he : s.bus.errorCount < 128) :
    s.afterHeard = { s with bus := s.bus.heard } := by
  have hs : spendBackoff { s with bus := { s.bus with idleSeen := true } } =
      { s with bus := { s.bus with idleSeen := true, backoff := 0 } } := by simp [spendBackoff, hq]
  rw [State.afterHeard, hs, errorDown_of_calm (by simpa using hq) (by simpa using he)]
  rfl

theorem afterSent_of_calm {s : State} (hq : s.bus.quiet = false) (he : s.bus.errorCount < 128) {m : BusMessage}
    (hk : m.content.kind ≠ .claim) :
    s.afterSent m false = { s with bus := s.bus.sent m.content.kind m.target } := by
  simp only [State.afterSent, hk]
  exact errorDown_of_calm (by simpa using hq) (by simpa using he)

/-- As `afterSent_of_calm`, for a CLAIM that may have been withdrawn, whose entry then stays. -/
theorem afterSent_claim_of_calm {s : State} (hq : s.bus.quiet = false) (he : s.bus.errorCount < 128) {m : BusMessage}
    (hk : m.content.kind = .claim) (w : Bool) :
    s.afterSent m w = { s with bus := { s.bus.sent .claim m.target with
      noAck := 0, txList := if w then s.bus.txList else (s.bus.sent .claim m.target).txList } } := by
  unfold State.afterSent
  cases w
  · simp only [hk]
    rw [errorDown_of_calm (by simpa using hq) (by simpa using he)]
    rfl
  · simp only [hk]
    rw [errorDown_of_calm (by simpa using hq) (by simpa using he)]
    rfl

end Sys2Proof.Machine
end

section
/-! The coordination bus: a CLAIM or BEACON delivered that only raises a front, or changes no record. -/

namespace Sys2Proof.Machine

/-! ## A message applied (R41) -/

section
variable {s : State} {m : BusMessage}

theorem applyMessage_peerClaim {epoch : BitVec 16} {start : BitVec 48} {count : BitVec 24}
    (hm : m.content = .claim epoch start count) (hd : (s.assocDef m.target).defined = true) (hv : m.content.valid = true)
    (w : Bool) :
    applyMessage false w m s =
      peerClaim m.target start.toNat (start.toNat + count.toNat - 1) epoch.toNat m.sender s := by
  rw [hm] at hv
  simp [applyMessage, cancelByMessage, handMessage, hm, hd, hv]

theorem applyMessage_ownClaim {epoch : BitVec 16} {start : BitVec 48} {count : BitVec 24}
    (hm : m.content = .claim epoch start count) (hd : (s.assocDef m.target).defined = true) (hv : m.content.valid = true)
    (w : Bool) :
    applyMessage true w m s =
      ownClaim m.target start.toNat (start.toNat + count.toNat - 1) epoch.toNat w s := by
  rw [hm] at hv
  simp [applyMessage, cancelByMessage, handMessage, hm, hd, hv]

/-- A BEACON is handed on after it has cancelled the own BEACON entry it covers (R37, R41). -/
theorem applyMessage_beacon {epoch : BitVec 16} {hwm : BitVec 48} (hm : m.content = .beacon epoch hwm)
    (hd : (s.assocDef m.target).defined = true) (he : epoch ≠ 0) (own w : Bool) :
    applyMessage own w m s = beaconDelivered m.target epoch.toNat hwm.toNat m.sender (cancelByMessage own m s) := by
  have hd' : ((cancelByMessage own m s).assocDef m.target).defined = true := by
    rwa [assocDef_eq_of_image (show (cancelByMessage own m s).image = s.image by simp)]
  have hv : m.content.valid = true := by simpa [hm, MsgContent.valid] using he
  have hd'' : ((cancelByMessage own m s).assocDef m.target).defined = true ∧ m.content.valid = true := ⟨hd', hv⟩
  rw [applyMessage, handMessage, hm]
  simp only
  rw [← hm, if_pos hd'']

theorem applyMessage_advance {epoch : BitVec 16} {code : BitVec 3} (hm : m.content = .advance epoch code)
    (hd : (s.assocDef m.target).defined = true) (hv : m.content.valid = true) (own w : Bool) :
    applyMessage own w m s =
      advanceDelivered m.target epoch.toNat (AdvanceReason.ofBusCode code) m.sender (cancelByMessage own m s) := by
  have hd' : ((cancelByMessage own m s).assocDef m.target).defined = true := by
    rwa [assocDef_eq_of_image (show (cancelByMessage own m s).image = s.image by simp)]
  have hd'' : ((cancelByMessage own m s).assocDef m.target).defined = true ∧ m.content.valid = true := ⟨hd', hv⟩
  rw [applyMessage, handMessage, hm]
  simp only
  rw [← hm, if_pos hd'']

end

/-! ## Where a message meets a record (R20, R23, R41, R64) -/

section
variable {a : Fin 64} {s : State} {e : Nat}

theorem advanceReaches_of_not_above (h : (s.assoc a).state.inEpoch = true → e ≤ (s.assoc a).epochOrZero)
    (x : AdvanceReason) (i : Nat) : advanceReaches a e x i s = s := by
  refine if_neg fun ⟨hs, hlt⟩ => ?_
  have := h hs
  omega

theorem not_listening_of_inEpoch {x : AssocState} (h : x.inEpoch = true) : x.listening = false := by
  cases x <;> simp_all [AssocState.inEpoch, AssocState.listening]

theorem inEpoch_of_frontKnown {x : AssocState} (h : x.frontKnown = true) : x.inEpoch = true := by
  cases x <;> simp_all [AssocState.inEpoch, AssocState.frontKnown]

theorem epochOrZero_of_epoch {r : Assoc} (h : r.epoch = some e) : r.epochOrZero = e := by simp [Assoc.epochOrZero, h]

theorem epoch_ne_of_above {r : Assoc} (h : e < r.epochOrZero) : r.epoch ≠ some e := by
  intro he
  rw [epochOrZero_of_epoch he] at h
  omega

theorem countLate_of_below (hs : (s.assoc a).state.inEpoch = true) (he : e < (s.assoc a).epochOrZero) :
    countLate a e s = bumpBus .lateMessages s := if_pos ⟨hs, he⟩

theorem countLate_of_retired (h : (s.assoc a).state = .retired) : countLate a e s = s := by
  simp [countLate, h, AssocState.inEpoch]

/-- A peer's CLAIM of the current epoch. -/
theorem peerClaim_of_epoch (hs : (s.assoc a).state.listening = false) (he : (s.assoc a).epoch = some e) (p q : Nat)
    (x : BitVec 3) : peerClaim a p q e x s = peerClaimInEpoch a p q s := by
  simp only [peerClaim, hs, advanceReaches_of_not_above (fun _ => (epochOrZero_of_epoch he).ge), he]
  rfl

/-- A peer's CLAIM below the current epoch. -/
theorem peerClaim_of_below (hs : (s.assoc a).state.inEpoch = true) (he : e < (s.assoc a).epochOrZero) (p q : Nat)
    (x : BitVec 3) : peerClaim a p q e x s = bumpBus .lateMessages s := by
  simp [peerClaim, not_listening_of_inEpoch hs, advanceReaches_of_not_above (fun _ => he.le), epoch_ne_of_above he,
    countLate_of_below hs he]

/-- A peer's CLAIM for a RETIRED association. -/
theorem peerClaim_of_retired (h : (s.assoc a).state = .retired) (p q : Nat) (x : BitVec 3) :
    peerClaim a p q e x s = s := by
  have hn := advanceReaches_of_not_above (a := a) (s := s) (e := e) (fun hs => by simp [h, AssocState.inEpoch] at hs)
    .implicit x.toNat
  simp [peerClaim, hn, countLate_of_retired h, peerClaimInEpoch, h, AssocState.listening]

/-- A BEACON of the current epoch. -/
theorem beaconDelivered_of_epoch (hs : (s.assoc a).state.listening = false) (he : (s.assoc a).epoch = some e) (v : Nat)
    (x : BitVec 3) :
    beaconDelivered a e v x s = if (s.assoc a).state.frontKnown then raiseFront a v s else s := by
  simp only [beaconDelivered, hs, advanceReaches_of_not_above (fun _ => (epochOrZero_of_epoch he).ge), he]
  rfl

/-- A BEACON below the current epoch. -/
theorem beaconDelivered_of_below (hs : (s.assoc a).state.inEpoch = true) (he : e < (s.assoc a).epochOrZero) (v : Nat)
    (x : BitVec 3) : beaconDelivered a e v x s = bumpBus .lateMessages s := by
  simp [beaconDelivered, not_listening_of_inEpoch hs, advanceReaches_of_not_above (fun _ => he.le), epoch_ne_of_above he,
    countLate_of_below hs he]

/-- A BEACON for a RETIRED association. -/
theorem beaconDelivered_of_retired (h : (s.assoc a).state = .retired) (v : Nat) (x : BitVec 3) :
    beaconDelivered a e v x s = s := by
  have hn := advanceReaches_of_not_above (a := a) (s := s) (e := e) (fun hs => by simp [h, AssocState.inEpoch] at hs)
    .implicit x.toNat
  simp [beaconDelivered, hn, countLate_of_retired h, h, AssocState.listening, AssocState.frontKnown]

end

/-! ## A peer's CLAIM that meets no counter of this station (R20, R21, R22) -/

theorem overlapRemoval_of_outside {a : Fin 64} {s : State} {p q : Nat} (hpq : p ≤ q)
    (h : ∀ n, (s.assoc a).reserves n → n < p ∨ q < n) : overlapRemoval a p q s = s := by
  simp only [overlapRemoval]
  rw [if_pos ((pieces_whole_iff _ hpq).2 h)]

theorem overlapAdvanceTest_of_below {a : Fin 64} {s : State} {p : Nat} (h : (s.assoc a).assigned < p) :
    overlapAdvanceTest a p s = s := if_neg (by omega)

theorem modAssoc_modAssoc (s : State) (a : Fin 64) (f g : Assoc → Assoc) :
    (s.modAssoc a f).modAssoc a g = s.modAssoc a (g ∘ f) := by
  simp [State.modAssoc, State.assoc]

/-- Such a CLAIM raises h and the accumulator, and does nothing else. -/
theorem peerClaimInEpoch_of_outside {a : Fin 64} {s : State} {p q : Nat} (hpq : p ≤ q)
    (h : ((s.assoc a).state = .live ∧ ∀ n, (s.assoc a).reserves n → n < p ∨ q < n) ∨ (s.assoc a).state = .keyWait)
    (hu : (s.assoc a).assigned < p) :
    peerClaimInEpoch a p q s = s.modAssoc a (fun r =>
      { r with hwm := some (max r.front q), acc := satAdd48 r.acc (q + 1 - p) }) := by
  have hraised : accumulate a (q + 1 - p) (raiseFront a q s) = s.modAssoc a (fun r =>
      { r with hwm := some (max r.front q), acc := satAdd48 r.acc (q + 1 - p) }) := modAssoc_modAssoc s a _ _
  have hassoc : (accumulate a (q + 1 - p) (raiseFront a q s)).assoc a =
      { s.assoc a with hwm := some (max (s.assoc a).front q), acc := satAdd48 (s.assoc a).acc (q + 1 - p) } := by
    rw [hraised]
    simp
  have htest := overlapAdvanceTest_of_below (s := accumulate a (q + 1 - p) (raiseFront a q s)) (a := a) (p := p)
    (by rw [hassoc]; exact hu)
  unfold peerClaimInEpoch
  rcases h with ⟨hl, hout⟩ | hk
  · have hkeep : overlapRemoval a p q (accumulate a (q + 1 - p) (raiseFront a q s)) =
        accumulate a (q + 1 - p) (raiseFront a q s) :=
      overlapRemoval_of_outside hpq (by rw [hassoc]; exact hout)
    simp only [hl, hkeep, htest]
    exact hraised
  · simp only [hk, htest]
    exact hraised

/-- Settles O11, by the epoch of the claim against that of the record. -/
theorem peerClaimRaisesFront : Obligations.PeerClaimRaisesFront := by
  intro s assoc sender epoch start count e m a q hh hq he hd hv
  obtain ⟨hs1, hc1, hpq, -, -⟩ := claim_valid hv
  have hu := arrived_afterHeard hh.2.1
  have ha : s.afterHeard.assoc a = s.assoc a := assoc_eq_of_assocs hu.assocs a
  have hrun : busMessage m e s = finishEvent s (peerClaim a start.toNat q epoch.toNat sender s.afterHeard) := by
    rw [busMessage_of_hears hh, applyMessage_peerClaim (m := m) rfl (by rwa [assocDef_eq_of_image hu.image]) hv]
  refine ⟨busMessage m e s, rfl, fun hst hep hlow => ?_, fun hst => ?_, fun hst hlt => ?_⟩ <;> rw [hrun]
  · have hl : (s.assoc a).state.listening = false := by
      rcases hst with ⟨h, -⟩ | h <;> simp [h, AssocState.listening]
    have hcount : q + 1 - start.toNat = count.toNat := by simp only [q]; omega
    rw [peerClaim_of_epoch (by rwa [ha]) (by rwa [ha]),
      peerClaimInEpoch_of_outside hpq (by rwa [ha]) (by rwa [ha]), hcount, afterHeard_of_calm hq he]
    exact finishEvent_settled s _
  · have hstay : peerClaim a start.toNat q epoch.toNat sender s.afterHeard = s.afterHeard := by
      rcases hst with hr | ⟨hb, hep⟩
      · exact peerClaim_of_retired (by rwa [ha]) _ _ _
      · rw [peerClaim_of_epoch (by rw [ha, hb]; rfl) (by rwa [ha])]
        simp [peerClaimInEpoch, ha, hb]
    rw [hstay, afterHeard_of_calm hq he]
    exact finishEvent_settled s _
  · rw [peerClaim_of_below (by rwa [ha]) (by rwa [ha]), afterHeard_of_calm hq he]
    exact finishEvent_settled s _

/-! ## A BEACON (R23, R37, R41) -/

/-- A peer's BEACON of the current epoch cancels the own entry it covers. -/
theorem cancelByMessage_beacon_of_epoch {s : State} {m : BusMessage} {epoch : BitVec 16} {hwm : BitVec 48}
    (hm : m.content = .beacon epoch hwm) (he : (s.assoc m.target).epoch = some epoch.toNat) :
    cancelByMessage false m s =
      if (s.assoc m.target).front ≤ hwm.toNat then removeTx .beacon m.target s else s := by
  simp [cancelByMessage, hm, he]

/-- A BEACON of another epoch cancels nothing. -/
theorem cancelByMessage_beacon_of_ne {s : State} {m : BusMessage} {epoch : BitVec 16} {hwm : BitVec 48}
    (hm : m.content = .beacon epoch hwm) (own : Bool) (he : (s.assoc m.target).epoch ≠ some epoch.toNat) :
    cancelByMessage own m s = s := by
  simp [cancelByMessage, hm, he]

/-- An own BEACON cancels nothing: its entry has left already. -/
theorem cancelByMessage_beacon_own {s : State} {m : BusMessage} {epoch : BitVec 16} {hwm : BitVec 48}
    (hm : m.content = .beacon epoch hwm) : cancelByMessage true m s = s := by
  simp [cancelByMessage, hm]

/-- Settles O15, a peer's BEACON and an own one, by its epoch against that of the record. -/
theorem beaconRaisesFront : Obligations.BeaconRaisesFront := by
  refine ⟨?_, ?_⟩
  · intro s assoc sender epoch hwm e m a hh hq he hd hz
    have hu := arrived_afterHeard hh.2.1
    have ha : s.afterHeard.assoc a = s.assoc a := assoc_eq_of_assocs hu.assocs a
    have hca : (cancelByMessage false m s.afterHeard).assoc a = s.assoc a := by
      rw [← ha]
      exact assoc_eq_of_assocs (by simp) a
    have hrun : busMessage m e s =
        finishEvent s (beaconDelivered a epoch.toNat hwm.toNat sender (cancelByMessage false m s.afterHeard)) := by
      rw [busMessage_of_hears hh, applyMessage_beacon (m := m) rfl (by rwa [assocDef_eq_of_image hu.image]) hz]
    refine ⟨busMessage m e s, rfl, fun hst hep => ?_, fun hst hlt => ?_, fun hst => ?_⟩ <;> rw [hrun]
    · rw [beaconDelivered_of_epoch (by rw [hca]; exact not_listening_of_inEpoch (inEpoch_of_frontKnown hst)) (by rwa [hca]),
        hca, if_pos hst, cancelByMessage_beacon_of_epoch rfl (by rwa [ha]), ha]
      split
      · rw [afterHeard_of_calm hq he]
        exact finishEvent_settled s _
      · rw [afterHeard_of_calm hq he]
        exact finishEvent_settled s _
    · rw [beaconDelivered_of_below (by rwa [hca]) (by rwa [hca]),
        cancelByMessage_beacon_of_ne rfl false (by rw [ha]; exact epoch_ne_of_above hlt), afterHeard_of_calm hq he]
      have hs := finishEvent_settled s (bumpBus .lateMessages { s with bus := s.bus.heard })
      refine ⟨hs.assocs, hs.keys, by rw [hs.bus]; rfl, ?_⟩
      rw [hs.counters]
      exact Vector.getElem_set_self _
    · have hstay : beaconDelivered a epoch.toNat hwm.toNat sender (cancelByMessage false m s.afterHeard) =
          cancelByMessage false m s.afterHeard := by
        rcases hst with hr | ⟨hb, hep⟩
        · exact beaconDelivered_of_retired (by rwa [hca]) _ _
        · rw [beaconDelivered_of_epoch (by rw [hca, hb]; rfl) (by rwa [hca]), hca, hb]
          rfl
      rw [hstay]
      have hs := finishEvent_settled s (cancelByMessage false m s.afterHeard)
      exact ⟨hs.assocs.trans (by simp [hu.assocs]), hs.keys.trans (by simp [hu.keys])⟩
  · intro s assoc sender epoch hwm e m a hh hq he hd hz u
    have hu := arrived_afterSent s m false
    have ha : (s.afterSent m false).assoc a = s.assoc a := assoc_eq_of_assocs hu.assocs a
    have hcalm : s.afterSent m false = u := afterSent_of_calm hq he (by simp [m, MsgContent.kind])
    have hrun : busMessage m e s = finishEvent s (beaconDelivered a epoch.toNat hwm.toNat sender (s.afterSent m false)) := by
      rw [busMessage_of_delivers hh, applyMessage_beacon (m := m) rfl (by rwa [assocDef_eq_of_image hu.image]) hz,
        cancelByMessage_beacon_own rfl]
    refine ⟨busMessage m e s, rfl, fun hst hep => ?_, fun hst hlt => ?_, fun hst => ?_⟩ <;> rw [hrun]
    · rw [beaconDelivered_of_epoch (by rw [ha]; exact not_listening_of_inEpoch (inEpoch_of_frontKnown hst)) (by rwa [ha]),
        ha, if_pos hst, hcalm]
      exact finishEvent_settled s _
    · rw [beaconDelivered_of_below (by rwa [ha]) (by rwa [ha]), hcalm]
      exact finishEvent_settled s _
    · have hstay : beaconDelivered a epoch.toNat hwm.toNat sender (s.afterSent m false) = s.afterSent m false := by
        rcases hst with hr | ⟨hb, hep⟩
        · exact beaconDelivered_of_retired (by rwa [ha]) _ _
        · rw [beaconDelivered_of_epoch (by rw [ha, hb]; rfl) (by rwa [ha]), ha, hb]
          rfl
      rw [hstay, hcalm]
      exact finishEvent_settled s _

end Sys2Proof.Machine
end

section
/-! Notices and marks of operations on a record: discarded keys, retirement, advance and claim requests. -/

namespace Sys2Proof.Machine

/-! ## Notices -/

/-- What a report hands over depends on the image and on the association's epoch alone. -/
theorem handed_congr {s u : State} (hi : u.image = s.image) {a : Fin 64}
    (he : (u.assoc a).epochOrZero = (s.assoc a).epochOrZero) (c : ExcClass) (value count : Nat) :
    u.handed c a value count = s.handed c a value count := by
  simp [State.handed, notifies_eq, alerts_eq, cfg_eq_of_image hi, he]

/-- What leaves device, time, status unit and counters as they were hands over nothing more. -/
theorem Posts.thenSame {s u t : State} {l : List Notice} (h : Posts s u l) (hd : t.device = u.device := by simp)
    (ht : t.time = u.time := by simp) (hs : t.status = u.status := by simp)
    (hc : t.counters.frames = u.counters.frames := by simp) : Posts s t l := by
  simpa using h.trans (posts_of_status hd ht hs hc)

/-- The notices of the keys that `discardKeys` wipes in the slots `l`. -/
def State.discardsIn (s : State) (a : Fin 64) (p : KeySlot → Bool) (l : List (Fin 4)) : List Notice :=
  l.filterMap (fun j =>
    if p (s.slots a)[j] then some (newNotice .keyDiscarded .none a.val (s.slots a)[j].epoch 0 1 false) else none)

theorem posts_discardKey (r : SlotRef) (s : State) :
    Posts s (discardKey r s) [newNotice .keyDiscarded .none r.assoc.val (s.slot r).epoch 0 1 false] :=
  (posts_of_status (s := s) (t := wipeSlot r s)).trans (posts_postNotice _ _ (by simp [newNotice]))

theorem discardsIn_congr {s t : State} {a : Fin 64} (p : KeySlot → Bool) {l : List (Fin 4)}
    (h : ∀ j ∈ l, (t.slots a)[j] = (s.slots a)[j]) : t.discardsIn a p l = s.discardsIn a p l := by
  unfold State.discardsIn
  exact List.filterMap_congr fun j hj => by rw [h j hj]

/-- Discarding keys hands over KEY-DISCARDED for each, in slot order (R175, log 13). -/
theorem posts_discardKeys (a : Fin 64) (p : KeySlot → Bool) (s : State) :
    Posts s (discardKeys a p s) (s.discardsIn a p (List.finRange 4)) := by
  unfold discardKeys
  have hgo : ∀ (l : List (Fin 4)) (s : State), l.Nodup → Posts s (l.foldl (fun s j =>
      if p (s.slot { assoc := a, index := j }) then discardKey { assoc := a, index := j } s else s) s)
      (s.discardsIn a p l) := by
    intro l
    induction l with
    | nil => exact fun s _ => posts_of_status
    | cons j l ih =>
      intro s hn
      obtain ⟨hj, hn⟩ := List.nodup_cons.1 hn
      by_cases hp : p (s.slot { assoc := a, index := j }) = true
      · have hrest : (discardKey { assoc := a, index := j } s).discardsIn a p l = s.discardsIn a p l := by
          refine discardsIn_congr p fun i hi => ?_
          have hne : ({ assoc := a, index := i } : SlotRef) ≠ { assoc := a, index := j } := by
            rintro ⟨⟩
            exact hj hi
          have := discardKey_slot { assoc := a, index := j } { assoc := a, index := i } s
          rw [if_neg hne] at this
          exact this
        have hhead : s.discardsIn a p (j :: l) =
            [newNotice .keyDiscarded .none a.val (s.slot { assoc := a, index := j }).epoch 0 1 false] ++
              s.discardsIn a p l := by
          unfold State.discardsIn
          rw [List.filterMap_cons, if_pos (show p (s.slots a)[j] = true from hp)]
          rfl
        rw [List.foldl_cons, if_pos hp, hhead, ← hrest]
        exact (posts_discardKey { assoc := a, index := j } s).trans (ih _ hn)
      · have hhead : s.discardsIn a p (j :: l) = s.discardsIn a p l := by
          unfold State.discardsIn
          rw [List.filterMap_cons, if_neg (show ¬ p (s.slots a)[j] = true from hp)]
        rw [List.foldl_cons, if_neg hp, hhead]
        exact ih s hn
  exact hgo _ s (List.nodup_finRange 4)

theorem discardsIn_kind {s : State} {a : Fin 64} {p : KeySlot → Bool} {l : List (Fin 4)} {n : Notice}
    (h : n ∈ s.discardsIn a p l) : n.kind = .keyDiscarded := by
  obtain ⟨j, -, hj⟩ := List.mem_filterMap.1 h
  split at hj
  · cases hj
    rfl
  · cases hj

/-- No notice of a list is an exception report. -/
def NoExceptions (l : List Notice) : Prop := ∀ n ∈ l, n.kind ≠ .exception

theorem NoExceptions.append {l m : List Notice} (h : NoExceptions l) (k : NoExceptions m) : NoExceptions (l ++ m) :=
  fun n hn => (List.mem_append.1 hn).elim (h n) (k n)

theorem retireRecord_frames (a : Fin 64) (s : State) : (retireRecord a s).counters.frames = s.counters.frames := by
  simp [retireRecord]

theorem posts_postEpochEnd (a : Fin 64) (s : State) :
    Posts s (postEpochEnd a s) [newNotice .advanced (.reason .epochEnd) a.val 65535 s.station.toNat 1 true] :=
  posts_postNotice _ s (by simp [newNotice])

/-- A retirement reports no exception of its own. -/
theorem posts_retire (a : Fin 64) (e : Bool) (s : State) : ∃ l, Posts s (retire a e s) l ∧ NoExceptions l := by
  obtain ⟨lc, hc, hq⟩ := posts_retireCurrent a (retireRecord a s)
  have hr : Posts s (retireRecord a s) [] := posts_of_status (hc := retireRecord_frames a s)
  have hd := posts_discardKeys a (fun k => k.role == .standby || k.role == .pending) (retireCurrent a (retireRecord a s))
  have hbase := (hr.trans hc).trans hd
  have hno : NoExceptions ([] ++ lc ++ (retireCurrent a (retireRecord a s)).discardsIn a
      (fun k => k.role == .standby || k.role == .pending) (List.finRange 4)) :=
    NoExceptions.append (fun n hn => (hq n (by simpa using hn)).ofPart.1) (fun n hn => by simp [discardsIn_kind hn])
  unfold retire
  simp only
  cases e
  · exact ⟨_, hbase.trans (posts_of_status (t := postAllMarks a _)), hno.append (by simp [NoExceptions])⟩
  · refine ⟨_, (hbase.trans (posts_postEpochEnd a _)).trans
      (posts_of_status (t := postAllMarks a _)), (hno.append ?_).append (by simp [NoExceptions])⟩
    simp [NoExceptions, newNotice]

theorem posts_requestAdvance (a : Fin 64) (x : AdvanceReason) (s : State) :
    ∃ l, Posts s (requestAdvance a x s) l ∧ NoExceptions l := by
  fun_cases requestAdvance a x s
  case case2 => exact posts_retire a true s
  case case5 =>
    refine ⟨_, (posts_of_status (s := s)).trans (posts_postNotice _ _ (by simp [newNotice])), ?_⟩
    simp [NoExceptions, newNotice]
  all_goals exact ⟨[], posts_of_status, by simp [NoExceptions]⟩

theorem posts_requestClaim (a : Fin 64) (s : State) : ∃ l, Posts s (requestClaim a s) l ∧ NoExceptions l := by
  fun_cases requestClaim a s
  case case4 => exact posts_requestAdvance a .exhausted s
  all_goals exact ⟨[], posts_of_status, by simp [NoExceptions]⟩

/-! ## Marks -/

/-- The marks of a retirement at the end of the epochs, if one came (R70, R125). -/
def endMarks (a : Fin 64) (b : Bool) : List ReleaseMark := if b then faultMarks a else []

theorem requestAdvance_endMarks (a : Fin 64) (x : AdvanceReason) (s : State) :
    (requestAdvance a x s).disp.marks = s.disp.marks ++ endMarks a (s.assoc a).endsAtAdvance := requestAdvance_marks a x s

/-- An event that posted a STARVED mark when `b`, and the marks of a retirement when `c`, releases so (R125). -/
theorem releases_of_marks {s u t : State} (hs : Settled u t) {a : Fin 64} {b c : Bool} (hp : u.disp.park = s.disp.park)
    (hm : u.disp.marks = s.disp.marks ++ (starvedMark a b ++ endMarks a c)) :
    Releases s t (fun x k => x == a && (k == .starved && b || k.isFault && c)) := by
  refine releases_of_settled hs _ _ hp hm fun x k => ?_
  simp only [List.mem_append, or_and_right, exists_or, mem_starvedMark, endMarks]
  cases c
  · simp
  · simp only [if_true, mem_faultMarks]
    simp
    tauto

/-! ## Records -/

/-- Below epoch 65535 an advance request changes at most the pending advance (R61). -/
theorem advanceAsked_of_not_end {r : Assoc} (h : r.epochOrZero ≠ 65535) (x : AdvanceReason) (standby : Bool) :
    ∃ p, r.advanceAsked x standby = { r with pendingAdvance := p } := by
  unfold Assoc.advanceAsked
  split
  · exact ⟨_, rfl⟩
  split
  · exact ⟨_, rfl⟩
  · exact ⟨_, rfl⟩

theorem advanceAsked_of_end {r : Assoc} (hs : r.state.inEpoch = true) (h : r.epochOrZero = 65535) (x : AdvanceReason)
    (standby : Bool) : r.advanceAsked x standby = r.whenRetired := by
  simp [Assoc.advanceAsked, hs, h]

/-- An advance request gives the reservation no counter. -/
theorem reserves_of_advanceAsked {r : Assoc} {x : AdvanceReason} {standby : Bool} {n : Nat}
    (h : (r.advanceAsked x standby).reserves n) : r.reserves n := by
  unfold Assoc.advanceAsked at h
  (repeat' split at h) <;> simp_all [Assoc.reserves, Assoc.whenRetired]

/-! ## Key slots -/

theorem limit_of_keys {s t : State} (h : t.keys = s.keys) (a : Fin 64) : t.limit a = s.limit a := by
  simp [State.limit, slots_eq_of_keys h]

/-- Short of a retirement an advance request leaves every key (R61). -/
theorem requestAdvance_keys {a : Fin 64} {s : State} (h : (s.assoc a).endsAtAdvance = false) (x : AdvanceReason) :
    (requestAdvance a x s).keys = s.keys := by
  fun_cases requestAdvance a x s
  case case2 => simp_all [Assoc.endsAtAdvance]
  all_goals simp

theorem requestAdvance_of_end {a : Fin 64} {s : State} (h : (s.assoc a).endsAtAdvance = true) (x : AdvanceReason) :
    requestAdvance a x s = retire a true s := by
  fun_cases requestAdvance a x s
  case case2 => rfl
  all_goals simp_all [Assoc.endsAtAdvance]

theorem retire_keys (a : Fin 64) (e : Bool) (s : State) :
    (retire a e s).keys = (discardKeys a (fun k => k.role == .standby || k.role == .pending)
      (retireCurrent a (retireRecord a s))).keys := by
  cases e <;> simp [retire, postEpochEnd]

/-- A RETIRED association holds neither a STANDBY nor a PENDING key (R70). -/
theorem retire_role (a : Fin 64) (e : Bool) (s : State) (j : Fin 4) :
    ((retire a e s).slots a)[j].role ≠ .standby ∧ ((retire a e s).slots a)[j].role ≠ .pending := by
  have hslot : ((retire a e s).slots a)[j] = (discardKeys a (fun k => k.role == .standby || k.role == .pending)
      (retireCurrent a (retireRecord a s))).slot { assoc := a, index := j } := by
    rw [slots_eq_of_keys (retire_keys a e s)]
    rfl
  rw [hslot, discardKeys_slot]
  split
  · simp [KeySlot.wiped]
  · rename_i h
    simpa using h

end Sys2Proof.Machine
end

section
/-! The counter unit: what a peer's CLAIM leaves of the reservation (R20 to R22). -/

namespace Sys2Proof.Machine

/-! ## The pieces outside a claim -/

/-- The pieces of a range outside [p, q] are those of the two candidate parts that hold a counter. -/
theorem cutRange_eq_filter {p : Nat} (hp : 1 ≤ p) (q lo hi : Nat) :
    cutRange p q lo hi = [(lo, min hi (p - 1)), (max lo (q + 1), hi)].filter (fun x => decide (x.1 ≤ x.2)) := by
  have hlow : (lo ≤ min hi (p - 1)) ↔ lo < p ∧ lo ≤ hi := by omega
  have hhigh : (max lo (q + 1) ≤ hi) ↔ q < hi ∧ lo ≤ hi := by omega
  unfold cutRange
  simp only [List.filter_cons, List.filter_nil, decide_eq_true_eq, hlow, hhigh]
  split <;> split <;> simp

theorem piecesOutside_eq_filter (r : Assoc) {p : Nat} (hp : 1 ≤ p) (q : Nat) :
    r.piecesOutside p q = r.ranges.flatMap (fun x =>
      [(x.1, min x.2 (p - 1)), (max x.1 (q + 1), x.2)].filter (fun x => decide (x.1 ≤ x.2))) := by
  rw [piecesOutside_eq]
  exact congrArg (fun f => r.ranges.flatMap f) (funext fun x => cutRange_eq_filter hp q x.1 x.2)

/-! ## The overlap removal (R21) -/

/-- The claim [p, q] meets the reservation of a record. -/
abbrev Assoc.meets (r : Assoc) (p q : Nat) : Prop := rangesCount (r.piecesOutside p q) ≠ rangesCount r.ranges

/-- Another piece than one that begins at the next counter becomes the active range (R6, R21). -/
abbrev Assoc.movesActive (r : Assoc) (p q : Nat) : Prop :=
  r.meets p q ∧ r.piecesOutside p q ≠ [] ∧ r.active.map (·.next) ≠ (r.piecesOutside p q).head?.map (·.1)

/-- The counters that an overlap removal discards (R21 step 4). -/
def Assoc.overlapLoss (r : Assoc) (p q : Nat) : Nat := rangesCount r.ranges - rangesCount ((r.piecesOutside p q).take 2)

theorem cut_of_meets {r : Assoc} {p q : Nat} (h : r.meets p q) :
    r.cut p q = { r with
      active := (r.piecesOutside p q)[0]?.map r.pieceActive,
      queued := (r.piecesOutside p q)[1]?.map (fun y => { start := y.1, stop := y.2 }),
      acc := if r.piecesOutside p q = [] ∨ r.active.map (·.next) = (r.piecesOutside p q).head?.map (·.1) then r.acc
        else 0 } := by
  unfold Assoc.meets at h
  rw [← reservationCount_eq] at h
  exact if_neg h

theorem cut_of_not_meets {r : Assoc} {p q : Nat} (h : ¬ r.meets p q) : r.cut p q = r := by
  unfold Assoc.meets at h
  rw [← reservationCount_eq] at h
  exact if_pos (not_not.1 h)

section
variable {a : Fin 64} {s : State} {p q : Nat}

theorem keepFirstPiece_marks (x : Nat × Nat) :
    (keepFirstPiece a x s).disp.marks =
      s.disp.marks ++ starvedMark a (decide ((s.assoc a).active.map (·.next) ≠ some x.1)) := by
  unfold keepFirstPiece
  split
  · rename_i y hy
    split
    · rename_i h
      simp [hy, h, starvedMark]
    · rename_i h
      simp [hy, h]
  · rename_i hy
    simp [hy]

/-- The first two pieces become the active and the queued range (R21 step 3). -/
def keepPieces (a : Fin 64) (pieces : List (Nat × Nat)) (s : State) : State :=
  match pieces with
  | [] => s.modAssoc a (fun r => { r with active := none, queued := none })
  | [x] => keepFirstPiece a x (s.modAssoc a (fun r => { r with queued := none }))
  | x :: y :: _ =>
    keepFirstPiece a x (s.modAssoc a (fun r => { r with queued := some { start := y.1, stop := y.2 } }))

theorem overlapRemoval_of_meets (h : (s.assoc a).meets p q) :
    overlapRemoval a p q s =
      report .claimOverlap (some a) ((s.assoc a).overlapLoss p q) 1
        (bump a .discardOverlap ((s.assoc a).overlapLoss p q) (keepPieces a ((s.assoc a).piecesOutside p q) s)) := by
  unfold Assoc.overlapLoss
  unfold Assoc.meets at h
  rw [← reservationCount_eq] at *
  exact if_neg h

theorem overlapRemoval_of_not_meets (h : ¬ (s.assoc a).meets p q) : overlapRemoval a p q s = s := by
  unfold Assoc.meets at h
  rw [← reservationCount_eq] at h
  exact if_pos (not_not.1 h)

/-- Keeping pieces leaves, of what a notice or a count reads, everything. -/
theorem keepPieces_frame (l : List (Nat × Nat)) :
    (keepPieces a l s).device = s.device ∧ (keepPieces a l s).time = s.time ∧ (keepPieces a l s).status = s.status ∧
    (keepPieces a l s).counters = s.counters ∧ (keepPieces a l s).image = s.image ∧
    ((keepPieces a l s).assoc a).epochOrZero = (s.assoc a).epochOrZero := by
  unfold keepPieces
  split <;> simp [Assoc.epochOrZero]

theorem keepPieces_marks (l : List (Nat × Nat)) :
    (keepPieces a l s).disp.marks =
      s.disp.marks ++
        starvedMark a (decide (l ≠ [] ∧ (s.assoc a).active.map (·.next) ≠ l.head?.map (·.1))) := by
  unfold keepPieces
  split
  · simp [starvedMark]
  · rw [keepFirstPiece_marks]
    simp
  · rw [keepFirstPiece_marks]
    simp

/-- The overlap removal posts a STARVED mark when another piece becomes active. -/
theorem overlapRemoval_marks :
    (overlapRemoval a p q s).disp.marks = s.disp.marks ++ starvedMark a (decide ((s.assoc a).movesActive p q)) := by
  by_cases h : (s.assoc a).meets p q
  · rw [overlapRemoval_of_meets h]
    simp only [report_frame, bump_frame, keepPieces_marks]
    simp [Assoc.movesActive, h]
  · rw [overlapRemoval_of_not_meets h]
    simp [Assoc.movesActive, h, starvedMark]

/-- What the overlap removal hands over: the trap, when the claim meets the reservation (R21, R120). -/
theorem posts_overlapRemoval :
    Posts s (overlapRemoval a p q s)
      (if (s.assoc a).meets p q then s.handed .claimOverlap a ((s.assoc a).overlapLoss p q) 1 else []) := by
  by_cases h : (s.assoc a).meets p q
  · obtain ⟨hd, ht, hst, hc, hi, he⟩ := keepPieces_frame (a := a) (s := s) ((s.assoc a).piecesOutside p q)
    have hb : Posts s (bump a .discardOverlap ((s.assoc a).overlapLoss p q)
        (keepPieces a ((s.assoc a).piecesOutside p q) s)) [] :=
      posts_of_status (by simp [hd]) (by simp [ht]) (by simp [hst]) (by simp [hc])
    have := hb.trans (posts_report .claimOverlap a ((s.assoc a).overlapLoss p q) 1 _)
    rw [List.nil_append, handed_congr (s := s) (by simp [hi]) (by simpa using he)] at this
    rw [overlapRemoval_of_meets h, if_pos h]
    exact this
  · rw [overlapRemoval_of_not_meets h, if_neg h]
    exact posts_of_status

/-- The counters an overlap removal discards are counted (R7, R21). -/
theorem count_overlapRemoval :
    (overlapRemoval a p q s).count a .discardOverlap =
      if (s.assoc a).meets p q then satAdd48 (s.count a .discardOverlap) ((s.assoc a).overlapLoss p q)
      else s.count a .discardOverlap := by
  by_cases h : (s.assoc a).meets p q
  · obtain ⟨-, -, -, hc, -⟩ := keepPieces_frame (a := a) (s := s) ((s.assoc a).piecesOutside p q)
    rw [overlapRemoval_of_meets h, if_pos h, count_report, count_bump_self,
      count_eq_of_counters (show (keepPieces a _ s).counters.assoc = s.counters.assoc by rw [hc])]
  · rw [overlapRemoval_of_not_meets h, if_neg h]

end

/-! ## A peer's CLAIM of the current epoch at a LIVE association -/

/-- The record after such a CLAIM has raised h and the accumulator (R20). -/
def Assoc.grown (r : Assoc) (p q : Nat) : Assoc :=
  { r with hwm := some (max r.front q), acc := satAdd48 r.acc (q + 1 - p) }

/-- The state after such a CLAIM has raised h and the accumulator (R20). -/
def growRecord (a : Fin 64) (p q : Nat) (s : State) : State := accumulate a (q + 1 - p) (raiseFront a q s)

section
variable {a : Fin 64} {s : State} {p q : Nat}

theorem peerClaimInEpoch_of_live (h : (s.assoc a).state = .live) :
    peerClaimInEpoch a p q s = overlapAdvanceTest a p (overlapRemoval a p q (growRecord a p q s)) := by
  simp only [peerClaimInEpoch, h]
  rfl

theorem growRecord_assoc_self : (growRecord a p q s).assoc a = (s.assoc a).grown p q := by
  simp [growRecord, Assoc.grown, Assoc.front]

theorem growRecord_frame : (growRecord a p q s).device = s.device ∧ (growRecord a p q s).time = s.time ∧
    (growRecord a p q s).image = s.image ∧ (growRecord a p q s).keys = s.keys ∧ (growRecord a p q s).bus = s.bus ∧
    (growRecord a p q s).disp = s.disp ∧ (growRecord a p q s).rack = s.rack ∧
    (growRecord a p q s).status = s.status ∧ (growRecord a p q s).counters = s.counters := by
  simp [growRecord]

theorem overlapAdvanceTest_marks :
    (overlapAdvanceTest a p s).disp.marks =
      s.disp.marks ++ endMarks a (decide (p ≤ (s.assoc a).assigned) && (s.assoc a).endsAtAdvance) := by
  unfold overlapAdvanceTest
  split
  · rename_i h
    rw [requestAdvance_endMarks]
    simp [h]
  · rename_i h
    simp [h, endMarks]

theorem posts_overlapAdvanceTest (a : Fin 64) (p : Nat) (s : State) :
    ∃ l, Posts s (overlapAdvanceTest a p s) l ∧ NoExceptions l := by
  unfold overlapAdvanceTest
  split
  · exact posts_requestAdvance a .overlap s
  · exact ⟨[], posts_of_status, by simp [NoExceptions]⟩

theorem count_overlapAdvanceTest {c : AssocCount} (h : c ≠ .retiredInFlight) (h' : c ≠ .discardRetire) :
    (overlapAdvanceTest a p s).count a c = s.count a c := by
  unfold overlapAdvanceTest
  split
  · exact count_requestAdvance _ _ _ _ _ h h'
  · rfl

/-- Unless it retires the association, the test changes at most the pending advance (R22, R61). -/
theorem overlapAdvanceTest_assoc_self (h : (s.assoc a).assigned < p ∨ (s.assoc a).epochOrZero ≠ 65535) :
    ∃ x, (overlapAdvanceTest a p s).assoc a = { s.assoc a with pendingAdvance := x } := by
  unfold overlapAdvanceTest
  split
  · rename_i hp
    rw [requestAdvance_assoc_self]
    exact advanceAsked_of_not_end (h.resolve_left (by omega)) _ _
  · exact ⟨_, rfl⟩

theorem reserves_of_overlapAdvanceTest {n : Nat} (h : ((overlapAdvanceTest a p s).assoc a).reserves n) :
    (s.assoc a).reserves n := by
  unfold overlapAdvanceTest at h
  split at h
  · rw [requestAdvance_assoc_self] at h
    exact reserves_of_advanceAsked h
  · exact h

/-- What such a CLAIM leaves, reports and releases, in the terms of the pieces outside it. -/
structure LeavesPieces (s t : State) (a : Fin 64) (p q : Nat) : Prop where
  outside : ∀ n, (t.assoc a).reserves n → (s.assoc a).reserves n ∧ ¬ (p ≤ n ∧ n ≤ q)
  reported : Reported s t
    (if (s.assoc a).meets p q then s.reportOf .claimOverlap (some a) ((s.assoc a).overlapLoss p q) else [])
  releases : Releases s t (fun b c => b == a && (c == .starved && decide ((s.assoc a).movesActive p q) ||
    c.isFault && (decide (p ≤ (s.assoc a).assigned) && (s.assoc a).endsAtAdvance)))
  record : (s.assoc a).assigned < p ∨ (s.assoc a).epochOrZero ≠ 65535 →
    ∃ x, t.assoc a = { ((s.assoc a).grown p q).cut p q with pendingAdvance := x }
  count : t.count a .discardOverlap =
    if (s.assoc a).meets p q then satAdd48 (s.count a .discardOverlap) ((s.assoc a).overlapLoss p q)
    else s.count a .discardOverlap

theorem leavesPieces_of_live {u t : State} (hu : Arrived s u) (hl : (s.assoc a).state = .live) (hpq : p ≤ q)
    (ht : Settled (peerClaimInEpoch a p q u) t) (hpark : (peerClaimInEpoch a p q u).disp.park = s.disp.park)
    (hrack : (peerClaimInEpoch a p q u).rack = s.rack) : LeavesPieces s t a p q := by
  have hua : u.assoc a = s.assoc a := assoc_eq_of_assocs hu.assocs a
  have hg : (growRecord a p q u).assoc a = (s.assoc a).grown p q := by rw [growRecord_assoc_self, hua]
  have hcut : (overlapRemoval a p q (growRecord a p q u)).assoc a = ((s.assoc a).grown p q).cut p q := by
    rw [overlapRemoval_assoc_self, hg]
  obtain ⟨hcs, -, -, hce, hca, -, -⟩ := cut_keeps ((s.assoc a).grown p q) p q
  have hend : (((s.assoc a).grown p q).cut p q).endsAtAdvance = (s.assoc a).endsAtAdvance := by
    simp only [Assoc.endsAtAdvance, Assoc.epochOrZero, hcs, hce]
    rfl
  have hreserves : ∀ n, (((s.assoc a).grown p q).cut p q).reserves n ↔
      ∃ x ∈ ((s.assoc a).piecesOutside p q).take 2, x.1 ≤ n ∧ n ≤ x.2 := cut_reserves _ hpq
  rw [peerClaimInEpoch_of_live (by rwa [hua])] at ht hpark hrack
  have hta := assoc_eq_of_assocs ht.assocs a
  obtain ⟨hdev, htime, himg, -, -, hdisp, -, hstat, hcnt⟩ := growRecord_frame (a := a) (s := u) (p := p) (q := q)
  refine ⟨fun n hn => ?_, ?_, ?_, fun h => ?_, ?_⟩
  · rw [hta] at hn
    have := reserves_of_overlapAdvanceTest hn
    rw [hcut, hreserves] at this
    obtain ⟨x, hx, hxn⟩ := this
    exact (pieces_counters (s.assoc a) p q n).1 ⟨x, List.mem_of_mem_take hx, hxn⟩
  · obtain ⟨l0, hp0, ho0, -⟩ := hu.posts
    obtain ⟨l3, hp3, ho3⟩ := posts_overlapAdvanceTest a p (overlapRemoval a p q (growRecord a p q u))
    have hp1 : Posts u (growRecord a p q u) [] := posts_of_status hdev htime hstat (by rw [hcnt])
    have hp2 := posts_overlapRemoval (a := a) (s := growRecord a p q u) (p := p) (q := q)
    rw [hg] at hp2
    have hall := reported_of_posts (((hp0.trans hp1).trans hp2).trans hp3) ht (by rw [hrack])
    rw [exceptionsIn_append, exceptionsIn_append, exceptionsIn_append, exceptionsIn_ofPart ho0,
      exceptionsIn_eq_nil ho3] at hall
    have heq : exceptionsIn (if ((s.assoc a).grown p q).meets p q then (growRecord a p q u).handed .claimOverlap a
        (((s.assoc a).grown p q).overlapLoss p q) 1 else []) s.time =
        if (s.assoc a).meets p q then s.reportOf .claimOverlap (some a) ((s.assoc a).overlapLoss p q) else [] := by
      by_cases hm : (s.assoc a).meets p q
      · rw [if_pos hm, if_pos (show ((s.assoc a).grown p q).meets p q from hm)]
        exact exceptionsIn_handed .claimOverlap a _ (himg.trans hu.image) (by rw [hg]; rfl)
      · rw [if_neg hm, if_neg (show ¬ ((s.assoc a).grown p q).meets p q from hm)]
        rfl
    rw [heq] at hall
    simpa [exceptionsIn] using hall
  · refine releases_of_marks ht hpark ?_
    rw [overlapAdvanceTest_marks, overlapRemoval_marks, hcut, hg, hend, hca, hdisp, hu.disp, List.append_assoc]
    rfl
  · have := overlapAdvanceTest_assoc_self (a := a) (p := p) (s := overlapRemoval a p q (growRecord a p q u)) (by
      rw [hcut, hca]
      simp only [Assoc.epochOrZero, hce]
      exact h)
    rw [hcut] at this
    rw [hta]
    exact this
  · rw [count_eq_of_counters (congrArg Counters.assoc ht.counters),
      count_overlapAdvanceTest (by simp) (by simp), count_overlapRemoval, hg,
      count_eq_of_counters (show (growRecord a p q u).counters.assoc = s.counters.assoc by rw [hcnt, hu.counts])]
    rfl

end

/-- Settles O12: the reservation is the first two pieces outside the claim, and only R22 at the last epoch changes that. -/
theorem peerClaimLeavesNoOverlap : Obligations.PeerClaimLeavesNoOverlap := by
  intro s assoc sender epoch start count e m a hh hd hv hlive hep q ranges pieces size grown
  obtain ⟨hs1, hc1, hpq, -, -⟩ := claim_valid hv
  have hu := arrived_afterHeard hh.2.1
  have ha : s.afterHeard.assoc a = s.assoc a := assoc_eq_of_assocs hu.assocs a
  have hrun : busMessage m e s = finishEvent s (peerClaimInEpoch a start.toNat q s.afterHeard) := by
    rw [busMessage_of_hears hh, applyMessage_peerClaim (m := m) rfl (by rwa [assocDef_eq_of_image hu.image]) hv,
      peerClaim_of_epoch (by rw [ha, hlive]; rfl) (by rwa [ha])]
  have hleaves : LeavesPieces s (busMessage m e s) a start.toNat q := by
    rw [hrun]
    exact leavesPieces_of_live hu hlive hpq (finishEvent_settled s _) (by simp [hu.disp]) (by simp [hu.rack])
  have hpieces : pieces = (s.assoc a).piecesOutside start.toNat q := (piecesOutside_eq_filter _ hs1 q).symm
  have hranges : ranges = (s.assoc a).ranges := rfl
  have hsize : size = rangesCount := rfl
  have hgrown : grown = ((s.assoc a).grown start.toNat q).acc := by
    have : q + 1 - start.toNat = count.toNat := by simp only [q]; omega
    simp only [grown, Assoc.grown, satAdd48, this]
  have hend : (s.assoc a).endsAtAdvance = decide (epoch.toNat = 65535) := by
    simp [Assoc.endsAtAdvance, hlive, AssocState.inEpoch, epochOrZero_of_epoch hep]
  clear_value pieces ranges size grown
  subst hpieces hranges hsize hgrown
  obtain ⟨houtside, hreported, hreleases, hrecord, hcount⟩ := hleaves
  refine ⟨busMessage m e s, rfl, houtside, ?_, ?_, fun hstay => ?_⟩
  · unfold Assoc.meets at hreported
    rw [ite_not] at hreported
    exact hreported
  · rw [hend] at hreleases
    simpa only [Bool.decide_and] using hreleases
  · obtain ⟨x, hrec⟩ := hrecord (hstay.imp_right fun h => by rw [epochOrZero_of_epoch hep]; omega)
    have hkeep := cut_keeps ((s.assoc a).grown start.toNat q) start.toNat q
    refine ⟨fun n => ?_, by rw [hrec]; exact hkeep.2.2.2.2.2.1, fun hsame => ?_, fun hdiff => ?_⟩
    · rw [hrec]
      exact cut_reserves _ hpq n
    · rw [cut_of_not_meets (r := (s.assoc a).grown start.toNat q) fun h => h hsame] at hrec
      rw [if_neg fun h => h hsame] at hcount
      exact ⟨by rw [hrec], by rw [hrec]; rfl, by rw [hrec]; rfl, hcount⟩
    · rw [cut_of_meets (r := (s.assoc a).grown start.toNat q) hdiff] at hrec
      rw [if_pos hdiff] at hcount
      exact ⟨by rw [hrec]; rfl, by rw [hrec]; rfl, by rw [hrec]; rfl, hcount⟩

end Sys2Proof.Machine
end

section
/-! The counter unit: this station's own CLAIM delivered (R17, R18, R19). -/

namespace Sys2Proof.Machine

section
variable {a : Fin 64} {s : State} {p q : Nat}

/-! ## A claim won (R5, R17) -/

theorem joinRange_marks :
    (joinRange a p q s).disp.marks = s.disp.marks ++ starvedMark a (s.assoc a).active.isNone := by
  unfold joinRange addRange
  cases ha : (s.assoc a).active <;> cases hq : (s.assoc a).queued <;>
    simp [ha, hq, raiseFront, queueRange, starvedMark]

theorem count_joinRange_claimsWon : (joinRange a p q s).count a .claimsWon = satAdd48 (s.count a .claimsWon) 1 := by
  unfold joinRange addRange
  cases ha : (s.assoc a).active <;> cases hq : (s.assoc a).queued <;> simp [ha, hq, raiseFront, queueRange]

/-- A range already queued is discarded under OVERLAP when a third joins (log 30). -/
theorem count_joinRange_discardOverlap {x : ActiveRange} {y : QueuedRange} (hx : (s.assoc a).active = some x)
    (hy : (s.assoc a).queued = some y) :
    (joinRange a p q s).count a .discardOverlap = satAdd48 (s.count a .discardOverlap) y.size := by
  simp [joinRange, addRange, hx, hy, raiseFront, queueRange]

/-- The reports of a range that joins: CLAIM-OVERLAP when one was queued already (log 30). -/
def State.joinReports (s : State) (a : Fin 64) : List Notice :=
  match (s.assoc a).active, (s.assoc a).queued with
  | some _, some y => s.handed .claimOverlap a y.size 1
  | _, _ => []

theorem posts_joinRange : Posts s (joinRange a p q s) (s.joinReports a) := by
  unfold joinRange addRange State.joinReports
  cases ha : (s.assoc a).active with
  | none => simpa [ha, raiseFront] using posts_of_status
  | some x =>
    cases hq : (s.assoc a).queued with
    | none => simpa [ha, hq, raiseFront] using posts_of_status
    | some y =>
      have hfirst : Posts s (bump a .discardOverlap y.size
          (raiseFront a q (s.modAssoc a (fun r => { r with pendingClaim := false })))) [] := posts_of_status
      have hreport := hfirst.trans (posts_report .claimOverlap a y.size 1 _)
      rw [List.nil_append, handed_congr (s := s) (by simp) (by simp [Assoc.epochOrZero])] at hreport
      simp only [raiseFront_assoc_self, modAssoc_assoc_self, ha, hq]
      exact hreport.thenSame

/-! ## The rekey-point test (R18) -/

theorem atRekeyPoint_joinRange : (joinRange a p q s).atRekeyPoint a q ↔ s.atRekeyPoint a q := by
  unfold State.atRekeyPoint
  rw [limit_of_keys (s := s) (by simp), assocDef_eq_of_image (s := s) (by simp), joinRange_assoc_self]
  rfl

theorem rekeyPointTest_assoc_self_of_point (h : s.atRekeyPoint a q) :
    (rekeyPointTest a q s).assoc a = ({ s.assoc a with rekeyRequested := true } : Assoc).advanceAsked .rekey (s.hasStandby a) := by
  rw [rekeyPointTest_of_point h, requestAdvance_assoc_self, hasStandby_of_keys (s := s) (by simp)]
  simp

theorem rekeyPointTest_assoc_ne {b : Fin 64} (h : b ≠ a) : (rekeyPointTest a q s).assoc b = s.assoc b := by
  unfold rekeyPointTest
  split <;> simp [h]

/-- The rekey-point test puts no claim under way. -/
theorem keepsClaims_rekeyPointTest : KeepsClaims s (rekeyPointTest a q s) := by
  unfold rekeyPointTest
  split
  · exact KeepsClaims.trans (keepsClaims_of_bus (by simp) (by simp)) (keepsClaims_requestAdvance a .rekey _)
  · exact keepsClaims_of_bus

theorem rekeyPointTest_onBus_none (hb : s.bus.onBus = none) : (rekeyPointTest a q s).bus.onBus = none := by
  unfold rekeyPointTest
  split
  · exact requestAdvance_onBus_none (by simpa using hb) _ _
  · exact hb

theorem count_rekeyPointTest {c : AssocCount} (h : c ≠ .retiredInFlight) (h' : c ≠ .discardRetire) :
    (rekeyPointTest a q s).count a c = s.count a c := by
  unfold rekeyPointTest
  split
  · rw [count_requestAdvance _ _ _ _ _ h h', count_report, count_modAssoc]
  · rfl

theorem flagged_endsAtAdvance :
    ((report .rekeyPoint (some a) q 1 (s.modAssoc a (fun r => { r with rekeyRequested := true }))).assoc a).endsAtAdvance =
      (s.assoc a).endsAtAdvance := by
  rw [assoc_report, modAssoc_assoc_self]
  rfl

theorem rekeyPointTest_marks :
    (rekeyPointTest a q s).disp.marks =
      s.disp.marks ++ endMarks a (decide (s.atRekeyPoint a q) && (s.assoc a).endsAtAdvance) := by
  by_cases h : s.atRekeyPoint a q
  · rw [rekeyPointTest_of_point h, requestAdvance_endMarks]
    rw [flagged_endsAtAdvance]
    simp [h]
  · rw [rekeyPointTest_of_no_point h]
    simp [h, endMarks]

/-- What the rekey-point test hands over: the trap REKEY-POINT, then what the advance request does (log 13). -/
theorem posts_rekeyPointTest_of_point (h : s.atRekeyPoint a q) :
    ∃ l, Posts s (rekeyPointTest a q s) (s.handed .rekeyPoint a q 1 ++ l) ∧ NoExceptions l := by
  rw [rekeyPointTest_of_point h]
  have hflag : Posts s (s.modAssoc a (fun r => { r with rekeyRequested := true })) [] := posts_of_status
  have hreport := hflag.trans (posts_report .rekeyPoint a q 1 _)
  rw [List.nil_append, handed_congr (s := s) (by simp) (by simp [Assoc.epochOrZero])] at hreport
  obtain ⟨l, hp, hn⟩ := posts_requestAdvance a .rekey
    (report .rekeyPoint (some a) q 1 (s.modAssoc a (fun r => { r with rekeyRequested := true })))
  exact ⟨l, hreport.trans hp, hn⟩

theorem rekeyPointTest_keys (h : (s.assoc a).endsAtAdvance = false) : (rekeyPointTest a q s).keys = s.keys := by
  unfold rekeyPointTest
  split
  · rw [requestAdvance_keys (by rwa [flagged_endsAtAdvance])]
    simp
  · rfl

theorem mem_rekeyPointTest_of_point (h : s.atRekeyPoint a q) (hs : (s.assoc a).state.inEpoch = true)
    (he : (s.assoc a).epochOrZero ≠ 65535) (hp : (s.assoc a).pendingAdvance = none) (hst : s.hasStandby a = true) :
    { kind := .advance, assoc := a } ∈ (rekeyPointTest a q s).bus.txList := by
  rw [rekeyPointTest_of_point h]
  refine mem_requestAdvance_self ?_ ?_ ?_ ?_
  · simpa using hs
  · rw [assoc_report, modAssoc_assoc_self]
    exact he
  · simpa using hp
  · rwa [hasStandby_of_keys (s := s) (by simp)]

theorem rekeyPointTest_role_of_end (h : s.atRekeyPoint a q) (he : (s.assoc a).endsAtAdvance = true) (j : Fin 4) :
    ((rekeyPointTest a q s).slots a)[j].role ≠ .standby ∧ ((rekeyPointTest a q s).slots a)[j].role ≠ .pending := by
  rw [rekeyPointTest_of_point h, requestAdvance_of_end (by rwa [flagged_endsAtAdvance])]
  exact retire_role a true _ j

/-! ## An own CLAIM delivered (R17, R19) -/

theorem ownClaim_of_live {e : Nat} (hl : (s.assoc a).state = .live) (he : (s.assoc a).epoch = some e) :
    ownClaim a p q e false s = rekeyPointTest a q (joinRange a p q s) := if_pos ⟨he, hl, rfl⟩

/-- Withdrawn, or with the key lost since, it only raises the front (log 11). -/
theorem ownClaim_of_late {e : Nat} {w : Bool} (he : (s.assoc a).epoch = some e)
    (h : (s.assoc a).state = .keyWait ∨ ((s.assoc a).state = .live ∧ w = true)) :
    ownClaim a p q e w s = raiseFront a q s := by
  unfold ownClaim
  rcases h with hk | ⟨hl, rfl⟩
  · simp [he, hk, AssocState.frontKnown]
  · simp [he, hl, AssocState.frontKnown]

theorem ownClaim_of_retired {e : Nat} {w : Bool} (h : (s.assoc a).state = .retired) : ownClaim a p q e w s = s := by
  simp [ownClaim, h, AssocState.frontKnown, countLate_of_retired h]

theorem ownClaim_of_below {e : Nat} {w : Bool} (hs : (s.assoc a).state.inEpoch = true) (he : e < (s.assoc a).epochOrZero) :
    ownClaim a p q e w s = bumpBus .lateMessages s := by
  simp [ownClaim, epoch_ne_of_above he, countLate_of_below hs he]

end

/-! ## What a claim won leaves -/

/-- The parts of a claim won that do not depend on the rekey point. -/
structure Wins (s t : State) (a : Fin 64) (p q : Nat) : Prop where
  record : t.assoc a = if s.atRekeyPoint a q then
      ({ (s.assoc a).won p q with rekeyRequested := true } : Assoc).advanceAsked .rekey (s.hasStandby a)
    else (s.assoc a).won p q
  others : ∀ b, b ≠ a → t.assoc b = s.assoc b
  counted : t.count a .claimsWon = satAdd48 (s.count a .claimsWon) 1
  discarded : ∀ x y, (s.assoc a).active = some x → (s.assoc a).queued = some y →
    t.count a .discardOverlap = satAdd48 (s.count a .discardOverlap) y.size
  reported : Reported s t ((match (s.assoc a).active, (s.assoc a).queued with
      | some _, some y => s.reportOf .claimOverlap (some a) (y.stop + 1 - y.start)
      | _, _ => []) ++ (if s.atRekeyPoint a q then s.reportOf .rekeyPoint (some a) q else []))
  releases : Releases s t (fun b c => b == a && (c == .starved && (s.assoc a).active.isNone ||
    c.isFault && (decide (s.atRekeyPoint a q) && (s.assoc a).endsAtAdvance)))
  keys : (s.atRekeyPoint a q → (s.assoc a).endsAtAdvance = false) → t.keys = s.keys

theorem atRekeyPoint_of_arrived {s u : State} {a : Fin 64} {p q : Nat} (hu : Arrived s u) :
    (joinRange a p q u).atRekeyPoint a q ↔ s.atRekeyPoint a q := by
  rw [atRekeyPoint_joinRange]
  unfold State.atRekeyPoint
  rw [limit_of_keys hu.keys, assocDef_eq_of_image hu.image, assoc_eq_of_assocs hu.assocs]

theorem wins_of_settled {s u t : State} {a : Fin 64} {p q : Nat} (hu : Arrived s u)
    (ht : Settled (rekeyPointTest a q (joinRange a p q u)) t) : Wins s t a p q := by
  have hua : u.assoc a = s.assoc a := assoc_eq_of_assocs hu.assocs a
  have hj : (joinRange a p q u).assoc a = (s.assoc a).won p q := by rw [joinRange_assoc_self, hua]
  have hpoint : (joinRange a p q u).atRekeyPoint a q ↔ s.atRekeyPoint a q := atRekeyPoint_of_arrived hu
  have hend : ((joinRange a p q u).assoc a).endsAtAdvance = (s.assoc a).endsAtAdvance := by rw [hj]; rfl
  have htc := count_eq_of_counters (congrArg Counters.assoc ht.counters) a
  have huc := count_eq_of_counters hu.counts a
  refine ⟨?_, fun b hb => ?_, ?_, fun x y hx hy => ?_, ?_, ?_, fun h => ?_⟩
  · rw [assoc_eq_of_assocs ht.assocs]
    by_cases h : s.atRekeyPoint a q
    · rw [if_pos h, rekeyPointTest_assoc_self_of_point (hpoint.2 h), hj,
        hasStandby_of_keys (show (joinRange a p q u).keys = s.keys by simp [hu.keys])]
    · rw [if_neg h, rekeyPointTest_of_no_point (mt hpoint.1 h), hj]
  · rw [assoc_eq_of_assocs ht.assocs, rekeyPointTest_assoc_ne hb, joinRange_assoc_ne hb, assoc_eq_of_assocs hu.assocs]
  · rw [htc, count_rekeyPointTest (by simp) (by simp), count_joinRange_claimsWon, huc]
  · rw [htc, count_rekeyPointTest (by simp) (by simp),
      count_joinRange_discardOverlap (hua ▸ hx) (hua ▸ hy), huc]
  · obtain ⟨l0, hp0, ho0, -⟩ := hu.posts
    have hjoin := hp0.trans (posts_joinRange (a := a) (p := p) (q := q) (s := u))
    have hov : exceptionsIn (u.joinReports a) s.time = match (s.assoc a).active, (s.assoc a).queued with
        | some _, some y => s.reportOf .claimOverlap (some a) (y.stop + 1 - y.start)
        | _, _ => [] := by
      unfold State.joinReports
      rw [hua]
      cases (s.assoc a).active with
      | none => rfl
      | some x =>
        cases (s.assoc a).queued with
        | none => rfl
        | some y => exact exceptionsIn_handed .claimOverlap a _ hu.image (by rw [hua])
    by_cases h : s.atRekeyPoint a q
    · obtain ⟨l, hp, ho⟩ := posts_rekeyPointTest_of_point (hpoint.2 h)
      have := reported_of_posts (hjoin.trans hp) ht (by simp [hu.rack])
      rw [exceptionsIn_append, exceptionsIn_append, exceptionsIn_append, exceptionsIn_ofPart ho0, exceptionsIn_eq_nil ho,
        hov, exceptionsIn_handed (s := s) .rekeyPoint a q (by simp [hu.image]) (by rw [hj]; rfl)] at this
      rw [if_pos h]
      simpa using this
    · rw [rekeyPointTest_of_no_point (mt hpoint.1 h)] at ht
      have := reported_of_posts hjoin ht (by simp [hu.rack])
      rw [exceptionsIn_append, exceptionsIn_ofPart ho0, hov] at this
      rw [if_neg h]
      simpa using this
  · refine releases_of_marks ht (by simp [hu.disp]) ?_
    rw [rekeyPointTest_marks, joinRange_marks, hend, hua, hu.disp, List.append_assoc, decide_eq_decide.2 hpoint]
  · rw [ht.keys]
    by_cases hp : s.atRekeyPoint a q
    · rw [rekeyPointTest_keys (by rw [hend]; exact h hp)]
      simp [hu.keys]
    · rw [rekeyPointTest_of_no_point (mt hpoint.1 hp)]
      simp [hu.keys]

theorem advanceAsked_of_pending {r : Assoc} (he : r.epochOrZero ≠ 65535) {p : PendingAdvance} (hp : r.pendingAdvance = some p)
    (x : AdvanceReason) (standby : Bool) : r.advanceAsked x standby = r := by
  simp [Assoc.advanceAsked, he, hp]

theorem advanceAsked_rekeyRequested (r : Assoc) (x : AdvanceReason) (standby : Bool) :
    (r.advanceAsked x standby).rekeyRequested = r.rekeyRequested := by
  unfold Assoc.advanceAsked
  (repeat' split) <;> rfl

theorem advanceAsked_of_none {r : Assoc} (hs : r.state.inEpoch = true) (he : r.epochOrZero ≠ 65535)
    (hp : r.pendingAdvance = none) (x : AdvanceReason) (standby : Bool) :
    r.advanceAsked x standby = { r with pendingAdvance := some (r.nextAdvance x standby) } := by
  simp [Assoc.advanceAsked, hs, he, hp]

/-- A message is what its fields say. -/
theorem busMessage_eta {m : BusMessage} {c : MsgContent} (h : m.content = c) :
    ({ assoc := m.assoc, sender := m.sender, content := c } : BusMessage) = m := by
  cases m
  simp_all

/-- Settles O14: a claim won in time by what `Wins` says, and one delivered late by its epoch against that of the
record. -/
theorem ownClaimIsWon : Obligations.OwnClaimIsWon := by
  refine ⟨?_, ?_⟩
  · intro s m epoch start count e a q hm hh hd hv hl hep won atPoint
    have hu := arrived_afterSent s m false
    have hk : m.content.kind = .claim := by rw [hm]; rfl
    have ha : (s.afterSent m false).assoc a = s.assoc a := assoc_eq_of_assocs hu.assocs a
    have hrun : busMessage m e s =
        finishEvent s (rekeyPointTest a q (joinRange a start.toNat q (s.afterSent m false))) := by
      rw [busMessage_of_delivers hh, applyMessage_ownClaim hm (by rwa [assocDef_eq_of_image hu.image]) hv,
        ownClaim_of_live (by rwa [ha]) (by rwa [ha])]
    have hset := finishEvent_settled s (rekeyPointTest a q (joinRange a start.toNat q (s.afterSent m false)))
    have hbus : (busMessage m e s).bus = (rekeyPointTest a q (joinRange a start.toNat q (s.afterSent m false))).bus := by
      rw [hrun]
      exact hset.bus
    have hwins : Wins s (busMessage m e s) a start.toNat q := by
      rw [hrun]
      exact wins_of_settled hu hset
    have hez : (s.assoc a).epochOrZero = epoch.toNat := epochOrZero_of_epoch hep
    have hend : (s.assoc a).endsAtAdvance = decide (epoch.toNat = 65535) := by
      simp [Assoc.endsAtAdvance, hl, AssocState.inEpoch, hez]
    have hin : (s.assoc a).state.inEpoch = true := by rw [hl]; rfl
    obtain ⟨hrec, hothers, hcount, hdisc, hrep, hrel, hkeys⟩ := hwins
    refine ⟨busMessage m e s, ?_, ?_, ?_, ?_, ?_, hothers, hcount, ?_, ?_, hrep, ?_, ?_, ?_, ?_⟩
    · exact congrArg (fun x => Host.Outcome.next (busMessage x e s)) (busMessage_eta hm)
    · rw [hrec]
      split
      · exact advanceAsked_pendingClaim (by rfl) _ _
      · rfl
    · rw [hbus]
      intro hin
      have := keepsClaims_rekeyPointTest.entries a hin
      simp only [joinRange_frame, txList_afterSent, hk] at this
      simp [a] at this
    · rw [hbus]
      exact rekeyPointTest_onBus_none (by simp [hu.onBus])
    · rw [hbus]
      simp [noAck_afterSent hk]
    · rw [hrec]
      by_cases h : s.atRekeyPoint a q
      · rw [if_pos h, advanceAsked_rekeyRequested]
        simp [h.1]
      · rw [if_neg h]
        have hflag : s.limit a ≤ q + (s.assocDef a).margin → (s.assoc a).rekeyRequested = true := by
          simpa [State.atRekeyPoint] using h
        by_cases hlim : s.limit a ≤ q + (s.assocDef a).margin
        · simp [hlim, hflag hlim, Assoc.won]
        · simp [hlim, Assoc.won]
    · intro y hx hy
      obtain ⟨x, hx⟩ := Option.isSome_iff_exists.1 hx
      exact hdisc x y hx hy
    · rw [hend] at hrel
      rw [← Bool.decide_and] at hrel
      exact hrel
    · intro h
      rw [if_neg h] at hrec
      exact ⟨hrec, hkeys (fun h' => absurd h' h)⟩
    · intro h hlt
      have hne : epoch.toNat ≠ 65535 := by omega
      have hwz : ({ (s.assoc a).won start.toNat q with rekeyRequested := true } : Assoc).epochOrZero ≠ 65535 := by
        rw [← hez] at hne
        exact hne
      rw [if_pos h] at hrec
      refine ⟨hkeys fun _ => by rw [hend]; exact decide_eq_false hne, fun p hp => ?_, fun hp => ⟨?_, fun hst => ?_⟩⟩
      · rw [hrec, advanceAsked_of_pending hwz (p := p) hp]
        rfl
      · rw [hrec, advanceAsked_of_none (r := { (s.assoc a).won start.toNat q with rekeyRequested := true }) hin hwz hp,
          Assoc.nextAdvance, ← hez]
        rfl
      · rw [hbus]
        refine mem_rekeyPointTest_of_point ?_ ?_ ?_ ?_ ?_
        · exact (atRekeyPoint_of_arrived hu).2 h
        · rw [joinRange_assoc_self, ha]
          exact hin
        · rw [joinRange_assoc_self, ha]
          exact hwz
        · rw [joinRange_assoc_self, ha]
          exact hp
        · rw [hasStandby_of_keys (s := s) (by simp [hu.keys])]
          exact hst
    · intro h hlast
      rw [if_pos h] at hrec
      refine ⟨?_, fun j => ?_⟩
      · rw [hrec, advanceAsked_of_end (r := { (s.assoc a).won start.toNat q with rekeyRequested := true }) hin
          (hez.trans hlast)]
        rfl
      · rw [hrun, slots_eq_of_keys hset.keys]
        refine rekeyPointTest_role_of_end ((atRekeyPoint_of_arrived hu).2 h) ?_ j
        rw [joinRange_assoc_self, ha, show ((s.assoc a).won start.toNat q).endsAtAdvance = (s.assoc a).endsAtAdvance from rfl,
          hend, hlast]
        rfl
  · intro s m w epoch start count e a hm hh hq he hd hv u
    have hu := arrived_afterSent s m w
    have hk : m.content.kind = .claim := by rw [hm]; rfl
    have ha : (s.afterSent m w).assoc a = s.assoc a := assoc_eq_of_assocs hu.assocs a
    have hcalm : s.afterSent m w = u := afterSent_claim_of_calm hq he hk w
    have hrun : busMessage m e s = finishEvent s
        (ownClaim a start.toNat (start.toNat + count.toNat - 1) epoch.toNat w (s.afterSent m w)) := by
      rw [busMessage_of_delivers hh, applyMessage_ownClaim hm (by rwa [assocDef_eq_of_image hu.image]) hv]
    refine ⟨busMessage m e s, ?_, fun hst hep => ?_, fun hr => ?_, fun hs hlt => ?_⟩
    · exact congrArg (fun x => Host.Outcome.next (busMessage x e s)) (busMessage_eta hm)
    · rw [hrun, ownClaim_of_late (by rwa [ha]) (by rwa [ha]), hcalm]
      exact finishEvent_settled s _
    · rw [hrun, ownClaim_of_retired (by rwa [ha]), hcalm]
      exact finishEvent_settled s _
    · rw [hrun, ownClaim_of_below (by rwa [ha]) (by rwa [ha]), hcalm]
      exact finishEvent_settled s _

end Sys2Proof.Machine
end

section
/-! An advance applied: the record, the keys, the notices and the marks of a new epoch (R65 to R69). -/

namespace Sys2Proof.Machine

/-! ## The CURRENT key at an advance (R66) -/

/-- Two slots that meet a test met by at most one are the same. -/
theorem slot_unique {v : Vector KeySlot 4} {p : KeySlot → Bool} (h : countSlots v p ≤ 1) {i j : Fin 4} (hi : p v[i] = true)
    (hj : p v[j] = true) : i = j := by
  rw [countSlots, List.countP_eq_length_filter] at h
  have hmi : i ∈ (List.finRange 4).filter (fun j => p v[j]) := by simpa using hi
  have hmj : j ∈ (List.finRange 4).filter (fun j => p v[j]) := by simpa using hj
  obtain ⟨x, hx⟩ | hx := (Nat.le_one_iff_eq_zero_or_eq_one.1 h).symm.imp List.length_eq_one_iff.1 List.length_eq_zero_iff.1
  · rw [hx, List.mem_singleton] at hmi hmj
    rw [hmi, hmj]
  · rw [hx] at hmi
    cases hmi

/-- The first CURRENT slot is CURRENT no more when it leaves service. -/
theorem retireCurrent_first_role {a : Fin 64} {s : State} {j : Fin 4} (h : slotWithRole (s.slots a) .current = some j) :
    ((retireCurrent a s).slot { assoc := a, index := j }).role ≠ .current := by
  unfold retireCurrent
  rw [h]
  simp only
  split
  · rw [wipeSlot_slot, if_pos rfl]
    simp [KeySlot.wiped]
  · rw [setSlot_slot_self]
    simp

/-- With at most one CURRENT key none is left when it leaves service (R66). -/
theorem retireCurrent_role {a : Fin 64} {s : State} (h : countSlots (s.slots a) (fun k => k.role == .current) ≤ 1) (i : Fin 4) :
    ((retireCurrent a s).slot { assoc := a, index := i }).role ≠ .current := by
  intro hi
  rcases retireCurrent_slot a s { assoc := a, index := i } with heq | ⟨-, -, hw | hr⟩
  · rw [heq] at hi
    have hc : ((s.slots a)[i].role == Role.current) = true := beq_iff_eq.2 hi
    cases hj : slotWithRole (s.slots a) .current with
    | none =>
      rw [findSlot_eq_none.1 hj i] at hc
      cases hc
    | some j =>
      have hij : i = j := slot_unique (p := fun k => k.role == .current) h hc (findSlot_some hj)
      subst hij
      exact retireCurrent_first_role hj (heq ▸ hi)
  · rw [hw] at hi
    cases hi
  · rw [hr] at hi
    cases hi

/-- A STANDBY slot stays as it is while the CURRENT key leaves service. -/
theorem retireCurrent_slot_of_standby {a : Fin 64} {s : State} {r : SlotRef}
    (h : ((retireCurrent a s).slot r).role = .standby) : (retireCurrent a s).slot r = s.slot r := by
  rcases retireCurrent_slot a s r with heq | ⟨-, -, hw | hr⟩
  · exact heq
  · rw [hw] at h
    cases h
  · rw [hr] at h
    cases h

/-- The STANDBY taken up gives the counter limit, when no other slot is CURRENT (R51, R66). -/
theorem takeUpStandby_limit {a : Fin 64} {e : Nat} {s : State} (hn : ∀ i : Fin 4, (s.slots a)[i].role ≠ .current)
    (hs : s.standbyOf a e = true) :
    ∃ j : Fin 4, (s.slots a)[j].role = .standby ∧ (s.slots a)[j].epoch = e ∧
      (takeUpStandby a e s).limit a = (s.slots a)[j].limit := by
  obtain ⟨j, hj⟩ := Option.isSome_iff_exists.1 hs
  have hp := findSlot_some hj
  simp only [Bool.and_eq_true, beq_iff_eq] at hp
  refine ⟨j, hp.1, hp.2, ?_⟩
  have hup : takeUpStandby a e s = postMark a .noKey ((s.setSlot { assoc := a, index := j }
      { s.slot { assoc := a, index := j } with role := .current }).modAssoc a (fun x => { x with state := .live })) := by
    simp [takeUpStandby, hj]
  have hself : ((takeUpStandby a e s).slots a)[j] = { (s.slots a)[j] with role := .current } := by
    rw [hup]
    exact setSlot_slot_self s { assoc := a, index := j } _
  have hother : ∀ i : Fin 4, i ≠ j → ((takeUpStandby a e s).slots a)[i] = (s.slots a)[i] := by
    intro i hi
    rw [hup]
    refine setSlot_slot_ne s (r := { assoc := a, index := j }) (q := { assoc := a, index := i }) _ (fun heq => hi ?_)
    injection heq
  have hfirst : slotWithRole ((takeUpStandby a e s).slots a) .current = some j := by
    cases hw : slotWithRole ((takeUpStandby a e s).slots a) .current with
    | none =>
      have := findSlot_eq_none.1 hw j
      rw [hself] at this
      simp at this
    | some i =>
      by_cases hi : i = j
      · rw [hi]
      · have := slotWithRole_role hw
        rw [hother i hi] at this
        exact absurd this (hn i)
  rw [State.limit, hfirst]
  simp only [hself]

theorem takeUpStandby_slots_ne {a b : Fin 64} (h : b ≠ a) (e : Nat) (s : State) :
    (takeUpStandby a e s).slots b = s.slots b := by
  unfold takeUpStandby
  split
  · simp [State.slots, State.setSlot, postMark, State.modAssoc, Ne.symm (Fin.val_ne_of_ne h)]
  · have hk : ∀ u : State, (postKeyWanted a e (u.modAssoc a (fun x => { x with state := .keyWait }))).slots b = u.slots b :=
      fun u => slots_eq_of_keys (by simp) b
    rw [hk, discardKeys_slots_ne h]

theorem takeUpStandby_marks (a : Fin 64) (e : Nat) (s : State) :
    (takeUpStandby a e s).disp.marks =
      s.disp.marks ++ (if s.standbyOf a e then [{ assoc := a, cls := .noKey }] else []) := by
  unfold takeUpStandby State.standbyOf
  split
  · rename_i j hj
    simp [hj]
  · rename_i hj
    simp [hj]

/-- The notices of a STANDBY missing at an advance: KEY-DISCARDED for every other, then KEY-WANTED (R66, log 13). -/
def State.standbyNotices (s : State) (a : Fin 64) (e : Nat) : List Notice :=
  if s.standbyOf a e then []
  else s.discardsIn a (fun k => k.role == .standby) (List.finRange 4) ++ [newNotice .keyWanted .none a.val e 0 1 false]

theorem posts_takeUpStandby (a : Fin 64) (e : Nat) (s : State) : Posts s (takeUpStandby a e s) (s.standbyNotices a e) := by
  unfold takeUpStandby State.standbyNotices State.standbyOf
  split
  · rename_i j hj
    simpa [hj] using posts_of_status
  · rename_i hj
    simp only [hj, Option.isSome_none, Bool.false_eq_true, if_false]
    exact (posts_discardKeys a _ s).thenSame.trans (posts_postNotice _ _ (by simp [newNotice]))

/-! ## Entering an epoch -/

section
variable (a : Fin 64) (epoch : Nat) (reason : AdvanceReason) (i : Nat) (s : State)

/-- The keys of an association entering an epoch: the CURRENT key has left service, and a STANDBY is taken up. -/
def leaveEpoch : State :=
  retireCurrent a (postNotice (newNotice .advanced (.reason reason) a.val epoch i 1 false) (resetRecordForEpoch a epoch s))

theorem enterEpoch_eq : enterEpoch a epoch reason i s =
    postMark a .starved (postMark a .exhausted (postMark a .blind (takeUpStandby a epoch (leaveEpoch a epoch reason i s)))) := rfl

theorem leaveEpoch_standbyOf : (leaveEpoch a epoch reason i s).standbyOf a epoch = s.standbyOf a epoch := by
  rw [leaveEpoch, retireCurrent_standbyOf]
  simp [State.standbyOf, State.slots]

theorem leaveEpoch_discardsIn :
    (leaveEpoch a epoch reason i s).discardsIn a (fun k => k.role == .standby) (List.finRange 4) =
      s.discardsIn a (fun k => k.role == .standby) (List.finRange 4) := by
  unfold State.discardsIn
  refine List.filterMap_congr fun j _ => ?_
  have hslot : (postNotice (newNotice .advanced (.reason reason) a.val epoch i 1 false)
      (resetRecordForEpoch a epoch s)).slot { assoc := a, index := j } = s.slot { assoc := a, index := j } :=
    slot_eq_of_keys (by simp) _
  have htest := retireCurrent_test (p := fun k => k.role == .standby) (fun k hk => .inl (beq_iff_eq.1 hk)) a
    (postNotice (newNotice .advanced (.reason reason) a.val epoch i 1 false) (resetRecordForEpoch a epoch s))
    { assoc := a, index := j }
  rw [hslot] at htest
  by_cases hr : ((leaveEpoch a epoch reason i s).slot { assoc := a, index := j }).role = .standby
  · have heq := (retireCurrent_slot_of_standby hr).trans hslot
    have : ((leaveEpoch a epoch reason i s).slots a)[j] = (s.slots a)[j] := heq
    rw [this]
  · have h1 : ¬ (((leaveEpoch a epoch reason i s).slots a)[j].role == Role.standby) = true := by
      rw [beq_iff_eq]
      exact hr
    have h2 : ¬ ((s.slots a)[j].role == Role.standby) = true := fun h => h1 (htest.trans h)
    rw [if_neg h1, if_neg h2]

/-- What entering an epoch hands over: ADVANCED, what queues become QUIESCED, and the notices of a missing STANDBY. -/
theorem posts_enterEpoch :
    ∃ q, (∀ n ∈ q, n.ofQuiesce) ∧ Posts s (enterEpoch a epoch reason i s)
      (newNotice .advanced (.reason reason) a.val epoch i 1 false :: (q ++ s.standbyNotices a epoch)) := by
  have hreset : Posts s (resetRecordForEpoch a epoch s) [] := posts_of_status (hc := by simp [resetRecordForEpoch])
  have hadv := hreset.trans (posts_postNotice (newNotice .advanced (.reason reason) a.val epoch i 1 false)
    (resetRecordForEpoch a epoch s) (by simp [newNotice]))
  obtain ⟨q, hq, ho⟩ := posts_retireCurrent a (postNotice (newNotice .advanced (.reason reason) a.val epoch i 1 false)
    (resetRecordForEpoch a epoch s))
  have hup := posts_takeUpStandby a epoch (leaveEpoch a epoch reason i s)
  have hnot : (leaveEpoch a epoch reason i s).standbyNotices a epoch = s.standbyNotices a epoch := by
    rw [State.standbyNotices, State.standbyNotices, leaveEpoch_standbyOf, leaveEpoch_discardsIn]
  rw [hnot] at hup
  refine ⟨q, ho, ?_⟩
  have := (hadv.trans hq).trans hup
  rw [enterEpoch_eq]
  simpa using this.thenSame

theorem enterEpoch_marks : (enterEpoch a epoch reason i s).disp.marks =
    s.disp.marks ++ ((if s.standbyOf a epoch then [{ assoc := a, cls := .noKey }] else []) ++
      [{ assoc := a, cls := .blind }, { assoc := a, cls := .exhausted }, { assoc := a, cls := .starved }]) := by
  rw [enterEpoch_eq]
  simp only [postMark_marks, takeUpStandby_marks, leaveEpoch_standbyOf]
  simp [leaveEpoch]

theorem count_enterEpoch : (enterEpoch a epoch reason i s).count a .discardAdvance =
    satAdd48 (s.count a .discardAdvance) (s.assoc a).reservationCount := by
  have hup : ∀ u : State, (takeUpStandby a epoch u).count a .discardAdvance = u.count a .discardAdvance := fun u => by
    unfold takeUpStandby
    split <;> simp
  simp [enterEpoch_eq, hup, leaveEpoch, count_retireCurrent, resetRecordForEpoch, discardReservation]

theorem enterEpoch_slots_ne {b : Fin 64} (h : b ≠ a) : (enterEpoch a epoch reason i s).slots b = s.slots b := by
  rw [enterEpoch_eq]
  have hk : ∀ u : State, (postMark a .starved (postMark a .exhausted (postMark a .blind u))).slots b = u.slots b :=
    fun u => slots_eq_of_keys (by simp) b
  rw [hk, takeUpStandby_slots_ne h, leaveEpoch, retireCurrent_slots_ne h]
  exact slots_eq_of_keys (by simp) b

/-- With a STANDBY of the epoch and no second CURRENT key, the STANDBY gives the counter limit. -/
theorem enterEpoch_limit (hc : countSlots (s.slots a) (fun k => k.role == .current) ≤ 1)
    (hs : s.standbyOf a epoch = true) :
    ∃ j : Fin 4, (s.slots a)[j].role = .standby ∧ (s.slots a)[j].epoch = epoch ∧
      (enterEpoch a epoch reason i s).limit a = (s.slots a)[j].limit := by
  have hslots : (postNotice (newNotice .advanced (.reason reason) a.val epoch i 1 false)
      (resetRecordForEpoch a epoch s)).slots a = s.slots a := slots_eq_of_keys (by simp) a
  obtain ⟨j, hr, he, hl⟩ := takeUpStandby_limit (s := leaveEpoch a epoch reason i s)
    (fun i => retireCurrent_role (by rwa [hslots]) i) ((leaveEpoch_standbyOf a epoch reason i s).trans hs)
  have heq : ((leaveEpoch a epoch reason i s).slots a)[j] = (s.slots a)[j] :=
    (retireCurrent_slot_of_standby (r := { assoc := a, index := j }) hr).trans (slot_eq_of_keys (by simp) _)
  rw [heq] at hr he hl
  refine ⟨j, hr, he, ?_⟩
  rw [enterEpoch_eq, limit_of_keys (s := takeUpStandby a epoch (leaveEpoch a epoch reason i s)) (by simp), hl]

theorem mem_enterEpoch {e : TxEntry} : e ∈ (enterEpoch a epoch reason i s).bus.txList ↔
    e ∈ s.bus.txList ∧ e ≠ { kind := .claim, assoc := a } ∧ e ≠ { kind := .advance, assoc := a } := by
  rw [enterEpoch_bus, resetRecordForEpoch_bus, cancelAdvance, mem_removeTx]
  simp [mem_cancelClaim, and_assoc]

theorem enterEpoch_onBus_none (h : s.bus.onBus = none) : (enterEpoch a epoch reason i s).bus.onBus = none := by
  simp [enterEpoch_bus, resetRecordForEpoch_bus, cancelClaim_onBus, h]

end

end Sys2Proof.Machine
end

section
/-! The epoch controller: an advance applied, and the messages that bring one (R64 to R69). -/

namespace Sys2Proof.Machine

/-! ## A claim that was pending (R65) -/

/-- A claim pending before an advance is made again in the new epoch, when `again` (R65). -/
def reclaim (a : Fin 64) (again : Bool) (s : State) : State :=
  if again then requestTx .claim a (s.modAssoc a (fun r => { r with pendingClaim := true })) else s

theorem reclaim_frame (a : Fin 64) (again : Bool) (s : State) :
    (reclaim a again s).keys = s.keys ∧ (reclaim a again s).disp = s.disp ∧ (reclaim a again s).rack = s.rack ∧
    (reclaim a again s).counters = s.counters ∧ (reclaim a again s).device = s.device ∧
    (reclaim a again s).time = s.time ∧ (reclaim a again s).status = s.status ∧
    (reclaim a again s).bus.onBus = s.bus.onBus := by
  unfold reclaim
  split <;> simp

/-- A claim that was pending meets a counter below the limit of the new CURRENT key, or none was pending. -/
def State.readyToAdvance (s : State) (a : Fin 64) (epoch : Nat) : Prop :=
  (s.assoc a).pendingClaim = false ∨
    (countSlots (s.slots a) (fun k => k.role == .current) ≤ 1 ∧
      ∀ j : Fin 4, (s.slots a)[j].role = .standby → (s.slots a)[j].epoch = epoch → 0 < (s.slots a)[j].limit)

theorem applyAdvance_of_ready {a : Fin 64} {s : State} {epoch : Nat} (h : s.readyToAdvance a epoch) (reason : AdvanceReason)
    (i : Nat) : applyAdvance a epoch reason i s =
      reclaim a ((s.assoc a).pendingClaim && s.standbyOf a epoch) (enterEpoch a epoch reason i s) := by
  rw [applyAdvance_eq]
  by_cases hp : (s.assoc a).pendingClaim = true
  · obtain ⟨hc, hl⟩ := h.resolve_left (by simp [hp])
    rw [if_pos hp, hp, Bool.true_and]
    unfold requestClaim
    rw [enterEpoch_assoc_self]
    by_cases hs : s.standbyOf a epoch = true
    · obtain ⟨j, hr, he, hlim⟩ := enterEpoch_limit a epoch reason i s hc hs
      have hx : (enterEpoch a epoch reason i s).exhausted a = false := by
        simp only [State.exhausted, enterEpoch_assoc_self, hlim]
        exact decide_eq_false (Nat.not_le_of_lt (hl j hr he))
      simp [hs, hx, Assoc.inNewEpoch, Assoc.advanceQueued, reclaim]
    · simp [hs, Assoc.inNewEpoch, reclaim]
  · simp [hp, reclaim]

/-! ## What entering an epoch comes to -/

/-- `w` is `u` with the association entered into an epoch, at front `v` with accumulator `c`. -/
structure Enters (u w : State) (a : Fin 64) (epoch v c : Nat) (reason : AdvanceReason) (i : Nat) : Prop where
  record : w.assoc a = { (u.assoc a).inNewEpoch epoch (u.assocDef a).startLevel with
    state := if u.standbyOf a epoch then .live else .keyWait, hwm := some v, acc := c,
    pendingClaim := (u.assoc a).pendingClaim && u.standbyOf a epoch }
  others : ∀ b, b ≠ a → w.assoc b = u.assoc b ∧ w.slots b = u.slots b
  entries : ∀ e, e ∈ w.bus.txList ↔
    (e ∈ u.bus.txList ∧ e ≠ { kind := .claim, assoc := a } ∧ e ≠ { kind := .advance, assoc := a }) ∨
      (e = { kind := .claim, assoc := a } ∧ (u.assoc a).pendingClaim = true ∧ u.standbyOf a epoch = true)
  onBus : u.bus.onBus = none → w.bus.onBus = none
  park : w.disp.park = u.disp.park
  rack : w.rack = u.rack
  marks : w.disp.marks = u.disp.marks ++ ((if u.standbyOf a epoch then [{ assoc := a, cls := .noKey }] else []) ++
    [{ assoc := a, cls := .blind }, { assoc := a, cls := .exhausted }, { assoc := a, cls := .starved }])
  counted : w.count a .discardAdvance = satAdd48 (u.count a .discardAdvance) (u.assoc a).reservationCount
  posts : ∃ q, (∀ n ∈ q, n.ofQuiesce) ∧ Posts u w
    (newNotice .advanced (.reason reason) a.val epoch i 1 false :: (q ++ u.standbyNotices a epoch))

theorem enters_applyAdvance {a : Fin 64} {u : State} {epoch : Nat} (h : u.readyToAdvance a epoch) (reason : AdvanceReason)
    (i : Nat) : Enters u (applyAdvance a epoch reason i u) a epoch 0 0 reason i := by
  rw [applyAdvance_of_ready h]
  obtain ⟨q, hq, hp⟩ := posts_enterEpoch a epoch reason i u
  obtain ⟨hk, hd, hr, hc, hdev, htime, hst, hob⟩ :=
    reclaim_frame a ((u.assoc a).pendingClaim && u.standbyOf a epoch) (enterEpoch a epoch reason i u)
  refine ⟨?_, fun b hb => ⟨?_, ?_⟩, fun e => ?_, fun hb => ?_, ?_, ?_, ?_, ?_, q, hq, ?_⟩
  · cases hp : (u.assoc a).pendingClaim <;> cases hs : u.standbyOf a epoch <;> simp [reclaim, hs, Assoc.inNewEpoch]
  · unfold reclaim
    split <;> simp [hb]
  · rw [slots_eq_of_keys hk, enterEpoch_slots_ne _ _ _ _ _ hb]
  · cases hp : (u.assoc a).pendingClaim <;> cases hs : u.standbyOf a epoch <;>
      simp [reclaim, mem_requestTx, mem_enterEpoch, or_comm]
  · rw [hob, enterEpoch_onBus_none _ _ _ _ _ hb]
  · rw [hd]
    simp [enterEpoch]
  · rw [hr]
    simp [enterEpoch]
  · rw [hd, enterEpoch_marks]
  · rw [count_eq_of_counters (congrArg Counters.assoc hc), count_enterEpoch]
  · exact hp.thenSame hdev htime hst (by rw [hc])

/-- The CLAIM or BEACON that brought the epoch counts in it (R20, R23, R42). -/
theorem Enters.modAssoc {u w : State} {a : Fin 64} {epoch v c : Nat} {reason : AdvanceReason} {i : Nat}
    (h : Enters u w a epoch 0 0 reason i) {f : Assoc → Assoc}
    (hf : f (w.assoc a) = { w.assoc a with hwm := some v, acc := c }) : Enters u (w.modAssoc a f) a epoch v c reason i := by
  obtain ⟨hrec, hoth, hent, hon, hpark, hrack, hmarks, hcount, q, hq, hposts⟩ := h
  refine ⟨?_, fun b hb => ⟨?_, ?_⟩, by simpa using hent, by simpa using hon, by simpa using hpark, by simpa using hrack,
    by simpa using hmarks, by simpa using hcount, q, hq, hposts.thenSame⟩
  · rw [modAssoc_assoc_self, hf, hrec]
  · rw [modAssoc_assoc_ne _ _ hb, (hoth b hb).1]
  · rw [slots_eq_of_keys (s := w) (by simp), (hoth b hb).2]

/-! ## The messages that bring an epoch -/

section
variable {a : Fin 64} {u : State} {epoch : Nat}

theorem advanceReaches_of_above (hs : (u.assoc a).state.inEpoch = true) (he : (u.assoc a).epochOrZero < epoch)
    (x : AdvanceReason) (i : Nat) : advanceReaches a epoch x i u = applyAdvance a epoch x i u := if_pos ⟨hs, he⟩

theorem enters_advanceDelivered (hs : (u.assoc a).state.inEpoch = true) (he : (u.assoc a).epochOrZero < epoch)
    (h : u.readyToAdvance a epoch) (reason : AdvanceReason) (x : BitVec 3) :
    Enters u (advanceDelivered a epoch reason x u) a epoch 0 0 reason x.toNat := by
  rw [advanceDelivered, if_neg (by simp [not_listening_of_inEpoch hs]), advanceReaches_of_above hs he]
  exact enters_applyAdvance h reason _

theorem enters_beaconDelivered (hs : (u.assoc a).state.inEpoch = true) (he : (u.assoc a).epochOrZero < epoch)
    (h : u.readyToAdvance a epoch) (v : Nat) (x : BitVec 3) :
    Enters u (beaconDelivered a epoch v x u) a epoch v 0 .implicit x.toNat := by
  have henters := enters_applyAdvance h .implicit x.toNat
  have hknown : ((applyAdvance a epoch .implicit x.toNat u).assoc a).state.frontKnown = true := by
    rw [henters.record]
    cases u.standbyOf a epoch <;> rfl
  have hep : ((applyAdvance a epoch .implicit x.toNat u).assoc a).epoch = some epoch := by
    rw [henters.record]
    rfl
  have hraise : beaconDelivered a epoch v x u = raiseFront a v (applyAdvance a epoch .implicit x.toNat u) := by
    simp [beaconDelivered, not_listening_of_inEpoch hs, advanceReaches_of_above hs he, hep, hknown]
  rw [hraise]
  exact henters.modAssoc (by rw [henters.record]; simp [Assoc.front, Assoc.inNewEpoch])

theorem enters_peerClaim (hs : (u.assoc a).state.inEpoch = true) (he : (u.assoc a).epochOrZero < epoch)
    (h : u.readyToAdvance a epoch) {p q : Nat} (hp : 1 ≤ p) (hpq : p ≤ q) (hc : q + 1 - p ≤ max48) (x : BitVec 3) :
    Enters u (peerClaim a p q epoch x u) a epoch q (q + 1 - p) .implicit x.toNat := by
  have henters := enters_applyAdvance h .implicit x.toNat
  have hep : ((applyAdvance a epoch .implicit x.toNat u).assoc a).epoch = some epoch := by
    rw [henters.record]
    rfl
  have hstate : (((applyAdvance a epoch .implicit x.toNat u).assoc a).state = .live ∧
      ∀ n, ((applyAdvance a epoch .implicit x.toNat u).assoc a).reserves n → n < p ∨ q < n) ∨
      ((applyAdvance a epoch .implicit x.toNat u).assoc a).state = .keyWait := by
    rw [henters.record]
    cases u.standbyOf a epoch
    · exact .inr rfl
    · exact .inl ⟨rfl, by simp [Assoc.reserves, Assoc.inNewEpoch]⟩
  have hclaim : peerClaim a p q epoch x u = (applyAdvance a epoch .implicit x.toNat u).modAssoc a (fun r =>
      { r with hwm := some (max r.front q), acc := satAdd48 r.acc (q + 1 - p) }) := by
    rw [← peerClaimInEpoch_of_outside hpq hstate (by rw [henters.record]; exact hp)]
    simp [peerClaim, not_listening_of_inEpoch hs, advanceReaches_of_above hs he, hep]
  rw [hclaim]
  refine henters.modAssoc ?_
  rw [henters.record]
  simp [Assoc.front, Assoc.inNewEpoch, satAdd48, hc]

end

/-! ## Where a message stands before it reaches the record -/

theorem Arrived.cancel {s u : State} (h : Arrived s u) (own : Bool) (m : BusMessage) :
    Arrived s (cancelByMessage own m u) := by
  obtain ⟨l, hp, ho, hl⟩ := h.posts
  exact ⟨by simp [h.assocs], by simp [h.keys], by simp [h.image], by simp [h.device], by simp [h.time], by simp [h.station],
    by simp [h.disp], by simp [h.lanes], by simp [h.rack], by simp [h.counts], by simp [h.onBus], l, hp.thenSame, ho, hl⟩

theorem Arrived.ready {s u : State} (h : Arrived s u) {a : Fin 64} {epoch : Nat} (hr : s.readyToAdvance a epoch) :
    u.readyToAdvance a epoch := by
  unfold State.readyToAdvance
  rw [assoc_eq_of_assocs h.assocs, slots_eq_of_keys h.keys]
  exact hr

/-- A message heard, or an own one delivered, stands before the record with its own entry gone. -/
theorem arrives {s : State} {m : BusMessage} {e : BusEnding}
    (h : s.hears m e ∨ (m.content.kind ≠ .claim ∧ s.delivers m false e)) :
    ∃ own u, Arrived s u ∧ busMessage m e s = finishEvent s (applyMessage own false m u) ∧
      (own = true → m.content.kind ≠ .claim) ∧
      (s.delivers m false e → u.bus.txList = s.bus.txList.filter (fun x => x != { kind := m.content.kind, assoc := m.target })) := by
  rcases h with hh | ⟨hk, hd⟩
  · refine ⟨false, s.afterHeard, arrived_afterHeard hh.2.1, busMessage_of_hears hh, by simp, fun hd => ?_⟩
    have := hh.2.1.symm.trans hd.2.1
    cases this
  · exact ⟨true, s.afterSent m false, arrived_afterSent s m false, busMessage_of_delivers hd, fun _ => hk,
      fun _ => by rw [txList_afterSent]; rfl⟩

/-- A delivered message cancels at most entries of its own kind. -/
theorem cancelByMessage_filter {s : State} {m : BusMessage} {l : List TxEntry} (own : Bool)
    (h : s.bus.txList = l.filter (fun x => x != { kind := m.content.kind, assoc := m.target }))
    (hj : m.content ≠ .join) :
    (cancelByMessage own m s).bus.txList = l.filter (fun x => x != { kind := m.content.kind, assoc := m.target }) := by
  cases hc : m.content with
  | join => exact absurd hc hj
  | claim e p n => simp [cancelByMessage, hc, h]
  | beacon e v =>
    simp only [cancelByMessage, hc]
    split
    · simp [removeTx, h, hc, MsgContent.kind]
    · rw [h, hc]
  | advance e x =>
    simp only [cancelByMessage, hc]
    (repeat' split) <;> simp [removeTx, h, hc, MsgContent.kind]

/-- A notice that is no EXCEPTION, handed over behind others while there is room for all, stands in the queue at the end. -/
theorem Posts.mem {s u : State} {l m : List Notice} {n : Notice} (h : Posts s u (l ++ n :: m)) (hd : s.device.erased = false)
    (hk : n.kind ≠ .exception) (hroom : s.status.notices.length + l.length < 32) :
    { n with time := s.time } ∈ u.status.notices := by
  have hgrow : ∀ (n : Notice) (s : State), (postNotice n s).status.notices.length ≤ s.status.notices.length + 1 := by
    intro n s
    unfold postNotice
    (repeat' split) <;> simp [mergeNotice_length, joinNotice, setAlert]
  have hlen : ∀ (l : List Notice) (s : State), (postAll l s).status.notices.length ≤ s.status.notices.length + l.length := by
    intro l
    induction l with
    | nil => intro s; simp
    | cons x l ih =>
      intro s
      have := (ih (postNotice x s)).trans (Nat.add_le_add_right (hgrow x s) _)
      simp only [List.length_cons]
      simp only [postAll_cons]
      omega
  rw [h.desk.notices, postAll_append]
  refine postAll_keeps m _ _ (fun x hx => h.noOverrun x (by simp [hx])) hk ?_
  rw [postNotice_joins hk (h.noOverrun n (by simp)) (by simpa using hd), if_pos ((hlen l s).trans_lt hroom)]
  simp

end Sys2Proof.Machine
end

section
/-! The epoch controller: every message of a higher epoch applies an advance. -/

namespace Sys2Proof.Machine

/-- What a message of an epoch comes to: `u` stands before the record, `w` behind it. -/
structure Brings (s u w : State) (m : BusMessage) (e : BusEnding) (epoch v c : Nat) (reason : AdvanceReason) : Prop where
  arrived : Arrived s u
  runs : busMessage m e s = finishEvent s w
  enters : (s.assoc m.target).state.inEpoch = true → (s.assoc m.target).epochOrZero < epoch →
    s.readyToAdvance m.target epoch → Enters u w m.target epoch v c reason m.sender.toNat
  stays : (s.assoc m.target).state.inEpoch = true → m.content.kind = .advance →
    epoch ≤ (s.assoc m.target).epochOrZero → w = u
  entryGone : s.delivers m false e →
    u.bus.txList = s.bus.txList.filter (fun x => x != { kind := m.content.kind, assoc := m.target })

section
variable {s : State} {m : BusMessage} {e : BusEnding}
  (h : s.hears m e ∨ (m.content.kind ≠ .claim ∧ s.delivers m false e)) (hd : (s.assocDef m.target).defined = true)
  (hv : m.content.valid = true)
include h hd hv

theorem brings_of_advance {epoch : BitVec 16} {code : BitVec 3} (hm : m.content = .advance epoch code) :
    ∃ u w, Brings s u w m e epoch.toNat 0 0 (AdvanceReason.ofBusCode code) := by
  obtain ⟨own, u, hu, hrun, -, hgone⟩ := arrives h
  have hc := hu.cancel own m
  have ha := assoc_eq_of_assocs hc.assocs m.target
  rw [applyMessage_advance hm (by rwa [assocDef_eq_of_image hu.image]) hv] at hrun
  refine ⟨cancelByMessage own m u, _, hc, hrun, fun hs he hr => ?_, fun hs _ he => ?_, fun hdel => ?_⟩
  · exact enters_advanceDelivered (by rwa [ha]) (by rwa [ha]) (hc.ready hr) _ _
  · rw [advanceDelivered, if_neg (by simp [ha, not_listening_of_inEpoch hs]),
      advanceReaches_of_not_above (fun _ => by rwa [ha])]
  · exact cancelByMessage_filter own (hgone hdel) (by simp [hm])

theorem brings_of_beacon {epoch : BitVec 16} {hwm : BitVec 48} (hm : m.content = .beacon epoch hwm) :
    ∃ u w, Brings s u w m e epoch.toNat hwm.toNat 0 .implicit := by
  obtain ⟨own, u, hu, hrun, -, hgone⟩ := arrives h
  have hc := hu.cancel own m
  have ha := assoc_eq_of_assocs hc.assocs m.target
  have hz : epoch ≠ 0 := by simpa [hm, MsgContent.valid] using hv
  rw [applyMessage_beacon hm (by rwa [assocDef_eq_of_image hu.image]) hz] at hrun
  refine ⟨cancelByMessage own m u, _, hc, hrun, fun hs he hr => ?_, fun hs hk _ => ?_, fun hdel => ?_⟩
  · exact enters_beaconDelivered (by rwa [ha]) (by rwa [ha]) (hc.ready hr) _ _
  · rw [hm] at hk
    cases hk
  · exact cancelByMessage_filter own (hgone hdel) (by simp [hm])

theorem brings_of_claim {epoch : BitVec 16} {start : BitVec 48} {count : BitVec 24} (hm : m.content = .claim epoch start count) :
    ∃ u w, Brings s u w m e epoch.toNat (start.toNat + count.toNat - 1) count.toNat .implicit := by
  obtain ⟨own, u, hu, hrun, hown, hgone⟩ := arrives h
  have hfalse : own = false := by
    cases own
    · rfl
    · exact absurd (by rw [hm]; rfl) (hown rfl)
  subst hfalse
  have ha := assoc_eq_of_assocs hu.assocs m.target
  rw [applyMessage_peerClaim hm (by rwa [assocDef_eq_of_image hu.image]) hv] at hrun
  obtain ⟨hp, hc, hpq, -, hmax⟩ := claim_valid (hm ▸ hv)
  have hcount : start.toNat + count.toNat - 1 + 1 - start.toNat = count.toNat := by omega
  refine ⟨u, _, hu, hrun, fun hs he hr => ?_, fun hs hk _ => ?_, fun hdel => hgone hdel⟩
  · have := enters_peerClaim (by rwa [ha]) (by rwa [ha]) (hu.ready hr) hp hpq
      (by rw [hcount]; exact hmax.trans (by norm_num [max48])) m.sender
    rwa [hcount] at this
  · rw [hm] at hk
    cases hk

end

/-- KEY-DISCARDED notices as handed over, and as queued. -/
theorem namedIn_discardsIn (s : State) (a : Fin 64) (p : KeySlot → Bool) :
    namedIn (s.discardsIn a p (List.finRange 4)) s.time a.val = s.discardNotices a p := by
  have hall : (s.discardsIn a p (List.finRange 4)).filter (fun n => n.assoc == a.val && n.kind != .exception) =
      s.discardsIn a p (List.finRange 4) := by
    refine List.filter_eq_self.2 fun n hn => ?_
    obtain ⟨j, -, hj⟩ := List.mem_filterMap.1 hn
    split at hj
    · cases hj
      simp [newNotice]
    · cases hj
  rw [namedIn, hall, State.discardsIn, State.discardNotices, List.map_filterMap]
  refine List.filterMap_congr fun j _ => ?_
  split
  · rfl
  · rfl

/-- The notices of a missing STANDBY, as queued. -/
theorem namedIn_standbyNotices (s : State) (a : Fin 64) (e : Nat) :
    namedIn (s.standbyNotices a e) s.time a.val =
      if s.standbyOf a e = true then []
      else s.discardNotices a (fun k => k.role == .standby) ++ [s.keyNotice .keyWanted .none a e] := by
  unfold State.standbyNotices
  split
  · rfl
  · rw [namedIn_append, namedIn_discardsIn]
    simp [namedIn, newNotice, State.keyNotice]

/-- A station that takes part in a message is not zeroized. -/
theorem not_erased_of_takesPart {s : State} {e : BusEnding} (h : s.takesPart e = true) : s.device.erased = false := by
  have hw : s.device.working = true := (Bool.and_eq_true_iff.1 h).1
  cases hd : s.device <;> simp_all [DeviceState.working, DeviceState.erased]

/-- Settles O17: a message of a higher epoch enters it, whatever its kind, and an ADVANCE of no higher one is ignored. -/
theorem advanceIsApplied : Obligations.AdvanceIsApplied := by
  intro s assoc sender content e E V C reason c m a hkind hh hd hv hs standby
  obtain ⟨hexec, u, w, hb⟩ : exec c s = .next (busMessage m e s) ∧ ∃ u w, Brings s u w m e E V C reason := by
    rcases hkind with ⟨epoch, code, rfl, rfl, rfl, rfl, rfl, rfl⟩ | ⟨epoch, start, count, rfl, rfl, rfl, rfl, rfl, rfl⟩ |
      ⟨epoch, hwm, rfl, rfl, rfl, rfl, rfl, rfl⟩
    · exact ⟨rfl, brings_of_advance hh hd hv rfl⟩
    · exact ⟨rfl, brings_of_claim hh hd hv rfl⟩
    · exact ⟨rfl, brings_of_beacon hh hd hv rfl⟩
  obtain ⟨hu, hrun, henters, hstays, hgone⟩ := hb
  have hset := finishEvent_settled s w
  rw [← hrun] at hset
  obtain ⟨l0, hp0, ho0, hl0⟩ := hu.posts
  refine ⟨busMessage m e s, hexec, fun hk he => ?_, fun he hready => ?_⟩
  · rw [hstays hs hk he] at hset
    refine ⟨hset.assocs.trans hu.assocs, hset.keys.trans hu.keys, ?_, ?_, fun hdel => ?_⟩
    · have := notified_of_posts hp0 hset (by rw [hu.rack]) a.val
      rwa [namedIn_ofPart ho0] at this
    · exact releases_of_settled hset [] _ (by rw [hu.disp]) (by simp [hu.disp]) (by simp)
    · rw [hset.bus]
      refine ⟨hu.onBus, ?_⟩
      rw [hgone hdel]
      simp only [m, hk]
      rfl
  · have hE : Enters u w a E V C reason sender.toNat := henters hs he hready
    obtain ⟨hrec, hoth, hent, hon, hpark, hrack, hmarks, hcount, q, hq, hposts⟩ := hE
    have hua : u.assoc a = s.assoc a := assoc_eq_of_assocs hu.assocs a
    have hst : u.standbyOf a E = s.standbyOf a E := by simp [State.standbyOf, slots_eq_of_keys hu.keys]
    have hnotices : u.standbyNotices a E = s.standbyNotices a E := by
      simp [State.standbyNotices, State.discardsIn, hst, slots_eq_of_keys hu.keys]
    have hstandby : s.standbyOf a E = true ↔ standby := standbyOf_iff
    have hposted := hp0.trans hposts
    refine ⟨?_, ?_, fun b hb => ?_, ?_, ?_, fun hdel => ?_, ?_, fun hsend hroom => ?_, ?_⟩
    · rw [assoc_eq_of_assocs hset.assocs, hrec, hua, hst, assocDef_eq_of_image hu.image]
      by_cases h : standby
      · simp only [if_pos h, hstandby.2 h, Bool.and_true]
        rfl
      · have hf : s.standbyOf a E = false := Bool.eq_false_iff.2 (mt hstandby.1 h)
        simp only [if_neg h, hf, Bool.and_false]
        rfl
    · rw [hset.bus, hent, hua, hst, hstandby]
      simp
    · obtain ⟨h1, h2⟩ := hoth b hb
      rw [assoc_eq_of_assocs hset.assocs, slots_eq_of_keys hset.keys, h1, h2, assoc_eq_of_assocs hu.assocs,
        slots_eq_of_keys hu.keys]
      exact ⟨rfl, rfl⟩
    · rw [hset.bus, hent]
      simp
    · refine releases_of_settled hset _ _ (hpark.trans (by rw [hu.disp])) (hmarks.trans (by rw [hu.disp])) fun b k => ?_
      rw [hst]
      by_cases h : standby
      · simp only [hstandby.2 h]
        cases k <;> simp [h]
      · have hf : s.standbyOf a E = false := Bool.eq_false_iff.2 (mt hstandby.1 h)
        simp only [hf]
        cases k <;> simp [h]
    · rw [hset.bus, hent]
      refine ⟨hon hu.onBus, ?_⟩
      rw [hgone hdel]
      rintro (⟨hin, -⟩ | ⟨hclaim, -⟩)
      · simp [m, a] at hin
      · rcases hh with hears | ⟨hk, -⟩
        · exact absurd (hears.2.1.symm.trans hdel.2.1) (by simp)
        · injection hclaim with h1 h2
          exact hk h1
    · have := (count_eq_of_counters (congrArg Counters.assoc hset.counters) a .discardAdvance).trans hcount
      rw [hua, count_eq_of_counters hu.counts] at this
      exact this
    · have hdev : s.device.erased = false := by
        rcases hh with hears | ⟨-, hdel⟩
        · exact not_erased_of_takesPart hears.1
        · exact not_erased_of_takesPart hdel.1
      have hrs : w.rack.sending = s.rack.sending := by rw [hrack, hu.rack]
      rw [hset.notices_of_sending (by rw [hrs]; exact hsend)]
      exact hposted.mem (n := newNotice .advanced (.reason reason) a.val E sender.toNat 1 false) hdev (by simp [newNotice])
        (by omega)
    · have := notified_of_posts hposted hset (by rw [hrack, hu.rack]) a.val
      rw [namedIn_append, namedIn_ofPart ho0, List.nil_append, ← List.singleton_append, namedIn_append, namedIn_append,
        namedIn_ofPart (fun n hn => (hq n hn).ofPart), hnotices, namedIn_standbyNotices] at this
      have hadv : namedIn [newNotice .advanced (.reason reason) a.val E sender.toNat 1 false] s.time a.val =
          [s.advancedNotice reason a E sender.toNat false] := by
        simp [namedIn, newNotice, State.advancedNotice]
      rw [hadv, List.nil_append] at this
      by_cases h : standby
      · rw [if_pos (hstandby.2 h)] at this
        rw [if_pos h]
        exact this
      · rw [if_neg (mt hstandby.1 h)] at this
        rw [if_neg h]
        exact this

end Sys2Proof.Machine
end

section
/-! PROOF. A range walk, and the counter a dispatch assigns: it comes from a range that was reserved and is not stale (R9, R11). -/

namespace Sys2Proof.Machine

/-! ## The range walk (R9) -/

theorem discardStale_marks {a : Fin 64} {s : State} {x : ActiveRange} (h : (s.assoc a).active = some x) :
    (discardStale a s).disp.marks = s.disp.marks ++ starvedMark a (s.assoc a).queued.isSome := by
  simp [discardStale, h]

theorem count_discardStale {a : Fin 64} {s : State} {x : ActiveRange} (h : (s.assoc a).active = some x) :
    (discardStale a s).count a .discardStale = satAdd48 (s.count a .discardStale) x.left := by
  simp [discardStale, h]

theorem count_discardStale_ne {a : Fin 64} {s : State} {k : AssocCount} (hk : k ≠ .discardStale) (b : Fin 64) :
    (discardStale a s).count b k = s.count b k := by
  unfold discardStale
  split <;> simp [hk]

/-- The trap a stale range is reported with. -/
theorem posts_discardStale {a : Fin 64} {s : State} {x : ActiveRange} (h : (s.assoc a).active = some x) :
    Posts s (discardStale a s) (s.handed .staleDiscard a x.left 1) := by
  simp only [discardStale, h]
  have hb : Posts s (bump a .discardStale x.left s) [] := posts_of_status
  have hr := hb.trans (posts_report .staleDiscard a x.left 1 _)
  rw [handed_congr (s := s) (by simp) (by simp), List.nil_append] at hr
  exact hr.thenSame

theorem staleActive_iff {s : State} {a : Fin 64} {x : ActiveRange} (h : (s.assoc a).active = some x) :
    s.staleActive a = true ↔ x.next + s.span a ≤ (s.assoc a).front := by
  simp [State.staleActive, h]

theorem staleActive_of_none {s : State} {a : Fin 64} (h : (s.assoc a).active = none) : s.staleActive a = false := by
  simp [State.staleActive, h]

theorem active_of_stale {s : State} {a : Fin 64} (h : s.staleActive a = true) : ∃ x, (s.assoc a).active = some x := by
  cases hx : (s.assoc a).active with
  | none => simp [staleActive_of_none hx] at h
  | some x => exact ⟨x, rfl⟩

theorem rangeWalk_of_fresh {s : State} {a : Fin 64} (h : s.staleActive a = false) (n : Nat) : rangeWalk n a s = s := by
  cases n <;> simp [rangeWalk, h]

theorem rangeWalk_of_stale {s : State} {a : Fin 64} (h : s.staleActive a = true) (n : Nat) :
    rangeWalk (n + 1) a s = rangeWalk n a (discardStale a s) := if_pos h

@[simp] theorem rangeWalk_assoc_ne {a b : Fin 64} (h : b ≠ a) (n : Nat) (s : State) :
    (rangeWalk n a s).assoc b = s.assoc b := by
  induction n generalizing s with
  | zero => rfl
  | succ n ih =>
    rw [rangeWalk]
    split
    · rw [ih, discardStale_assoc_ne h]
    · rfl

/-- A walk keeps what is not the reservation, a or k. -/
theorem rangeWalk_keeps (n : Nat) (a : Fin 64) (s : State) :
    ((rangeWalk n a s).assoc a).state = (s.assoc a).state ∧ ((rangeWalk n a s).assoc a).epoch = (s.assoc a).epoch ∧
      ((rangeWalk n a s).assoc a).hwm = (s.assoc a).hwm ∧
      ((rangeWalk n a s).assoc a).assigned = (s.assoc a).assigned := by
  induction n generalizing s with
  | zero => exact ⟨rfl, rfl, rfl, rfl⟩
  | succ n ih =>
    rw [rangeWalk]
    split
    · rename_i hs
      obtain ⟨x, hx⟩ := active_of_stale hs
      have h := ih (discardStale a s)
      rw [discardStale_assoc_self hx] at h
      exact h
    · exact ⟨rfl, rfl, rfl, rfl⟩

theorem span_of_image {s t : State} (h : t.image = s.image) (a : Fin 64) : t.span a = s.span a := by
  simp [State.span, assocDef_eq_of_image h]

/-- The active range that two walks leave was reserved, and is not stale. -/
theorem rangeWalk_active {s : State} {a : Fin 64} {x : ActiveRange} (h : ((rangeWalk 2 a s).assoc a).active = some x) :
    ((s.assoc a).active = some x ∨ (s.assoc a).queued.map QueuedRange.promoted = some x) ∧
      (s.assoc a).front < x.next + s.span a := by
  cases h0 : s.staleActive a with
  | false =>
    rw [rangeWalk_of_fresh h0] at h
    exact ⟨.inl h, by have := (staleActive_iff h).not.1 (by simp [h0]); omega⟩
  | true =>
    obtain ⟨y, hy⟩ := active_of_stale h0
    have hr := discardStale_assoc_self hy
    have hf : ((discardStale a s).assoc a).front = (s.assoc a).front := by rw [hr]; rfl
    rw [rangeWalk_of_stale h0] at h
    cases h1 : (discardStale a s).staleActive a with
    | false =>
      rw [rangeWalk_of_fresh h1] at h
      have hn := (staleActive_iff h).not.1 (by simp [h1])
      rw [hf, span_of_image (s := s) (by simp)] at hn
      rw [hr] at h
      exact ⟨.inr h, by omega⟩
    | true =>
      obtain ⟨z, hz⟩ := active_of_stale h1
      rw [rangeWalk_of_stale h1] at h
      have hq : ((discardStale a s).assoc a).queued = none := by rw [hr]; rfl
      simp [rangeWalk, discardStale_assoc_self hz, Assoc.staleGone, Assoc.promoted, hq] at h

/-! ## Frames an event lets go or keeps (R90) -/

/-- Every stored frame is gone, or as it was. -/
def FramesShrink (s t : State) : Prop := ∀ h, t.frame? h = none ∨ t.frame? h = s.frame? h

theorem FramesShrink.trans {s u t : State} (h : FramesShrink s u) (k : FramesShrink u t) : FramesShrink s t := by
  intro f
  rcases k f with hf | hf
  · exact .inl hf
  · rw [hf]; exact h f

theorem framesShrink_of_pool {s t : State} (h : t.buf.pool = s.buf.pool := by simp) : FramesShrink s t :=
  fun f => .inr (frame?_eq_of_pool h f)

theorem pauseTest_pool (s : State) : (pauseTest s).buf.pool = s.buf.pool := by
  unfold pauseTest
  (repeat' split) <;> rfl

theorem pauseTest_freeCells (s : State) : (pauseTest s).buf.freeCells = s.buf.freeCells := by
  unfold pauseTest
  (repeat' split) <;> rfl

theorem releaseFrame_of_some {s : State} {h : Nat} {d : Descriptor} (hd : s.frame? h = some d) :
    (releaseFrame h s).buf.pool = tableErase s.buf.pool h ∧
      (releaseFrame h s).buf.freeCells = s.buf.freeCells + d.cells := by
  unfold releaseFrame
  rw [hd]
  exact ⟨pauseTest_pool _, pauseTest_freeCells _⟩

theorem releaseFrame_frame? (h : Nat) (s : State) (f : Nat) :
    (releaseFrame h s).frame? f = if f = h then none else s.frame? f := by
  cases hd : s.frame? h with
  | none =>
    have he : releaseFrame h s = s := by unfold releaseFrame; rw [hd]
    rw [he]
    split
    · rename_i hf; rw [hf, hd]
    · rfl
  | some d =>
    unfold State.frame?
    rw [(releaseFrame_of_some hd).1, tableGet_tableErase]

theorem framesShrink_releaseFrame (h : Nat) (s : State) : FramesShrink s (releaseFrame h s) := by
  intro f
  rw [releaseFrame_frame?]
  split
  · exact .inl rfl
  · exact .inr rfl

theorem framesShrink_removeLaneFrame (l : Fin 4) (s : State) : FramesShrink s (removeLaneFrame l s) := by
  unfold removeLaneFrame
  split
  · refine FramesShrink.trans ?_ (framesShrink_releaseFrame _ _)
    split <;> exact framesShrink_of_pool
  · exact framesShrink_of_pool

theorem framesShrink_abandonLanes (r : SlotRef) (l : List (Fin 4)) (s : State) :
    FramesShrink s (l.foldl (abandonLane r) s) := by
  induction l generalizing s with
  | nil => exact framesShrink_of_pool
  | cons m l ih =>
    rw [List.foldl_cons]
    exact (FramesShrink.trans (framesShrink_of_pool (by simp)) (framesShrink_removeLaneFrame m _)).trans (ih _)

theorem framesShrink_setSlot (r : SlotRef) (k : KeySlot) (s : State) : FramesShrink s (s.setSlot r k) :=
  framesShrink_of_pool

theorem framesShrink_freeOldestRetiring (a : Fin 64) (s : State) : FramesShrink s (freeOldestRetiring a s) := by
  unfold freeOldestRetiring
  split
  · exact (framesShrink_abandonLanes _ _ s).trans (framesShrink_setSlot _ _ _)
  · exact framesShrink_of_pool

theorem framesShrink_retireCurrent (a : Fin 64) (s : State) : FramesShrink s (retireCurrent a s) := by
  unfold retireCurrent
  split
  · simp only
    split
    · exact framesShrink_setSlot _ _ s
    split
    · exact (framesShrink_freeOldestRetiring a s).trans (framesShrink_setSlot _ _ _)
    · exact framesShrink_setSlot _ _ s
  · exact framesShrink_of_pool

theorem discardKeys_buf (a : Fin 64) (p : KeySlot → Bool) (s : State) : (discardKeys a p s).buf = s.buf := by simp

theorem framesShrink_retire (a : Fin 64) (e : Bool) (s : State) : FramesShrink s (retire a e s) := by
  have h := (framesShrink_of_pool (s := s) (t := retireRecord a s)).trans (framesShrink_retireCurrent a _)
  refine h.trans (framesShrink_of_pool ?_)
  cases e <;> simp [retire, postAllMarks, postEpochEnd]

theorem framesShrink_requestAdvance (a : Fin 64) (x : AdvanceReason) (s : State) :
    FramesShrink s (requestAdvance a x s) := by
  unfold requestAdvance
  split
  · exact framesShrink_of_pool
  split
  · exact framesShrink_retire a true s
  (repeat' split) <;> exact framesShrink_of_pool

theorem framesShrink_requestClaim (a : Fin 64) (s : State) : FramesShrink s (requestClaim a s) := by
  unfold requestClaim
  split
  · exact framesShrink_of_pool
  split
  · exact framesShrink_of_pool
  split
  · exact framesShrink_of_pool
  split
  · exact framesShrink_requestAdvance a _ s
  · exact framesShrink_of_pool

theorem framesShrink_prefetchTest (a : Fin 64) (s : State) : FramesShrink s (prefetchTest a s) := by
  unfold prefetchTest
  split
  · exact framesShrink_requestClaim a s
  · exact framesShrink_of_pool

theorem framesShrink_serveCounter (a : Fin 64) (s : State) : FramesShrink s (serveCounter a s).1 := by
  have h : FramesShrink s (rangeWalk 2 a s) := framesShrink_of_pool
  unfold serveCounter
  simp only
  split
  · exact h
  split
  · exact h.trans (framesShrink_requestAdvance _ _ _)
  · exact h.trans (framesShrink_requestClaim _ _)

theorem framesShrink_checkFrame (d : Descriptor) (s : State) : FramesShrink s (checkFrame d s).1 := by
  fun_cases checkFrame d s
  case case9 a _ _ _ _ => exact framesShrink_serveCounter a s
  all_goals exact framesShrink_of_pool rfl

theorem framesShrink_dropFrame (h : Nat) (d : Descriptor) (c : ExcClass) (v : Nat) (s : State) :
    FramesShrink s (dropFrame h d c v s) := by
  unfold dropFrame
  split
  · exact (framesShrink_of_pool (by simp)).trans (framesShrink_releaseFrame _ _)
  · exact (framesShrink_of_pool (by simp)).trans (framesShrink_releaseFrame _ _)

theorem framesShrink_parkFrame (a : Fin 64) (h : Nat) (d : Descriptor) (c : ExcClass) (b : Bool) (s : State) :
    FramesShrink s (parkFrame a h d c b s) := by
  unfold parkFrame
  split
  · exact framesShrink_dropFrame _ _ _ _ _
  · exact framesShrink_of_pool (by simp)

/-! ## The hand-off (R133) -/

/-- A descriptor put under a handle is the one found there, and the others stay. -/
theorem tableGet_put (t : List (Nat × Descriptor)) (i j : Nat) (x : Descriptor) :
    tableGet (tablePut t i x) j = if j = i then some x else tableGet t j := by
  induction t with
  | nil => simp only [tablePut, tableGet, eq_comm (a := j)]
  | cons p t ih =>
    obtain ⟨k, v⟩ := p
    rw [tablePut]
    split
    · simp only [tableGet, eq_comm (a := j)]
    split
    · rename_i hk
      subst hk
      simp only [tableGet, eq_comm (a := j)]
      split <;> rfl
    · rename_i hk
      simp only [tableGet, ih]
      by_cases hj : j = i
      · rw [if_pos hj, if_neg (hj ▸ hk), if_pos hj]
      · rw [if_neg hj, if_neg hj]

theorem handOff_of_none {s : State} (h : s.idleLane? = none) (f : Nat) (d : Descriptor) (x : Option Assigned) :
    handOff f d x s = s := by
  unfold handOff
  rw [h]

theorem handOff_frame? {f : Nat} {d : Descriptor} {x : Option Assigned} {s : State} (h : Nat) :
    (handOff f d x s).frame? h = s.frame? h ∨
      (h = f ∧ (handOff f d x s).frame? h = some { d with assigned := x }) := by
  cases hl : s.idleLane? with
  | none => exact .inl (by rw [handOff_of_none hl])
  | some l =>
    have hp : (handOff f d x s).buf.pool = tablePut s.buf.pool f { d with assigned := x } := by
      simp only [handOff, hl]
      simp
    unfold State.frame?
    rw [hp, tableGet_put]
    by_cases hf : h = f
    · exact .inr ⟨hf, if_pos hf⟩
    · exact .inl (if_neg hf)

end Sys2Proof.Machine
end

section
/-! PROOF. An assigned counter was reserved, never assigned before, and is inside the window (R5, R9, R11). -/

namespace Sys2Proof.Machine

/-! ## The checks, case by case (R111, R113, R114) -/

/-- The fault of an association in a state that is neither LIVE nor RETIRED (R114). -/
def waitingFault : AssocState → ExcClass
  | .settling => .settling
  | .blind => .blind
  | _ => .noKey

section
variable {d : Descriptor} {s : State} {a : Fin 64}

theorem checkFrame_clear (hd : d.action = .clear) :
    checkFrame d s = (s, if s.cfg.cMax < d.length then .abort .oversize else .passClear) := by
  simp only [checkFrame, hd]

variable (hd : d.action = .encrypt a)
include hd

theorem checkFrame_retired (h : (s.assoc a).state = .retired) : checkFrame d s = (s, .abort .retired) := by
  simp [checkFrame, hd, h]

theorem checkFrame_oversize (h : (s.assoc a).state ≠ .retired) (hl : s.cfg.cMax < d.length + 28) :
    checkFrame d s = (s, .abort .oversize) := by
  simp [checkFrame, hd, h, hl]

theorem checkFrame_waiting (h : (s.assoc a).state ≠ .retired) (h' : (s.assoc a).state ≠ .live)
    (hl : d.length + 28 ≤ s.cfg.cMax) : checkFrame d s = (s, .fault (waitingFault (s.assoc a).state)) := by
  have hn : ¬ s.cfg.cMax < d.length + 28 := by omega
  cases hs : (s.assoc a).state <;> simp_all [checkFrame, waitingFault]

theorem checkFrame_live (h : (s.assoc a).state = .live) (hl : d.length + 28 ≤ s.cfg.cMax) :
    checkFrame d s = serveCounter a s := by
  have hn : ¬ s.cfg.cMax < d.length + 28 := by omega
  simp [checkFrame, hd, h, hn]

end

theorem serveCounter_of_active {a : Fin 64} {s : State} (h : ((rangeWalk 2 a s).assoc a).active.isSome = true) :
    serveCounter a s = (rangeWalk 2 a s, .assign a) := if_pos h

theorem serveCounter_of_none {a : Fin 64} {s : State} (h : ((rangeWalk 2 a s).assoc a).active = none) :
    serveCounter a s =
      if (rangeWalk 2 a s).exhausted a then (requestAdvance a .exhausted (rangeWalk 2 a s), .fault .exhausted)
      else (requestClaim a (rangeWalk 2 a s), .fault .starved) := if_neg (by simp [h])

/-- The checks hand over to the assignment of a counter only for a LIVE association, after the range walk, with a range active. -/
theorem checkFrame_assign {d : Descriptor} {s : State} {a : Fin 64} (h : (checkFrame d s).2 = .assign a) :
    (s.assoc a).state = .live ∧ (checkFrame d s).1 = rangeWalk 2 a s ∧
      ((rangeWalk 2 a s).assoc a).active.isSome = true := by
  cases hd : d.action with
  | clear => rw [checkFrame_clear hd] at h; simp only at h; split at h <;> cases h
  | encrypt b =>
    by_cases hr : (s.assoc b).state = .retired
    · rw [checkFrame_retired hd hr] at h; cases h
    by_cases hl : s.cfg.cMax < d.length + 28
    · rw [checkFrame_oversize hd hr hl] at h; cases h
    by_cases hv : (s.assoc b).state = .live
    · rw [checkFrame_live hd hv (by omega)] at h ⊢
      cases ha : ((rangeWalk 2 b s).assoc b).active with
      | none => rw [serveCounter_of_none ha] at h; split at h <;> cases h
      | some x =>
        rw [serveCounter_of_active (by rw [ha]; rfl)] at h ⊢
        cases h
        exact ⟨hv, rfl, by rw [ha]; rfl⟩
    · rw [checkFrame_waiting hd hr hv (by omega)] at h; cases h

/-- Only a CLEAR frame passes without a counter. -/
theorem clear_of_passClear {d : Descriptor} {s : State} (h : (checkFrame d s).2 = .passClear) : d.action = .clear := by
  cases hd : d.action with
  | clear => rfl
  | encrypt b =>
    exfalso
    by_cases hr : (s.assoc b).state = .retired
    · rw [checkFrame_retired hd hr] at h; cases h
    by_cases hl : s.cfg.cMax < d.length + 28
    · rw [checkFrame_oversize hd hr hl] at h; cases h
    by_cases hv : (s.assoc b).state = .live
    · rw [checkFrame_live hd hv (by omega)] at h
      unfold serveCounter at h
      simp only at h
      (repeat' split at h) <;> cases h
    · rw [checkFrame_waiting hd hr hv (by omega)] at h; cases h

/-! ## Where a counter is assigned (R115) -/

/-- `x` is what the hand-off records for a LIVE association: the first counter of a range of its reservation that is not stale. -/
structure Served (s : State) (x : Assigned) : Prop where
  live : (s.assoc x.slot.assoc).state = .live
  reserved : ∃ r : ActiveRange, ((s.assoc x.slot.assoc).active = some r ∨
    (s.assoc x.slot.assoc).queued.map QueuedRange.promoted = some r) ∧ x.counter = r.next ∧
    (s.assoc x.slot.assoc).front < r.next + s.span x.slot.assoc
  epoch : x.epoch = (s.assoc x.slot.assoc).epochOrZero

/-- An event did not assign a counter to a frame that had none, but as `Served` says. -/
def AssignsServed (s t : State) : Prop :=
  ∀ (h : Nat) (d : Descriptor) (x : Assigned), s.frame? h = some d → d.assigned = none →
    t.frame? h = some { d with assigned := some x } → Served s x

theorem assignsServed_of_shrink {s t : State} (h : FramesShrink s t) : AssignsServed s t := by
  intro f d x hf hd ht
  rcases h f with hn | hs
  · rw [hn] at ht; cases ht
  · rw [hs, hf] at ht
    injection ht with ht
    rw [ht] at hd
    cases hd

theorem AssignsServed.before {s u t : State} (h : AssignsServed u t) (hp : u.buf.pool = s.buf.pool := by simp)
    (ha : u.assocs = s.assocs := by simp) (hi : u.image = s.image := by simp) : AssignsServed s t := by
  intro f d x hf hd ht
  obtain ⟨hl, hr, he⟩ := h f d x (by rw [frame?_eq_of_pool hp]; exact hf) hd ht
  rw [assoc_eq_of_assocs ha] at hl hr he
  rw [span_of_image hi] at hr
  exact ⟨hl, hr, he⟩

/-- A hand-off records what it is given, in the frame it is given, and what follows in the event lets frames go at most. -/
theorem assigned_of_handOff {v t : State} {f : Nat} {d : Descriptor} {x : Option Assigned}
    (h : FramesShrink (handOff f d x v) t) {g : Nat} {e : Descriptor} {y : Assigned} (hg : v.frame? g = some e)
    (he : e.assigned = none) (ht : t.frame? g = some { e with assigned := some y }) : x = some y := by
  have hv : (handOff f d x v).frame? g = some { e with assigned := some y } := by
    rcases h g with hn | hs
    · rw [hn] at ht; cases ht
    · rw [← hs]; exact ht
  rcases handOff_frame? (f := f) (d := d) (x := x) (s := v) g with hs | ⟨-, hs⟩
  · rw [hs, hg] at hv
    injection hv with hv
    rw [hv] at he
    cases he
  · rw [hs] at hv
    injection hv with hv
    injection hv

theorem assignsServed_handOff (f : Nat) (d : Descriptor) (s : State) : AssignsServed s (handOff f d none s) := by
  intro g e y hg he ht
  cases assigned_of_handOff (framesShrink_of_pool rfl) hg he ht

/-- After the walk of its association, `sendToLane` assigns the next counter of what the walk left. -/
theorem assignsServed_sendToLane {s w : State} {a : Fin 64} (hl : (s.assoc a).state = .live)
    (hr : ((rangeWalk 2 a s).assoc a).active.isSome = true) (hw : w.assocs = (rangeWalk 2 a s).assocs)
    (hp : w.buf.pool = s.buf.pool) (f : Nat) (d : Descriptor) : AssignsServed s (sendToLane a f d w) := by
  intro g e y hg he ht
  obtain ⟨r, hr⟩ := Option.isSome_iff_exists.1 hr
  obtain ⟨-, hepoch, -, -⟩ := rangeWalk_keeps 2 a s
  obtain ⟨hres, hspan⟩ := rangeWalk_active hr
  have hy : some (w.assignment a) = some y :=
    assigned_of_handOff (framesShrink_prefetchTest a _)
      ((frame?_eq_of_pool (by simp [hp]) g).trans hg) he ht
  injection hy with hy
  subst hy
  have ha := assoc_eq_of_assocs hw a
  exact ⟨hl, ⟨r, hres, by simp [State.assignment, ha, hr], hspan⟩, by simp [State.assignment, ha, Assoc.epochOrZero, hepoch]⟩

theorem assignsServed_queued (f : Nat) (d : Descriptor) (s : State) :
    AssignsServed s (settleQueued f d (checkFrame d s)) := by
  have hc := framesShrink_checkFrame d s
  unfold settleQueued
  split
  · rename_i hv
    rw [checkFrame_clear (clear_of_passClear hv)]
    exact assignsServed_handOff f d s
  · rename_i a hv
    obtain ⟨hl, hw, hr⟩ := checkFrame_assign hv
    exact assignsServed_sendToLane hl hr (by rw [hw]) (by rw [hw]; simp) f d
  · exact assignsServed_of_shrink (hc.trans (framesShrink_dropFrame _ _ _ _ _))
  · split
    · exact assignsServed_of_shrink (hc.trans (framesShrink_parkFrame _ _ _ _ _ _))
    · exact assignsServed_of_shrink (hc.trans (framesShrink_dropFrame _ _ _ _ _))

theorem framesShrink_unpark (f n : Nat) (s : State) : FramesShrink s (unpark f n s) := framesShrink_of_pool

theorem assignsServed_parked (e : ParkEntry) (d : Descriptor) (s : State) :
    AssignsServed s (settleParked e d (checkFrame d s)) := by
  have hc := framesShrink_checkFrame d s
  have hu := hc.trans (framesShrink_unpark e.frame d.cells _)
  unfold settleParked
  split
  · rename_i hv
    rw [checkFrame_clear (clear_of_passClear hv)]
    exact (assignsServed_handOff e.frame d _).before
  · rename_i a hv
    obtain ⟨hl, hw, hr⟩ := checkFrame_assign hv
    exact assignsServed_sendToLane hl hr (by rw [hw]; simp) (by rw [hw]; simp) e.frame d
  · exact assignsServed_of_shrink (hu.trans (framesShrink_dropFrame _ _ _ _ _))
  · split
    · exact assignsServed_of_shrink (hc.trans (framesShrink_of_pool (by simp)))
    · exact assignsServed_of_shrink (hu.trans (framesShrink_dropFrame _ _ _ _ _))

theorem assignsServed_dispatch (c : Candidate) (s : State) : AssignsServed s (dispatchCandidate c s) := by
  cases c with
  | parked e =>
    show AssignsServed s (dispatchParked e s)
    unfold dispatchParked
    split
    · exact assignsServed_of_shrink (framesShrink_unpark _ _ s)
    · exact assignsServed_parked e _ s
  | queued q f rest =>
    show AssignsServed s (dispatchQueued q f rest s)
    unfold dispatchQueued
    split
    · exact assignsServed_of_shrink framesShrink_of_pool
    · simp only
      split
      · exact (assignsServed_of_shrink (framesShrink_parkFrame _ _ _ _ _ _)).before
      · exact (assignsServed_queued f _ _).before

theorem AssignsServed.settled {s u t : State} (h : AssignsServed s u) (hs : Settled u t) : AssignsServed s t :=
  fun g d x hg hd ht => h g d x hg hd (by rw [← frame?_eq_of_pool hs.pool]; exact ht)

theorem assignsServed_exec {s t : State} (h : exec .dispatch s = .next t) : AssignsServed s t := by
  have he : exec .dispatch s = execDispatch s := rfl
  rw [he, execDispatch] at h
  split at h
  · split at h
    · cases h
      exact (assignsServed_dispatch _ s).settled (finishEvent_settled s _)
    · cases h
      exact assignsServed_of_shrink framesShrink_of_pool
  · cases h
    exact assignsServed_of_shrink framesShrink_of_pool

/-- Settles O32: the counter comes from a range of the reservation, which stands above every counter assigned and is not stale. -/
theorem assignedCounterIsFresh : Obligations.AssignedCounterIsFresh := by
  intro s t f d x ho hx hf hd ht
  obtain ⟨hl, ⟨r, hr, hn, hspan⟩, he⟩ := assignsServed_exec hx f d x hf hd ht
  obtain ⟨hform, hord⟩ := ho.sound x.slot.assoc
  obtain ⟨e, hepoch⟩ := Option.isSome_iff_exists.1 ((inForm_live hl).1 hform).1
  have hin : (s.assoc x.slot.assoc).reserves r.next ∧ (s.assoc x.slot.assoc).assigned < r.next ∧
      r.next ≤ (s.assoc x.slot.assoc).front := by
    rcases hr with hr | hr
    · have h := hord.2.2.1 r hr
      exact ⟨.inl ⟨r, hr, le_rfl, h.2.1⟩, h.1, by omega⟩
    · obtain ⟨y, hy, rfl⟩ := Option.map_eq_some_iff.1 hr
      have h := queued_above hord hy
      exact ⟨.inr ⟨y, hy, le_rfl, h.2.1⟩, h.1, h.2.1.trans h.2.2⟩
  obtain ⟨hres, hass, hfront⟩ := hin
  have hwin : (s.assoc x.slot.assoc).front - r.next < s.span x.slot.assoc := by omega
  rw [hn]
  exact ⟨hl, by rw [he, hepoch]; simp [Assoc.epochOrZero, hepoch], hres, hass, hwin⟩

end Sys2Proof.Machine
end

section
/-! PROOF. What a request for counters leaves as it was, and the prefetch test (R13, R14, R61). -/

namespace Sys2Proof.Machine

/-! ## A request that does not retire the association -/

/-- The event changed records, the transmit list and what it posts, and nothing of the frames and keys. -/
structure Calm (s t : State) : Prop where
  lanes : t.lanes = s.lanes
  buf : t.buf = s.buf
  keys : t.keys = s.keys
  disp : t.disp = s.disp

theorem calm_requestAdvance {a : Fin 64} {s : State} (h : (s.assoc a).endsAtAdvance = false) (x : AdvanceReason) :
    Calm s (requestAdvance a x s) := by
  unfold Assoc.endsAtAdvance at h
  unfold requestAdvance
  split
  · exact ⟨rfl, rfl, rfl, rfl⟩
  split
  · rename_i hs he
    simp_all
  (repeat' split) <;> constructor <;> simp

theorem requestClaim_of_open {a : Fin 64} {s : State} (hl : (s.assoc a).state = .live) (hp : (s.assoc a).pendingClaim = false)
    (hq : (s.assoc a).advanceQueued = false) :
    requestClaim a s = if s.exhausted a then requestAdvance a .exhausted s
      else requestTx .claim a (s.modAssoc a (fun r => { r with pendingClaim := true })) := by
  simp [requestClaim, hl, hp, hq]

theorem requestClaim_of_busy {a : Fin 64} {s : State}
    (h : (s.assoc a).pendingClaim = true ∨ (s.assoc a).advanceQueued = true) : requestClaim a s = s := by
  unfold requestClaim
  split
  · rfl
  split
  · rfl
  · rename_i hp _
    simp [h.resolve_left hp]

theorem calm_requestClaim {a : Fin 64} {s : State} (h : s.exhausted a = true → (s.assoc a).endsAtAdvance = false) :
    Calm s (requestClaim a s) := by
  unfold requestClaim
  split
  · exact ⟨rfl, rfl, rfl, rfl⟩
  split
  · exact ⟨rfl, rfl, rfl, rfl⟩
  split
  · exact ⟨rfl, rfl, rfl, rfl⟩
  split
  · rename_i he
    exact calm_requestAdvance (h he) _
  · constructor <;> simp

/-- An advance requested at λ below epoch 65535 stands, if none is pending, behind the same reservation. -/
theorem requestAdvance_of_pending {a : Fin 64} {s : State} (h : (s.assoc a).endsAtAdvance = false)
    (hp : (s.assoc a).pendingAdvance.isSome = true) (x : AdvanceReason) : requestAdvance a x s = s := by
  unfold Assoc.endsAtAdvance at h
  unfold requestAdvance
  split
  · rfl
  split
  · simp_all
  · rfl

/-! ## The prefetch test (R13) -/

theorem prefetchTest_of_not {a : Fin 64} {s : State}
    (h : ¬ ((s.assoc a).reservationCount ≤ s.claimSize a / 4 ∧ (s.assoc a).queued = none ∧
      (s.assoc a).pendingClaim = false)) : prefetchTest a s = s := if_neg h

theorem prefetchTest_of_low {a : Fin 64} {s : State}
    (h : (s.assoc a).reservationCount ≤ s.claimSize a / 4 ∧ (s.assoc a).queued = none ∧
      (s.assoc a).pendingClaim = false) : prefetchTest a s = requestClaim a s := if_pos h

theorem calm_prefetchTest {a : Fin 64} {s : State} (h : s.exhausted a = true → (s.assoc a).endsAtAdvance = false) :
    Calm s (prefetchTest a s) := by
  unfold prefetchTest
  split
  · exact calm_requestClaim h
  · exact ⟨rfl, rfl, rfl, rfl⟩

@[simp] theorem prefetchTest_assoc_ne {a b : Fin 64} (h : b ≠ a) (s : State) : (prefetchTest a s).assoc b = s.assoc b := by
  unfold prefetchTest
  split
  · exact requestClaim_assoc_ne _ _ h
  · rfl

theorem posts_prefetchTest (a : Fin 64) (s : State) : ∃ l, Posts s (prefetchTest a s) l ∧ NoExceptions l := by
  unfold prefetchTest
  split
  · exact posts_requestClaim a s
  · exact ⟨[], posts_of_status, by simp [NoExceptions]⟩

/-- A record but for what is pending. -/
theorem claimAsked_keeps {r : Assoc} {standby exhausted : Bool} (h : exhausted = true → r.endsAtAdvance = false) :
    ∃ c p, r.claimAsked standby exhausted = { r with pendingClaim := c, pendingAdvance := p } := by
  unfold Assoc.claimAsked
  split
  · exact ⟨_, _, rfl⟩
  split
  · rename_i he
    have h := h he
    unfold Assoc.endsAtAdvance at h
    unfold Assoc.advanceAsked
    split
    · exact ⟨_, _, rfl⟩
    split
    · simp_all
    split <;> exact ⟨_, _, rfl⟩
  · exact ⟨_, _, rfl⟩

theorem prefetchTest_keeps {a : Fin 64} {s : State} (h : s.exhausted a = true → (s.assoc a).endsAtAdvance = false) :
    ∃ c p, (prefetchTest a s).assoc a = { s.assoc a with pendingClaim := c, pendingAdvance := p } := by
  unfold prefetchTest
  split
  · rw [requestClaim_assoc_self]; exact claimAsked_keeps h
  · exact ⟨_, _, rfl⟩

/-- What a claim request of a LIVE association, with no claim pending, comes to. -/
theorem requestClaim_outcome {a : Fin 64} {s : State} (hl : (s.assoc a).state = .live)
    (h : s.exhausted a = true → (s.assoc a).endsAtAdvance = false) (hp : (s.assoc a).pendingClaim = false) :
    let t := requestClaim a s
    ((s.assoc a).advanceQueued = false → s.exhausted a = false →
      (t.assoc a).pendingClaim = true ∧ { kind := .claim, assoc := a } ∈ t.bus.txList) ∧
    (¬ ((s.assoc a).advanceQueued = false ∧ s.exhausted a = false) → (t.assoc a).pendingClaim = false) ∧
    ((s.assoc a).advanceQueued = false → s.exhausted a = true → (s.assoc a).pendingAdvance = none →
      (t.assoc a).pendingAdvance = some ((s.assoc a).nextAdvance .exhausted (s.hasStandby a)) ∧
      (s.hasStandby a = true → { kind := .advance, assoc := a } ∈ t.bus.txList)) ∧
    (¬ ((s.assoc a).advanceQueued = false ∧ s.exhausted a = true ∧ (s.assoc a).pendingAdvance = none) →
      (t.assoc a).pendingAdvance = (s.assoc a).pendingAdvance) := by
  intro t
  by_cases hq : (s.assoc a).advanceQueued = true
  · have ht : t = s := requestClaim_of_busy (.inr hq)
    simp [ht, hq, hp]
  have hq : (s.assoc a).advanceQueued = false := by simpa using hq
  have ht : t = _ := requestClaim_of_open hl hp hq
  cases he : s.exhausted a with
  | false =>
    rw [he, if_neg (by simp)] at ht
    simp [ht, hq, mem_requestTx]
  | true =>
    rw [he, if_pos rfl] at ht
    have hin : (s.assoc a).state.inEpoch = true := by rw [hl]; rfl
    have he' : (s.assoc a).epochOrZero ≠ 65535 := by simpa [Assoc.endsAtAdvance, hin] using h he
    cases hpa : (s.assoc a).pendingAdvance with
    | none =>
      have hr := advanceAsked_of_none hin he' hpa .exhausted (s.hasStandby a)
      simp only [hq, ht, requestAdvance_assoc_self, hr]
      exact ⟨by simp, by simp [hp], fun _ _ _ => ⟨trivial, fun hst => mem_requestAdvance_self hin he' hpa hst⟩, by simp⟩
    | some p =>
      have ht : t = s := ht.trans (requestAdvance_of_pending (h he) (by rw [hpa]; rfl) _)
      simp [ht, hp, hpa]

theorem Prefetches.congr {s v t w : State} {a : Fin 64} {left : Nat} (h : Prefetches v t a left)
    (hr : (v.assoc a).pendingClaim = (s.assoc a).pendingClaim ∧ (v.assoc a).pendingAdvance = (s.assoc a).pendingAdvance ∧
      (v.assoc a).hwm = (s.assoc a).hwm ∧ (v.assoc a).epoch = (s.assoc a).epoch)
    (hlim : v.limit a = s.limit a) (hst : v.hasStandby a = s.hasStandby a) (hi : v.image = s.image)
    (ha : w.assocs = t.assocs) (hb : w.bus = t.bus) : Prefetches s w a left := by
  obtain ⟨hp, hpa, hw, he⟩ := hr
  unfold Prefetches at h ⊢
  simp only [assoc_eq_of_assocs ha, hb]
  simpa only [hp, hpa, Assoc.advanceQueued, Assoc.front, Assoc.epochOrZero, hw, he, hlim, hst, cfg_eq_of_image hi] using h

/-- The prefetch test asks as R13 says, where `left` counters are left when no range is queued. -/
theorem prefetches_prefetchTest {a : Fin 64} {s : State} {left : Nat} (hl : (s.assoc a).state = .live)
    (h : s.exhausted a = true → (s.assoc a).endsAtAdvance = false)
    (hleft : (s.assoc a).queued = none → (s.assoc a).reservationCount = left) :
    Prefetches s (prefetchTest a s) a left := by
  obtain ⟨c, p, hr⟩ := prefetchTest_keeps h
  have hq : ((prefetchTest a s).assoc a).queued = (s.assoc a).queued := by rw [hr]
  have hv : ((prefetchTest a s).assoc a).level = (s.assoc a).level := by rw [hr]
  have hx : s.exhausted a = true ↔ s.limit a ≤ (s.assoc a).front := by simp [State.exhausted]
  unfold Prefetches
  simp only [hq, hv]
  by_cases hc : (s.assoc a).reservationCount ≤ s.claimSize a / 4 ∧ (s.assoc a).queued = none ∧
      (s.assoc a).pendingClaim = false
  · obtain ⟨hlow, hnone, hp⟩ := hc
    have hlow' : left ≤ s.cfg.ladder[(s.assoc a).level] / 4 := by rw [← hleft hnone]; exact hlow
    simp only [prefetchTest_of_low ⟨hlow, hnone, hp⟩]
    obtain ⟨h1, h2, h3, h4⟩ := requestClaim_outcome hl h hp
    simp only [hnone, hlow', hp, true_and]
    refine ⟨fun ⟨hqa, hf⟩ => h1 hqa ?_, fun hn => h2 ?_, fun ⟨hqa, hf, hpa⟩ => h3 hqa (hx.2 hf) hpa, fun hn => h4 ?_⟩
    · simpa [State.exhausted] using hf
    · exact fun ⟨hqa, hf⟩ => hn ⟨hqa, by simpa [State.exhausted] using hf⟩
    · exact fun ⟨hqa, hf, hpa⟩ => hn ⟨hqa, hx.1 hf, hpa⟩
  · simp only [prefetchTest_of_not hc]
    have hna : ¬ ((s.assoc a).queued = none ∧ left ≤ s.cfg.ladder[(s.assoc a).level] / 4 ∧
        (s.assoc a).pendingClaim = false ∧ (s.assoc a).advanceQueued = false) :=
      fun ⟨h1, h2, h3, _⟩ => hc ⟨by rw [hleft h1]; exact h2, h1, h3⟩
    exact ⟨fun h => absurd h.1 hna, fun _ => trivial, fun h => absurd h.1 hna, fun _ => trivial⟩

end Sys2Proof.Machine
end

section
/-! PROOF. A frame handed to a lane with the next counter of its association (R11, R115, R133), and a retirement that abandons no
frame (R67, R70). -/

namespace Sys2Proof.Machine

/-! ## Retirement with fewer than two RETIRING keys (R67) -/

section
variable {a : Fin 64} {s : State} (h : countSlots (s.slots a) (fun k => k.role == .retiring) < 2)
include h

theorem retireCurrent_of_few :
    (retireCurrent a s).lanes = s.lanes ∧ (retireCurrent a s).buf = s.buf ∧ ∀ j : Fin 4,
      slotWithRole (s.slots a) .current = some j → (s.slot { assoc := a, index := j }).uses ≠ 0 →
        (retireCurrent a s).slot { assoc := a, index := j } =
          { s.slot { assoc := a, index := j } with role := .retiring } := by
  cases hj : slotWithRole (s.slots a) .current with
  | none =>
    have he : retireCurrent a s = s := by unfold retireCurrent; rw [hj]
    rw [he]
    exact ⟨rfl, rfl, fun j hj' => by cases hj'⟩
  | some j =>
    have he : retireCurrent a s = if (s.slot { assoc := a, index := j }).uses = 0 then wipeSlot { assoc := a, index := j } s
        else s.setSlot { assoc := a, index := j } { s.slot { assoc := a, index := j } with role := .retiring } := by
      unfold retireCurrent
      rw [hj]
      simp only
      rw [if_neg (show ¬ 2 ≤ _ by omega)]
    rw [he]
    refine ⟨by split <;> simp, by split <;> simp, fun i hi hu => ?_⟩
    cases hi
    rw [if_neg hu, setSlot_slot_self]

theorem retire_of_few (e : Bool) :
    (retire a e s).lanes = s.lanes ∧ (retire a e s).buf = s.buf ∧ ∀ j : Fin 4,
      slotWithRole (s.slots a) .current = some j → (s.slot { assoc := a, index := j }).uses ≠ 0 →
        (retire a e s).slot { assoc := a, index := j } =
          { s.slot { assoc := a, index := j } with role := .retiring } := by
  have hk : (retireRecord a s).keys = s.keys := by simp
  obtain ⟨hl, hb, hs⟩ := retireCurrent_of_few (a := a) (s := retireRecord a s) (by rw [slots_eq_of_keys hk]; exact h)
  refine ⟨?_, ?_, fun j hj hu => ?_⟩
  · rw [show (retireRecord a s).lanes = s.lanes by simp] at hl
    rw [← hl]
    cases e <;> simp [retire, postAllMarks, postEpochEnd]
  · rw [show (retireRecord a s).buf = s.buf by simp] at hb
    rw [← hb]
    cases e <;> simp [retire, postAllMarks, postEpochEnd]
  · have hs := hs j (by rw [slots_eq_of_keys hk]; exact hj) (by rw [slot_eq_of_keys hk]; exact hu)
    rw [slot_eq_of_keys hk] at hs
    rw [slot_eq_of_keys (retire_keys a e s), discardKeys_slot, hs]
    simp

end

/-! ## The hand-off with a counter (R11, R115, R133) -/

/-- The state with the frame in its lane, before the prefetch test. -/
def loaded (a : Fin 64) (f : Nat) (d : Descriptor) (s : State) : State :=
  let x := s.assignment a
  handOff f d (some x) ((takeCounter a s).setSlot x.slot
    { (takeCounter a s).slot x.slot with uses := ((takeCounter a s).slot x.slot).uses + 1 })

theorem sendToLane_eq (a : Fin 64) (f : Nat) (d : Descriptor) (s : State) :
    sendToLane a f d s = prefetchTest a (loaded a f d s) := rfl

theorem levelUp_val : ∀ k : Fin 4, (levelUp k).val = min (k.val + 1) 3 := by decide

theorem levelDown_val : ∀ k : Fin 4, (levelDown k).val = k.val - 1 := by decide

theorem taken_of_more {r : Assoc} {x : ActiveRange} (hx : r.active = some x) (h : x.next < x.stop) (ladder : Vector Nat 4) :
    r.taken ladder = { r with assigned := x.next, active := some { x with next := x.next + 1 } } := by
  simp only [Assoc.taken, hx]
  exact if_neg (by omega)

/-- The level once the active range is used up: the ladder test (R12). -/
def Assoc.levelAfter (r : Assoc) (ladder : Vector Nat 4) : Fin 4 :=
  if 2 * r.acc < ladder[r.level] then levelUp r.level else r.level

theorem taken_of_last {r : Assoc} {x : ActiveRange} (hx : r.active = some x) (h : x.stop ≤ x.next) (ladder : Vector Nat 4) :
    r.taken ladder = ({ r with assigned := x.next, level := r.levelAfter ladder } : Assoc).promoted := by
  simp only [Assoc.taken, hx]
  exact if_pos (by omega)

theorem taken_assigned {r : Assoc} {x : ActiveRange} (hx : r.active = some x) (ladder : Vector Nat 4) :
    (r.taken ladder).assigned = x.next := by
  by_cases h : x.next < x.stop
  · rw [taken_of_more hx h]
  · rw [taken_of_last hx (by omega)]; rfl

/-- What is left when no range is then queued, which the prefetch test reads (R13). -/
theorem reservationCount_taken {r : Assoc} {x : ActiveRange} (hx : r.active = some x) (ladder : Vector Nat 4)
    (hq : (r.taken ladder).queued = none) : (r.taken ladder).reservationCount = r.leftAfterNext := by
  by_cases h : x.next < x.stop
  · rw [taken_of_more hx h] at hq ⊢
    simp only at hq
    simp [Assoc.reservationCount, Assoc.leftAfterNext, hx, hq, ActiveRange.left]
  · rw [taken_of_last hx (by omega)]
    cases hy : r.queued with
    | none => simp [Assoc.reservationCount, Assoc.leftAfterNext, Assoc.promoted, hx, hy]; omega
    | some y => simp [Assoc.reservationCount, Assoc.leftAfterNext, Assoc.promoted, hx, hy, h, ActiveRange.left,
        QueuedRange.promoted]

@[simp] theorem ladderTest_marks (a : Fin 64) (s : State) : (ladderTest a s).disp.marks = s.disp.marks := by
  unfold ladderTest
  split <;> rfl

theorem ladderTest_queued (a : Fin 64) (s : State) : ((ladderTest a s).assoc a).queued = (s.assoc a).queued := by
  rw [ladderTest_assoc_self]

theorem takeCounter_marks {a : Fin 64} {s : State} {x : ActiveRange} (hx : (s.assoc a).active = some x) :
    (takeCounter a s).disp.marks =
      s.disp.marks ++ starvedMark a (decide (x.stop ≤ x.next) && (s.assoc a).queued.isSome) := by
  simp only [takeCounter, hx]
  split
  · rename_i h
    have hle : decide (x.stop ≤ x.next) = true := decide_eq_true (by omega)
    rw [promote_marks, ladderTest_queued, ladderTest_marks, modAssoc_assoc_self, hle]
    rfl
  · rename_i h
    have hle : decide (x.stop ≤ x.next) = false := decide_eq_false (by omega)
    rw [hle]
    exact (List.append_nil _).symm

/-- The lane takes the frame with the next counter `x.next`; the slot has one use more. -/
structure Loads (s v : State) (a : Fin 64) (f : Nat) (d : Descriptor) (x : ActiveRange) (j l : Fin 4) : Prop where
  lane : v.lane l = .keying f { assoc := a, index := j }
  lanes : ∀ m, m ≠ l → v.lane m = s.lane m
  completion : v.lanes.completion = s.lanes.completion ++
    [{ frame := f, action := .encrypt a, queue := d.queue, finished := false,
       header := envelopeHeader s.cfg s.station a (s.assoc a).epochOrZero x.next, tag := [], outLength := d.length + 28 }]
  inFlight : v.lanes.inFlight = s.lanes.inFlight.set d.queue (s.lanes.inFlight[d.queue] + 1)
  pool : v.buf.pool = tablePut s.buf.pool f { d with
    assigned := some { counter := x.next, epoch := (s.assoc a).epochOrZero, slot := { assoc := a, index := j } } }
  freeCells : v.buf.freeCells = s.buf.freeCells
  record : v.assoc a = (s.assoc a).taken s.cfg.ladder
  others : ∀ b, b ≠ a → v.assoc b = s.assoc b
  slot : v.slot { assoc := a, index := j } =
    { s.slot { assoc := a, index := j } with uses := (s.slot { assoc := a, index := j }).uses + 1 }
  slots : ∀ r : SlotRef, r ≠ { assoc := a, index := j } → v.slot r = s.slot r
  bus : v.bus = s.bus
  marks : v.disp.marks = s.disp.marks ++ starvedMark a (decide (x.stop ≤ x.next) && (s.assoc a).queued.isSome)
  counters : v.counters = s.counters
  posts : Posts s v []

theorem loads_loaded {a : Fin 64} {f : Nat} {d : Descriptor} {s : State} {x : ActiveRange} {j l : Fin 4}
    (hd : d.action = .encrypt a) (hx : (s.assoc a).active = some x) (hj : slotWithRole (s.slots a) .current = some j)
    (hl : s.idleLane? = some l) : Loads s (loaded a f d s) a f d x j l := by
  have hy : s.assignment a =
      { counter := x.next, epoch := (s.assoc a).epochOrZero, slot := { assoc := a, index := j } } := by
    simp [State.assignment, hx, hj]
  have hk : (takeCounter a s).keys = s.keys := by simp
  let w := (takeCounter a s).setSlot { assoc := a, index := j } { s.slot { assoc := a, index := j } with
    uses := (s.slot { assoc := a, index := j }).uses + 1 }
  have he : loaded a f d s = handOff f d (some (s.assignment a)) w := by
    simp only [loaded, hy, slot_eq_of_keys hk, w]
  have hw : w.idleLane? = some l := by
    simpa [State.idleLane?, State.lane, w] using hl
  have hv : handOff f d (some (s.assignment a)) w = { w.setLane l (.keying f { assoc := a, index := j }) with
      lanes := { (w.setLane l (.keying f { assoc := a, index := j })).lanes with
        completion := w.lanes.completion ++ [completionEntry w f d (some (s.assignment a))],
        inFlight := w.lanes.inFlight.set d.queue (w.lanes.inFlight[d.queue] + 1) },
      buf := { w.buf with pool := tablePut w.buf.pool f { d with assigned := some (s.assignment a) } } } := by
    simp only [handOff, hw, hy]
    rfl
  have hlanes : w.lanes = s.lanes := by simp [w]
  have hbuf : w.buf = s.buf := by simp [w]
  have himg : w.image = s.image := by simp [w]
  have hsta : w.station = s.station := by simp [w]
  have hmarks := takeCounter_marks hx
  rw [he, hv]
  constructor
  case lane => exact setLane_lane_self w l _
  case lanes => exact fun m hm => (setLane_lane_ne w _ hm).trans (lane_eq_of_lanes (congrArg Lanes.lanes hlanes) m)
  case completion =>
    simp only [completionEntry, hd, hy, hlanes, cfg_eq_of_image himg, hsta]
  case inFlight => simp only [hlanes]
  case pool => simp only [hbuf, hy]
  case freeCells => simp only [hbuf]
  case record => exact takeCounter_assoc_self a s
  case others => exact fun b hb => takeCounter_assoc_ne hb s
  case slot => exact setSlot_slot_self _ _ _
  case slots => exact fun r hr => (setSlot_slot_ne _ _ hr).trans (slot_eq_of_keys hk r)
  case bus => show w.bus = s.bus; simp [w]
  case marks => exact hmarks
  case counters => show w.counters = s.counters; simp [w]
  case posts =>
    exact posts_nil (show w.device = s.device by simp [w]) (show w.time = s.time by simp [w])
      (show w.status = s.status by simp [w]) (show w.lost = s.lost by simp [w, State.lost])

end Sys2Proof.Machine
end

section
/-! PROOF. A dispatch that assigns a counter (R9, R11, R12, R13, R109, R115). -/

namespace Sys2Proof.Machine

/-! ## The candidate (R108, R109) -/

theorem queueHead?_of_idle {s : State} {p : Fin 8} (h : s.disp.queueState[p] = .active → s.buf.queues[p] = []) :
    s.queueHead? p = none := by
  unfold State.queueHead?
  split
  · rename_i h1 h2
    rw [h h1] at h2
    cases h2
  · rfl

theorem queueHead?_of_head {s : State} {q : Fin 8} {h : Nat} {rest : List Nat} (hs : s.disp.queueState[q] = .active)
    (hq : s.buf.queues[q] = h :: rest) : s.queueHead? q = some (.queued q h rest) := by
  unfold State.queueHead?
  rw [hs, hq]

/-- Of the queues, read from the highest, the first with a head is taken. -/
theorem findSome?_reverse {α : Type} {f : Fin 8 → Option α} {q : Fin 8} {x : α} (hq : f q = some x)
    (h : ∀ p, q < p → f p = none) : (List.finRange 8).reverse.findSome? f = some x := by
  have hl : (List.finRange 8).reverse.Pairwise (fun i j => j < i) := by decide
  have hm : q ∈ (List.finRange 8).reverse := by simp
  generalize (List.finRange 8).reverse = l at hl hm
  induction l with
  | nil => cases hm
  | cons i l ih =>
    obtain ⟨hi, hl⟩ := List.pairwise_cons.1 hl
    rw [List.findSome?_cons]
    rcases List.mem_cons.1 hm with rfl | hm
    · rw [hq]
    · rw [h i (hi q hm)]
      exact ih hl hm

theorem candidate?_of_takesHead {s : State} {q : Fin 8} {h : Nat} {rest : List Nat} {d : Descriptor}
    (ht : s.takesHead q h rest d) : s.candidate? = some (.queued q h rest) := by
  obtain ⟨-, hpark, hq, hh, -, hlow⟩ := ht
  have hn : s.disp.park.find? (fun e => e.released && s.disp.queueState[e.queue] == .active) = none :=
    List.find?_eq_none.2 fun e he hr => by
      obtain ⟨hr, ha⟩ := Bool.and_eq_true_iff.1 hr
      exact hpark e he hr (beq_iff_eq.1 ha)
  unfold State.candidate?
  rw [hn]
  exact findSome?_reverse (queueHead?_of_head hq hh) fun p hp => queueHead?_of_idle (hlow p hp)

/-- A dispatch of a queue head of an ENCRYPT frame without a park group settles what the checks say. -/
theorem exec_dispatch_of_takesHead {s : State} {q : Fin 8} {h : Nat} {rest : List Nat} {d : Descriptor} {a : Fin 64}
    (ht : s.takesHead q h rest d) (hd : d.action = .encrypt a) (hq : d.queue = q)
    (hp : ∀ e ∈ s.disp.park, ¬ (e.assoc = a ∧ e.queue = q)) :
    exec .dispatch s = .next (finishEvent s (settleQueued h d (checkFrame d (takeHead q rest d.cells s)))) := by
  have hf : s.frame? h = some d := ht.2.2.2.2.1
  have hg : (takeHead q rest d.cells s).parkGroup? d = none := by
    unfold State.parkGroup?
    rw [hd]
    exact List.find?_eq_none.2 fun e he hm => by
      obtain ⟨ha, hb⟩ := Bool.and_eq_true_iff.1 hm
      exact hp e he ⟨beq_iff_eq.1 ha, hq ▸ beq_iff_eq.1 hb⟩
  have he : exec .dispatch s = execDispatch s := rfl
  rw [he, execDispatch, if_pos ht.1, candidate?_of_takesHead ht]
  simp only [dispatchCandidate, dispatchQueued, hf, hg]

/-- A dispatch of a released entry settles what the checks say. -/
theorem exec_dispatch_of_released {s : State} {e : ParkEntry} {d : Descriptor} (hm : s.mayDispatch = true)
    (he : s.disp.park.find? (fun x => x.released && s.disp.queueState[x.queue] == .active) = some e)
    (hf : s.frame? e.frame = some d) :
    exec .dispatch s = .next (finishEvent s (settleParked e d (checkFrame d s))) := by
  have hx : exec .dispatch s = execDispatch s := rfl
  rw [hx, execDispatch, if_pos hm]
  simp only [State.candidate?, he, dispatchCandidate, dispatchParked, hf]

theorem idleLane_of_mayDispatch {s : State} (h : s.mayDispatch = true) : ∃ l, s.idleLane? = some l ∧ s.lane l = .idle := by
  obtain ⟨h, -⟩ := Bool.and_eq_true_iff.1 h
  obtain ⟨-, h⟩ := Bool.and_eq_true_iff.1 h
  obtain ⟨l, hl⟩ := Option.isSome_iff_exists.1 h
  have hi := List.find?_some (p := fun m => s.lane m == .idle) hl
  exact ⟨l, hl, beq_iff_eq.1 hi⟩

/-! ## The frame in its lane, after the event -/

/-- What a frame sent to a lane comes to when the prefetch test retires nothing. -/
structure Sent (s t : State) (a : Fin 64) (f : Nat) (d : Descriptor) (x : ActiveRange) (j l : Fin 4) : Prop where
  lane : t.lane l = .keying f { assoc := a, index := j }
  lanes : ∀ m, m ≠ l → t.lane m = s.lane m
  completion : t.lanes.completion = s.lanes.completion ++
    [{ frame := f, action := .encrypt a, queue := d.queue, finished := false,
       header := envelopeHeader s.cfg s.station a (s.assoc a).epochOrZero x.next, tag := [], outLength := d.length + 28 }]
  inFlight : t.lanes.inFlight = s.lanes.inFlight.set d.queue (s.lanes.inFlight[d.queue] + 1)
  pool : t.buf.pool = tablePut s.buf.pool f { d with
    assigned := some { counter := x.next, epoch := (s.assoc a).epochOrZero, slot := { assoc := a, index := j } } }
  freeCells : t.buf.freeCells = s.buf.freeCells
  record : ∃ c p, t.assoc a = { (s.assoc a).taken s.cfg.ladder with pendingClaim := c, pendingAdvance := p }
  others : ∀ b, b ≠ a → t.assoc b = s.assoc b
  slot : t.slot { assoc := a, index := j } =
    { s.slot { assoc := a, index := j } with uses := (s.slot { assoc := a, index := j }).uses + 1 }
  slots : ∀ r : SlotRef, r ≠ { assoc := a, index := j } → t.slot r = s.slot r
  prefetches : Prefetches s t a (s.assoc a).leftAfterNext
  queueState : t.disp.queueState = s.disp.queueState
  counted : t.count a .discardStale = s.count a .discardStale

/-- A key but for its uses: what limits and roles are read from. -/
theorem Loads.slot_fields {s v : State} {a : Fin 64} {f : Nat} {d : Descriptor} {x : ActiveRange} {j l : Fin 4}
    (h : Loads s v a f d x j l) (i : Fin 4) :
    (v.slots a)[i].role = (s.slots a)[i].role ∧ (v.slots a)[i].limit = (s.slots a)[i].limit := by
  show (v.slot { assoc := a, index := i }).role = (s.slot { assoc := a, index := i }).role ∧
    (v.slot { assoc := a, index := i }).limit = (s.slot { assoc := a, index := i }).limit
  by_cases hi : i = j
  · subst hi; rw [h.slot]; exact ⟨rfl, rfl⟩
  · rw [h.slots _ (by simp [hi])]; exact ⟨rfl, rfl⟩

theorem Loads.slotWithRole {s v : State} {a : Fin 64} {f : Nat} {d : Descriptor} {x : ActiveRange} {j l : Fin 4}
    (h : Loads s v a f d x j l) (r : Role) : slotWithRole (v.slots a) r = slotWithRole (s.slots a) r :=
  findSlot_congr fun i => by rw [(h.slot_fields i).1]

theorem Loads.limit {s v : State} {a : Fin 64} {f : Nat} {d : Descriptor} {x : ActiveRange} {j l : Fin 4}
    (h : Loads s v a f d x j l) : v.limit a = s.limit a := by
  unfold State.limit
  rw [h.slotWithRole]
  cases hj : Machine.slotWithRole (s.slots a) .current with
  | none => rfl
  | some i => exact (h.slot_fields i).2

theorem Loads.hasStandby {s v : State} {a : Fin 64} {f : Nat} {d : Descriptor} {x : ActiveRange} {j l : Fin 4}
    (h : Loads s v a f d x j l) : v.hasStandby a = s.hasStandby a := by
  unfold State.hasStandby
  rw [h.slotWithRole]

theorem Loads.few {s v : State} {a : Fin 64} {f : Nat} {d : Descriptor} {x : ActiveRange} {j l : Fin 4}
    (h : Loads s v a f d x j l) :
    countSlots (v.slots a) (fun k => k.role == .retiring) = countSlots (s.slots a) (fun k => k.role == .retiring) := by
  unfold countSlots
  exact List.countP_congr fun i _ => by simp only [(h.slot_fields i).1]

theorem count_prefetchTest (a b : Fin 64) {s : State} {k : AssocCount} (h : k ≠ .retiredInFlight) (h' : k ≠ .discardRetire) :
    (prefetchTest a s).count b k = s.count b k := by
  unfold prefetchTest
  split
  · exact count_requestClaim s b k a h h'
  · rfl

/-- Counters or an epoch are left, so that no request retires the association. -/
theorem Loads.not_end {s v : State} {a : Fin 64} {f : Nat} {d : Descriptor} {x : ActiveRange} {j l : Fin 4}
    (h : Loads s v a f d x j l) (hc : (s.assoc a).epochOrZero ≠ 65535 ∨ (s.assoc a).front < s.limit a) :
    v.exhausted a = true → (v.assoc a).endsAtAdvance = false := by
  obtain ⟨-, -, hw, he, -⟩ := taken_keeps (s.assoc a) s.cfg.ladder
  intro hx
  have hx : v.limit a ≤ (v.assoc a).front := by simpa [State.exhausted] using hx
  rw [h.limit, h.record, show ((s.assoc a).taken s.cfg.ladder).front = (s.assoc a).front by simp [Assoc.front, hw]] at hx
  have he : (v.assoc a).epochOrZero = (s.assoc a).epochOrZero := by rw [h.record]; simp [Assoc.epochOrZero, he]
  have hc := hc.resolve_right (by omega)
  simp [Assoc.endsAtAdvance, he, hc]

/-- The frame is sent, the association not retired: what settles, the marks posted, and no exception. -/
theorem sent_of_settled {s t : State} {a : Fin 64} {f : Nat} {d : Descriptor} {x : ActiveRange} {j l : Fin 4}
    (hd : d.action = .encrypt a) (hl : (s.assoc a).state = .live)
    (hc : (s.assoc a).epochOrZero ≠ 65535 ∨ (s.assoc a).front < s.limit a) (hx : (s.assoc a).active = some x)
    (hj : slotWithRole (s.slots a) .current = some j) (hi : s.idleLane? = some l)
    (ht : Settled (sendToLane a f d s) t) :
    Sent s t a f d x j l ∧
      (sendToLane a f d s).disp.marks =
        s.disp.marks ++ starvedMark a (decide (x.stop ≤ x.next) && (s.assoc a).queued.isSome) ∧
      ∃ n, Posts s (sendToLane a f d s) n ∧ NoExceptions n := by
  have hv := loads_loaded (f := f) hd hx hj hi
  have hend := hv.not_end hc
  obtain ⟨hst, hp, hw, he, hpa⟩ := taken_keeps (s.assoc a) s.cfg.ladder
  have hcalm := calm_prefetchTest hend
  obtain ⟨c, p, hrec⟩ := prefetchTest_keeps hend
  obtain ⟨n, hn, hx'⟩ := posts_prefetchTest a (loaded a f d s)
  have hpre : Prefetches (loaded a f d s) (prefetchTest a (loaded a f d s)) a (s.assoc a).leftAfterNext :=
    prefetches_prefetchTest (by rw [hv.record, hst, hl]) hend
      (by rw [hv.record]; exact reservationCount_taken hx s.cfg.ladder)
  have hlanes : t.lanes = (loaded a f d s).lanes := ht.lanes.trans hcalm.lanes
  have hkeys : t.keys = (loaded a f d s).keys := ht.keys.trans hcalm.keys
  refine ⟨?_, ?_, _, by rw [sendToLane_eq]; simpa using hv.posts.trans hn, hx'⟩
  · constructor
    case lane => exact (lane_eq_of_lanes (congrArg Lanes.lanes hlanes) l).trans hv.lane
    case lanes => exact fun m hm => (lane_eq_of_lanes (congrArg Lanes.lanes hlanes) m).trans (hv.lanes m hm)
    case completion => rw [hlanes, hv.completion]
    case inFlight => rw [hlanes, hv.inFlight]
    case pool => rw [ht.pool, sendToLane_eq, hcalm.buf, hv.pool]
    case freeCells => rw [ht.freeCells, sendToLane_eq, hcalm.buf, hv.freeCells]
    case record =>
      refine ⟨c, p, ?_⟩
      rw [assoc_eq_of_assocs ht.assocs, sendToLane_eq, hrec, hv.record]
    case others =>
      intro b hb
      rw [assoc_eq_of_assocs ht.assocs, sendToLane_eq, prefetchTest_assoc_ne hb, hv.others b hb]
    case slot => rw [slot_eq_of_keys hkeys, hv.slot]
    case slots => exact fun r hr => by rw [slot_eq_of_keys hkeys, hv.slots r hr]
    case prefetches =>
      exact hpre.congr (by rw [hv.record]; exact ⟨hp, hpa, hw, he⟩) hv.limit hv.hasStandby
        (by simp [loaded]) ht.assocs ht.bus
    case queueState => rw [ht.queueState, sendToLane_eq, hcalm.disp]; simp [loaded]
    case counted =>
      rw [count_eq_of_counters (s := prefetchTest a (loaded a f d s)) (by rw [ht.counters]; rfl),
        count_prefetchTest a a (by simp) (by simp)]
      exact count_eq_of_counters (congrArg Counters.assoc hv.counters) a _
  · rw [sendToLane_eq, hcalm.disp, hv.marks]

/-! ## The first counter of a fresh range (R11) -/

/-- The state a dispatch works on once the head has left its queue. -/
theorem settleQueued_of_fresh {a : Fin 64} {s : State} {d : Descriptor} {x : ActiveRange} (hd : d.action = .encrypt a)
    (hl : (s.assoc a).state = .live) (hs : d.length + 28 ≤ s.cfg.cMax) (hx : (s.assoc a).active = some x)
    (hf : (s.assoc a).front < x.next + s.span a) (f : Nat) :
    settleQueued f d (checkFrame d s) = sendToLane a f d s := by
  have hw : rangeWalk 2 a s = s :=
    rangeWalk_of_fresh (by rw [Bool.eq_false_iff, ne_eq, staleActive_iff hx]; omega) 2
  rw [checkFrame_live hd hl hs, serveCounter_of_active (by rw [hw, hx]; rfl), hw]
  rfl

end Sys2Proof.Machine
end

section
/-! PROOF. A dispatch assigns the next counter (R9, R11, R12, R13, R70, R109, R115). -/

namespace Sys2Proof.Machine

/-- A step that readies the frame: it leaves a queue or the park list. -/
structure Readies (s u : State) : Prop where
  assocs : u.assocs = s.assocs
  keys : u.keys = s.keys
  image : u.image = s.image
  station : u.station = s.station
  lanes : u.lanes = s.lanes
  pool : u.buf.pool = s.buf.pool
  freeCells : u.buf.freeCells = s.buf.freeCells
  marks : u.disp.marks = s.disp.marks
  queueState : u.disp.queueState = s.disp.queueState
  counters : u.counters = s.counters
  rack : u.rack = s.rack
  posts : Posts s u []

theorem readies_takeHead (q : Fin 8) (rest : List Nat) (n : Nat) (s : State) : Readies s (takeHead q rest n s) := by
  constructor
  case posts => exact posts_of_status
  all_goals simp

theorem readies_unpark (h n : Nat) (s : State) : Readies s (unpark h n s) := by
  constructor
  case posts => exact posts_of_status
  all_goals simp

theorem Sent.before {s u t : State} {a : Fin 64} {f : Nat} {d : Descriptor} {x : ActiveRange} {j l : Fin 4}
    (h : Sent u t a f d x j l) (r : Readies s u) : Sent s t a f d x j l := by
  have ha := assoc_eq_of_assocs r.assocs
  have hk := slot_eq_of_keys r.keys
  have hcfg := cfg_eq_of_image r.image
  obtain ⟨h1, h2, h3, h4, h5, h6, h7, h8, h9, h10, h11, h12, h13⟩ := h
  rw [r.lanes, ha, hcfg, r.station] at h3
  rw [r.lanes] at h4
  rw [r.pool, ha] at h5
  rw [r.freeCells] at h6
  rw [ha, hcfg] at h7
  rw [hk] at h9
  rw [ha] at h11
  rw [r.queueState] at h12
  exact ⟨h1, fun m hm => (h2 m hm).trans (lane_eq_of_lanes (congrArg Lanes.lanes r.lanes) m), h3, h4, h5, h6, h7,
    fun b hb => (h8 b hb).trans (ha b), h9, fun p hp => (h10 p hp).trans (hk p),
    h11.congr (by rw [ha]; exact ⟨rfl, rfl, rfl, rfl⟩) (limit_of_keys r.keys a) (hasStandby_of_keys r.keys a) r.image rfl rfl,
    h12, h13.trans (count_eq_of_counters (congrArg Counters.assoc r.counters) a _)⟩

/-- The frame of a LIVE association whose active range is fresh, readied, is sent. -/
theorem sent_of_readies {s u : State} {a : Fin 64} {f : Nat} {d : Descriptor} {x : ActiveRange} {j : Fin 4}
    (r : Readies s u) (hm : s.mayDispatch = true) (hd : d.action = .encrypt a) (hl : (s.assoc a).state = .live)
    (hc : (s.assoc a).epochOrZero ≠ 65535 ∨ (s.assoc a).front < s.limit a) (hx : (s.assoc a).active = some x)
    (hj : slotWithRole (s.slots a) .current = some j) :
    ∃ l, s.lane l = .idle ∧ Sent s (finishEvent s (sendToLane a f d u)) a f d x j l ∧
      Reported s (finishEvent s (sendToLane a f d u)) [] ∧
      (finishEvent s (sendToLane a f d u)).disp.park = u.disp.park.map (ParkEntry.afterEvent s.disp.marks
        (fun b c => b == a && c == .starved && decide (x.stop ≤ x.next ∧ (s.assoc a).queued.isSome = true))) := by
  have ha := assoc_eq_of_assocs r.assocs a
  obtain ⟨l, hi, hidle⟩ := idleLane_of_mayDispatch hm
  have hi' : u.idleLane? = some l := by
    rw [← hi]
    unfold State.idleLane? State.lane
    rw [r.lanes]
  have ht := finishEvent_settled s (sendToLane a f d u)
  obtain ⟨hsent, hmarks, n, hn, hx'⟩ := sent_of_settled (f := f) hd (by rw [ha]; exact hl)
    (by rw [ha, limit_of_keys r.keys]; exact hc) (by rw [ha]; exact hx) (by rw [slots_eq_of_keys r.keys]; exact hj) hi' ht
  have hrep := reported_of_posts (r.posts.trans hn) ht (by simp [r.rack])
  rw [List.nil_append, exceptionsIn_eq_nil hx'] at hrep
  refine ⟨l, hidle, hsent.before r, hrep, ?_⟩
  rw [ht.park, hmarks, r.marks, ha, show (sendToLane a f d u).disp.park = u.disp.park by simp]
  refine List.map_congr_left fun e _ => afterMarks_append _ _ _ (fun b c => ?_) e
  rw [mem_starvedMark]
  simp [and_assoc]

/-! ## The counter from the active range (R11) -/

theorem beBytes_header (s : State) (a : Fin 64) (epoch counter : Nat) :
    envelopeHeader s.cfg s.station a epoch counter =
      beBytes 2 s.cfg.envelopeType.toNat ++ beBytes 1 a.val ++ beBytes 1 (8 + s.station.toNat) ++
        beBytes 2 epoch ++ beBytes 6 counter := rfl

theorem levelAfter_val (r : Assoc) (ladder : Vector Nat 4) :
    (r.levelAfter ladder).val =
      if 2 * r.acc < ladder[r.level] then min (r.level.val + 1) 3 else r.level.val := by
  unfold Assoc.levelAfter
  split
  · exact levelUp_val _
  · rfl

/-- What the record is once the counter is taken, but for what the prefetch test asks. -/
theorem taken_spec {r t : Assoc} {x : ActiveRange} {ladder : Vector Nat 4} (hx : r.active = some x)
    (ht : ∃ c p, t = { r.taken ladder with pendingClaim := c, pendingAdvance := p }) :
    t.assigned = x.next ∧ t.hwm = r.hwm ∧ t.epoch = r.epoch ∧
      (x.next < x.stop → t.active = some { x with next := x.next + 1 } ∧ t.queued = r.queued ∧ t.level = r.level ∧
        t.acc = r.acc) ∧
      (x.stop ≤ x.next → t.queued = none ∧ t.active = r.queued.map QueuedRange.promoted ∧
        t.level = r.levelAfter ladder ∧ t.acc = if r.queued.isSome then 0 else r.acc) := by
  obtain ⟨c, p, rfl⟩ := ht
  obtain ⟨-, -, hw, he, -⟩ := taken_keeps r ladder
  refine ⟨taken_assigned hx ladder, hw, he, fun h => ?_, fun h => ?_⟩
  · rw [taken_of_more hx h]
    exact ⟨rfl, rfl, rfl, rfl⟩
  · rw [taken_of_last hx h]
    exact ⟨rfl, rfl, rfl, rfl⟩

end Sys2Proof.Machine
end

section
/-! PROOF. A dispatch assigns the next counter: the three clauses of O31 (R9, R11, R12, R13, R70, R109, R115). -/

namespace Sys2Proof.Machine

/-- The first clause of O31: the active range is fresh. -/
theorem dispatch_of_fresh {s : State} {q : Fin 8} {h : Nat} {rest : List Nat} {d : Descriptor} {a : Fin 64}
    {x : ActiveRange} (ht : s.takesHead q h rest d) (hd : d.action = .encrypt a) (hq : d.queue = q)
    (hp : ∀ e ∈ s.disp.park, ¬ (e.assoc = a ∧ e.queue = q)) (hl : (s.assoc a).state = .live)
    (hs : d.length + 28 ≤ s.cfg.cMax) (hx : (s.assoc a).active = some x) (hf : (s.assoc a).front < x.next + s.span a) :
    exec .dispatch s = .next (finishEvent s (sendToLane a h d (takeHead q rest d.cells s))) := by
  have ha := assoc_eq_of_assocs (readies_takeHead q rest d.cells s).assocs a
  have hi := (readies_takeHead q rest d.cells s).image
  rw [exec_dispatch_of_takesHead ht hd hq hp, settleQueued_of_fresh hd (by rw [ha]; exact hl)
    (by rw [cfg_eq_of_image hi]; exact hs) (by rw [ha]; exact hx) (by rw [ha, span_of_image hi]; exact hf)]

/-- The active range is discarded as stale, and the queued one is promoted in its place (R9). -/
theorem settleQueued_of_stale {a : Fin 64} {s : State} {d : Descriptor} {x : ActiveRange} {y : QueuedRange}
    (hd : d.action = .encrypt a) (hl : (s.assoc a).state = .live) (hs : d.length + 28 ≤ s.cfg.cMax)
    (hx : (s.assoc a).active = some x) (hy : (s.assoc a).queued = some y) (hxs : x.next + s.span a ≤ (s.assoc a).front)
    (hys : (s.assoc a).front < y.start + s.span a) (f : Nat) :
    settleQueued f d (checkFrame d s) = sendToLane a f d (discardStale a s) := by
  have hr := discardStale_assoc_self hx
  have hw : rangeWalk 2 a s = discardStale a s := by
    rw [rangeWalk_of_stale ((staleActive_iff hx).2 hxs)]
    refine rangeWalk_of_fresh ?_ 1
    have ha : ((discardStale a s).assoc a).active = some y.promoted := by
      rw [hr]; simp [Assoc.staleGone, Assoc.promoted, hy]
    rw [Bool.eq_false_iff, ne_eq, staleActive_iff ha, span_of_image (s := s) (by simp), hr]
    exact not_le.2 hys
  have ha : ((rangeWalk 2 a s).assoc a).active.isSome = true := by
    rw [hw, hr]; simp [Assoc.staleGone, Assoc.promoted, hy]
  rw [checkFrame_live hd hl hs, serveCounter_of_active ha, hw]
  rfl

/-- At λ in epoch 65535, with the reservation low, the prefetch test retires the association (R13, R61, R70). -/
theorem prefetchTest_of_end {a : Fin 64} {v : State} (hl : (v.assoc a).state = .live) (he : (v.assoc a).epochOrZero = 65535)
    (hx : v.limit a ≤ (v.assoc a).front) (hp : (v.assoc a).pendingClaim = false)
    (hq : (v.assoc a).advanceQueued = false) (hn : (v.assoc a).queued = none)
    (hlow : (v.assoc a).reservationCount ≤ v.claimSize a / 4) : prefetchTest a v = retire a true v := by
  rw [prefetchTest_of_low ⟨hlow, hn, hp⟩, requestClaim_of_open hl hp hq,
    if_pos (by simpa [State.exhausted] using hx),
    requestAdvance_of_end (by simp [Assoc.endsAtAdvance, hl, he, AssocState.inEpoch])]

/-- With no range queued, the reservation is low after the assignment when it holds at most s_k/4 further counters. -/
theorem low_of_taken {r : Assoc} {x : ActiveRange} {ladder : Vector Nat 4} (hx : r.active = some x) (hy : r.queued = none)
    (h : x.stop ≤ x.next ∨ x.stop - x.next ≤ ladder[r.level] / 4) :
    (r.taken ladder).queued = none ∧ (r.taken ladder).reservationCount = x.stop - x.next ∧
      (r.taken ladder).reservationCount ≤ ladder[(r.taken ladder).level] / 4 := by
  have hq : (r.taken ladder).queued = none := by
    by_cases hm : x.next < x.stop
    · rw [taken_of_more hx hm]; exact hy
    · rw [taken_of_last hx (by omega)]; rfl
  have hc : (r.taken ladder).reservationCount = x.stop - x.next := by
    rw [reservationCount_taken hx ladder hq]
    simp [Assoc.leftAfterNext, hx, hy]
  refine ⟨hq, hc, ?_⟩
  rw [hc]
  by_cases hm : x.next < x.stop
  · simp only [taken_of_more hx hm]
    exact h.resolve_left (by omega)
  · omega

/-- The frame of an association whose active range is stale is sent with the first counter of the queued one; the trap is reported,
and the promotion releases the STARVED entries (R6, R9). -/
theorem sent_of_stale {s : State} {q : Fin 8} {h : Nat} {rest : List Nat} {d : Descriptor} {a : Fin 64} {x : ActiveRange}
    {y : QueuedRange} {j : Fin 4} (ht : s.takesHead q h rest d) (hd : d.action = .encrypt a) (hq : d.queue = q)
    (hp : ∀ e ∈ s.disp.park, ¬ (e.assoc = a ∧ e.queue = q)) (hl : (s.assoc a).state = .live)
    (hs : d.length + 28 ≤ s.cfg.cMax) (hc : (s.assoc a).epochOrZero ≠ 65535 ∨ (s.assoc a).front < s.limit a)
    (hx : (s.assoc a).active = some x) (hy : (s.assoc a).queued = some y) (hxs : x.next + s.span a ≤ (s.assoc a).front)
    (hys : (s.assoc a).front < y.start + s.span a) (hj : slotWithRole (s.slots a) .current = some j) :
    ∃ u t l, exec .dispatch s = .next t ∧ s.lane l = .idle ∧ u = discardStale a (takeHead q rest d.cells s) ∧
      Settled (sendToLane a h d u) t ∧ Sent u t a h d y.promoted j l ∧ u.assoc a = (s.assoc a).staleGone ∧
      Reported s t (s.reportOf .staleDiscard (some a) (x.stop + 1 - x.next)) ∧
      Releases s t (fun b c => b == a && c == .starved) := by
  let u := takeHead q rest d.cells s
  have hr := readies_takeHead q rest d.cells s
  have hu := assoc_eq_of_assocs hr.assocs a
  have hxu : (u.assoc a).active = some x := by rw [hu]; exact hx
  have hrec : (discardStale a u).assoc a = (s.assoc a).staleGone := by rw [discardStale_assoc_self hxu, hu]
  have hact : ((discardStale a u).assoc a).active = some y.promoted := by
    rw [hrec]; simp [Assoc.staleGone, Assoc.promoted, hy]
  have hkeys : (discardStale a u).keys = s.keys := by simp [u]
  obtain ⟨l, hi, hidle⟩ := idleLane_of_mayDispatch ht.1
  have hexec : exec .dispatch s = .next (finishEvent s (sendToLane a h d (discardStale a u))) := by
    rw [exec_dispatch_of_takesHead ht hd hq hp, settleQueued_of_stale hd (by rw [hu]; exact hl)
      (by rw [cfg_eq_of_image hr.image]; exact hs) hxu (by rw [hu]; exact hy)
      (by rw [hu, span_of_image hr.image]; exact hxs) (by rw [hu, span_of_image hr.image]; exact hys)]
  have hset := finishEvent_settled s (sendToLane a h d (discardStale a u))
  obtain ⟨hsent, hmarks, n, hn, hnx⟩ := sent_of_settled (f := h) (l := l) hd (by rw [hrec]; exact hl)
    (by rw [hrec, limit_of_keys hkeys]; exact hc) hact (by rw [slots_eq_of_keys hkeys]; exact hj)
    (by simpa [State.idleLane?, State.lane, u] using hi) hset
  have hmarksU : (discardStale a u).disp.marks = s.disp.marks ++ starvedMark a true := by
    rw [discardStale_marks hxu, hu, hy, hr.marks]; rfl
  have hrep := reported_of_posts ((hr.posts.trans (posts_discardStale hxu)).trans hn) hset (by simp [u])
  rw [List.nil_append, exceptionsIn_append, exceptionsIn_handed _ a _ hr.image (by rw [hu]), exceptionsIn_eq_nil hnx,
    List.append_nil] at hrep
  refine ⟨_, _, l, hexec, hidle, rfl, hset, hsent, hrec, hrep, ?_⟩
  refine releases_of_settled hset (starvedMark a true) _ (by simp [u]) ?_ fun b c => ?_
  · rw [hmarks, hmarksU, hrec, show (s.assoc a).staleGone.queued = none from rfl]
    simp [starvedMark]
  · rw [mem_starvedMark]; simp

/-- At λ in epoch 65535, with few counters left, the frame is sent and the association is retired (R13, R61, R70, log 21). -/
theorem sendToLane_of_end {s : State} {a : Fin 64} {f : Nat} {d : Descriptor} {x : ActiveRange} {j l : Fin 4}
    (hv : Loads s (loaded a f d s) a f d x j l) (hl : (s.assoc a).state = .live) (he : (s.assoc a).epochOrZero = 65535)
    (hlim : s.limit a ≤ (s.assoc a).front) (hx : (s.assoc a).active = some x) (hy : (s.assoc a).queued = none)
    (hlow : x.stop ≤ x.next ∨ x.stop - x.next ≤ s.cfg.ladder[(s.assoc a).level] / 4)
    (hpc : (s.assoc a).pendingClaim = false) (hqa : (s.assoc a).advanceQueued = false) :
    sendToLane a f d s = retire a true (loaded a f d s) := by
  obtain ⟨hst, hpend, hhwm, hep, hadv⟩ := taken_keeps (s.assoc a) s.cfg.ladder
  obtain ⟨hqueued, -, hlow⟩ := low_of_taken hx hy hlow
  have hcfg : (loaded a f d s).cfg = s.cfg := cfg_eq_of_image (by simp [loaded])
  rw [sendToLane_eq]
  refine prefetchTest_of_end (by rw [hv.record, hst, hl]) (by rw [hv.record]; simpa [Assoc.epochOrZero, hep] using he) ?_
    (by rw [hv.record, hpend, hpc]) (by rw [hv.record]; simpa [Assoc.advanceQueued, hadv] using hqa)
    (by rw [hv.record, hqueued]) ?_
  · rw [hv.limit, hv.record]
    simpa [Assoc.front, hhwm] using hlim
  · simpa [State.claimSize, hv.record, hcfg] using hlow

/-- Of a record that gave a counter, retirement keeps what the record before it had, but for the level. -/
theorem whenRetired_taken {r : Assoc} {x : ActiveRange} (hx : r.active = some x) (ladder : Vector Nat 4) :
    (r.taken ladder).whenRetired = { r.whenRetired with level := (r.taken ladder).level } := by
  by_cases hm : x.next < x.stop
  · rw [taken_of_more hx hm]; rfl
  · rw [taken_of_last hx (by omega)]; rfl

/-- Settles O31: the frame takes the first counter of a range that is not stale, enters its lane, and the prefetch test follows. -/
theorem dispatchAssignsCounter : Obligations.DispatchAssignsCounter := by
  refine ⟨?_, ?_, ?_⟩
  · intro s q h rest d a x j ht hd hq hp hl hs hc hx hf hj
    have hexec := dispatch_of_fresh ht hd hq hp hl hs hx hf
    obtain ⟨l, hidle, hsent, hrep, hpark⟩ := sent_of_readies (f := h) (readies_takeHead q rest d.cells s) ht.1 hd hl
      (hc.imp_left Nat.ne_of_lt) hx hj
    obtain ⟨hass, hhwm, hep, hmore, hlast⟩ := taken_spec hx hsent.record
    have hset := finishEvent_settled s (sendToLane a h d (takeHead q rest d.cells s))
    subst hq
    refine ⟨_, l, hexec, hidle, hsent.lane, hsent.lanes, hsent.completion, hsent.inFlight, hsent.pool,
      hset.queues.trans (by simp [takeHead]), hset.queueCells.trans (by simp [takeHead]), hsent.freeCells, hass, hhwm, hep,
      hmore, hsent.prefetches, hrep, hpark, fun hle => ?_, hsent.slot, hsent.slots, hsent.others, by simp, by simp, by simp,
      hsent.queueState, by simp, by simp⟩
    obtain ⟨h1, h2, h3, h4⟩ := hlast hle
    exact ⟨h1, h2, by rw [h3, levelAfter_val], h4⟩
  · intro s q h rest d a x y j ht hd hq hp hl hs hc hx hy hxs hys hj
    obtain ⟨u, t, l, hexec, hidle, rfl, hset, hsent, hrec, hrep, hrel⟩ :=
      sent_of_stale ht hd hq hp hl hs (hc.imp_left Nat.ne_of_lt) hx hy hxs hys hj
    have hr := readies_takeHead q rest d.cells s
    have hxu : ((takeHead q rest d.cells s).assoc a).active = some x := by rw [assoc_eq_of_assocs hr.assocs]; exact hx
    have hact : ((discardStale a (takeHead q rest d.cells s)).assoc a).active = some y.promoted := by
      rw [hrec]; simp [Assoc.staleGone, Assoc.promoted, hy]
    have hkeys : (discardStale a (takeHead q rest d.cells s)).keys = s.keys := by simp
    have hlanes : (discardStale a (takeHead q rest d.cells s)).lanes = s.lanes := by simp
    have hacc : (s.assoc a).staleGone.acc = 0 := by simp [Assoc.staleGone, Assoc.promoted, hy]
    obtain ⟨hass, hhwm, hep, hmore, hlast⟩ := taken_spec hact hsent.record
    rw [hrec] at hhwm hep hmore hlast
    have hpre := hsent.prefetches
    rw [hrec, show (s.assoc a).staleGone.leftAfterNext = y.stop - y.start by
      simp [Assoc.staleGone, Assoc.promoted, Assoc.leftAfterNext, hy, QueuedRange.promoted]] at hpre
    refine ⟨t, l, hexec, hidle, hsent.lane,
      fun m hm => (hsent.lanes m hm).trans (lane_eq_of_lanes (congrArg Lanes.lanes hlanes) m),
      hset.queues.trans (by simp [takeHead]), ?_, hass, ?_, hrep, hrel, fun hlt => ?_, fun hle => (hlast hle).2.1, ?_,
      hpre.congr (by rw [hrec]; exact ⟨rfl, rfl, rfl, rfl⟩) (limit_of_keys hkeys a) (hasStandby_of_keys hkeys a)
        (by simp) rfl rfl, hhwm, hep, fun b hb => ?_, ?_⟩
    · rw [hsent.pool, hrec]
      simp
      rfl
    · rcases lt_or_ge y.start y.stop with hlt | hle
      · exact (hmore hlt).2.1
      · exact (hlast hle).1
    · obtain ⟨h1, -, h3, -⟩ := hmore hlt
      exact ⟨h1, by rw [h3]; exact levelDown_val _⟩
    · rcases lt_or_ge y.start y.stop with hlt | hle
      · rw [(hmore hlt).2.2.2, hacc]
      · rw [(hlast hle).2.2.2, show (s.assoc a).staleGone.queued = none from rfl]; exact hacc
    · rw [hsent.others b hb, discardStale_assoc_ne hb]
      exact assoc_eq_of_assocs hr.assocs b
    · exact hsent.counted.trans (count_discardStale hxu)
  · intro s q h rest d a x j ht hd hq hp hl hs he hlim hx hy hf hlow hpc hqa hj hfew
    let u := takeHead q rest d.cells s
    have hr := readies_takeHead q rest d.cells s
    have hu := assoc_eq_of_assocs hr.assocs a
    have hexec := dispatch_of_fresh ht hd hq hp hl hs hx hf
    obtain ⟨l, hi, hidle⟩ := idleLane_of_mayDispatch ht.1
    have hv := loads_loaded (s := u) (f := h) (l := l) hd (by rw [hu]; exact hx) (by rw [slots_eq_of_keys hr.keys]; exact hj)
      (by simpa [State.idleLane?, State.lane, u] using hi)
    have hrec := hv.record
    rw [hu, cfg_eq_of_image hr.image] at hrec
    have hcount := (low_of_taken hx hy hlow).2.1
    have hret := sendToLane_of_end hv (by rw [hu]; exact hl) (by rw [hu]; exact he)
      (by rw [limit_of_keys hr.keys, hu]; exact hlim) (by rw [hu]; exact hx) (by rw [hu]; exact hy)
      (by simpa only [u, hu, cfg_eq_of_image hr.image] using hlow) (by rw [hu]; exact hpc) (by rw [hu]; exact hqa)
    obtain ⟨hlanes, hbuf, hslot⟩ := retire_of_few (a := a) (s := loaded a h d u)
      (by rw [hv.few, slots_eq_of_keys hr.keys]; exact hfew) true
    have hset := finishEvent_settled s (retire a true (loaded a h d u))
    have hslot := hslot j (by rw [hv.slotWithRole, slots_eq_of_keys hr.keys]; exact hj) (by rw [hv.slot]; exact Nat.succ_ne_zero _)
    have hlanesT := congrArg Lanes.lanes (hset.lanes.trans hlanes)
    obtain ⟨n, hn, hnx⟩ := posts_retire a true (loaded a h d u)
    have hrep := reported_of_posts ((hr.posts.trans hv.posts).trans hn) hset (by simp [u, loaded])
    rw [List.nil_append, List.nil_append, exceptionsIn_eq_nil hnx] at hrep
    refine ⟨_, l, hexec.trans (by rw [hret]), hidle, (lane_eq_of_lanes hlanesT l).trans hv.lane,
      fun m hm => (lane_eq_of_lanes hlanesT m).trans (hv.lanes m hm),
      hset.queues.trans (by simp [u, loaded, takeHead]), ?_, ?_, hrep, ?_,
      ⟨((s.assoc a).taken s.cfg.ladder).level, ?_⟩, fun b hb => ?_, ?_⟩
    · rw [hset.pool, hbuf, hv.pool, hu, he]
      rfl
    · rw [slot_eq_of_keys hset.keys, hslot, hv.slot, slot_eq_of_keys hr.keys]
    · have hm : (loaded a h d u).disp.marks = s.disp.marks := by
        rw [hv.marks, hu, hy, hr.marks]
        simp [starvedMark]
      have hrel := releases_of_marks (s := s) (b := false) (c := true) hset (a := a) (by simp [loaded, u])
        (by rw [retire_marks, hm]; rfl)
      simpa using hrel
    · rw [assoc_eq_of_assocs hset.assocs, retire_assoc_self, hrec, whenRetired_taken hx]
    · rw [assoc_eq_of_assocs hset.assocs, retire_assoc_ne _ _ _ hb, hv.others b hb]
      exact assoc_eq_of_assocs hr.assocs b
    · have hcnt := count_retire_discardRetire (loaded a h d u) a true
      rw [hrec, hcount, count_eq_of_counters (congrArg Counters.assoc (hv.counters.trans hr.counters))] at hcnt
      exact (count_eq_of_counters (congrArg Counters.assoc hset.counters) a _).trans hcnt

end Sys2Proof.Machine
end

section
/-! PROOF. A frame that finds no counter: the walk over stale ranges and the request that follows (R9, R10, R14, R61). -/

namespace Sys2Proof.Machine

/-! ## The walk over stale ranges (R9) -/

/-- What a range walk that leaves no counter comes to. -/
structure Walks (s w : State) (a : Fin 64) : Prop where
  record : w.assoc a = (s.assoc a).walked
  marks : w.disp.marks = s.disp.marks ++ s.walkMarks a
  counted : (s.assoc a).active.isSome = true →
    w.count a .discardStale = satAdd48 (s.count a .discardStale) (s.assoc a).walkDiscards
  counts : ∀ k, k ≠ .discardStale → w.count a k = s.count a k
  posts : ∃ n, Posts s w n ∧ exceptionsIn n s.time = s.walkReports a

theorem walks_none {s : State} {a : Fin 64} (hx : (s.assoc a).active = none) : Walks s s a where
  record := by simp [Assoc.walked, hx]
  marks := by simp [State.walkMarks, hx]
  counted h := by simp [hx] at h
  counts _ _ := rfl
  posts := ⟨[], posts_of_status, by simp [State.walkReports, hx, exceptionsIn]⟩

theorem walks_one {s : State} {a : Fin 64} {x : ActiveRange} (hx : (s.assoc a).active = some x)
    (hy : (s.assoc a).queued = none) : Walks s (discardStale a s) a where
  record := by
    rw [discardStale_assoc_self hx]
    simp [Assoc.walked, hx, hy, Assoc.staleGone, Assoc.promoted]
  marks := by rw [discardStale_marks hx, hy]; simp [State.walkMarks, hy, starvedMark]
  counted _ := by
    rw [count_discardStale hx, show (s.assoc a).walkDiscards = x.left by simp [Assoc.walkDiscards, hx, hy, ActiveRange.left]]
  counts k hk := count_discardStale_ne hk a
  posts := ⟨_, posts_discardStale hx, by
    rw [exceptionsIn_handed _ a _ rfl rfl]
    simp [State.walkReports, hx, hy, ActiveRange.left]⟩

theorem walks_two {s : State} {a : Fin 64} {x : ActiveRange} {y : QueuedRange} (hx : (s.assoc a).active = some x)
    (hy : (s.assoc a).queued = some y) : Walks s (discardStale a (discardStale a s)) a := by
  have hr := discardStale_assoc_self hx
  have hx' : ((discardStale a s).assoc a).active = some y.promoted := by
    rw [hr]; simp [Assoc.staleGone, Assoc.promoted, hy]
  have hy' : ((discardStale a s).assoc a).queued = none := by rw [hr]; rfl
  constructor
  case record =>
    rw [discardStale_assoc_self hx', hr]
    simp [Assoc.walked, hx, hy, Assoc.staleGone, Assoc.promoted]
  case marks =>
    rw [discardStale_marks hx', discardStale_marks hx, hy, hy']
    simp [State.walkMarks, hx, hy, starvedMark]
  case counted =>
    intro _
    rw [count_discardStale hx', count_discardStale hx, satAdd48_satAdd48]
    simp [Assoc.walkDiscards, hx, hy, ActiveRange.left, QueuedRange.promoted]
  case counts => exact fun k hk => (count_discardStale_ne hk a).trans (count_discardStale_ne hk a)
  case posts =>
    refine ⟨_, (posts_discardStale hx).trans (posts_discardStale hx'), ?_⟩
    rw [exceptionsIn_append, exceptionsIn_handed _ a _ rfl rfl, exceptionsIn_handed (s := s) _ a _ (by simp) (by rw [hr]; rfl)]
    simp [State.walkReports, hx, hy, ActiveRange.left, QueuedRange.promoted]

theorem walks_rangeWalk {s : State} {a : Fin 64} (h : s.noCounter a) : Walks s (rangeWalk 2 a s) a := by
  cases hx : (s.assoc a).active with
  | none =>
    rw [rangeWalk_of_fresh (staleActive_of_none hx)]
    exact walks_none hx
  | some x =>
    obtain ⟨hxs, hys⟩ := h x hx
    have hr := discardStale_assoc_self hx
    rw [rangeWalk_of_stale ((staleActive_iff hx).2 hxs)]
    cases hy : (s.assoc a).queued with
    | none =>
      rw [rangeWalk_of_fresh (staleActive_of_none (by rw [hr]; simp [Assoc.staleGone, Assoc.promoted, hy]))]
      exact walks_one hx hy
    | some y =>
      have ha : ((discardStale a s).assoc a).active = some y.promoted := by
        rw [hr]; simp [Assoc.staleGone, Assoc.promoted, hy]
      have hst : (discardStale a s).staleActive a = true := by
        rw [staleActive_iff ha, span_of_image (s := s) (by simp), hr]
        exact hys y hy
      rw [rangeWalk_of_stale hst]
      exact walks_two hx hy

theorem walked_active {s : State} {a : Fin 64} : (s.assoc a).walked.active = none := by
  unfold Assoc.walked
  split <;> simp_all

/-- The walk keeps what is not the reservation, a or k. -/
theorem walked_keeps (r : Assoc) :
    r.walked.state = r.state ∧ r.walked.pendingClaim = r.pendingClaim ∧ r.walked.hwm = r.hwm ∧ r.walked.epoch = r.epoch ∧
      r.walked.pendingAdvance = r.pendingAdvance := by
  unfold Assoc.walked
  split <;> exact ⟨rfl, rfl, rfl, rfl, rfl⟩

/-! ## The request (R10, R14, R61) -/

/-- What a frame without a counter requests. -/
def counterRequest (a : Fin 64) (s : State) : State :=
  if s.exhausted a then requestAdvance a .exhausted s else requestClaim a s

/-- The fault it meets. -/
def State.counterFault (s : State) (a : Fin 64) : ExcClass := if s.limit a ≤ (s.assoc a).front then .exhausted else .starved

theorem serveCounter_of_noCounter {s : State} {a : Fin 64} (h : s.noCounter a) :
    serveCounter a s = (counterRequest a (rangeWalk 2 a s), .fault (s.counterFault a)) := by
  have hw := walks_rangeWalk h
  obtain ⟨-, -, hf, -, -⟩ := walked_keeps (s.assoc a)
  have he : (rangeWalk 2 a s).exhausted a = decide (s.limit a ≤ (s.assoc a).front) := by
    unfold State.exhausted
    rw [limit_of_keys (s := s) (by simp), hw.record, show (s.assoc a).walked.front = (s.assoc a).front by simp [Assoc.front, hf]]
  rw [serveCounter_of_none (by rw [hw.record, walked_active]), counterRequest, State.counterFault, he]
  by_cases hl : s.limit a ≤ (s.assoc a).front <;> simp [hl]

end Sys2Proof.Machine
end

section
/-! PROOF. What a frame without a counter leaves of the association: its request, and what it reports (R10, R14, R61, R70). -/

namespace Sys2Proof.Machine

/-! ## The request, case by case -/

section
variable {a : Fin 64} {s : State}

theorem counterRequest_of_below (h : (s.assoc a).front < s.limit a) : counterRequest a s = requestClaim a s :=
  if_neg (by simp [State.exhausted, h])

theorem counterRequest_of_exhausted (h : s.limit a ≤ (s.assoc a).front) :
    counterRequest a s = requestAdvance a .exhausted s :=
  if_pos (by simp [State.exhausted, h])

@[simp] theorem counterRequest_assoc_ne {b : Fin 64} (h : b ≠ a) : (counterRequest a s).assoc b = s.assoc b := by
  unfold counterRequest
  split
  · exact requestAdvance_assoc_ne _ _ _ h
  · exact requestClaim_assoc_ne _ _ h

theorem posts_counterRequest (a : Fin 64) (s : State) : ∃ n, Posts s (counterRequest a s) n ∧ NoExceptions n := by
  unfold counterRequest
  split
  · exact posts_requestAdvance a _ s
  · exact posts_requestClaim a s

theorem count_counterRequest (b : Fin 64) {k : AssocCount} (h : k ≠ .retiredInFlight) (h' : k ≠ .discardRetire) :
    (counterRequest a s).count b k = s.count b k := by
  unfold counterRequest
  split
  · exact count_requestAdvance s b k a _ h h'
  · exact count_requestClaim s b k a h h'

@[simp] theorem counterRequest_frame (a : Fin 64) (s : State) :
    (counterRequest a s).image = s.image ∧ (counterRequest a s).time = s.time ∧ (counterRequest a s).device = s.device ∧
    (counterRequest a s).segMap = s.segMap ∧ (counterRequest a s).engine = s.engine ∧
    (counterRequest a s).buf.queues = s.buf.queues ∧ (counterRequest a s).buf.queueCells = s.buf.queueCells ∧
    (counterRequest a s).disp.park = s.disp.park ∧ (counterRequest a s).disp.parkedCells = s.disp.parkedCells ∧
    (counterRequest a s).rack = s.rack := by
  unfold counterRequest
  split <;> simp

/-- A request that retires nothing. -/
theorem calm_counterRequest (h : (s.assoc a).front < s.limit a ∨ (s.assoc a).epochOrZero ≠ 65535) :
    Calm s (counterRequest a s) := by
  rcases lt_or_ge (s.assoc a).front (s.limit a) with hf | hf
  · rw [counterRequest_of_below hf]
    exact calm_requestClaim fun hx => by simp [State.exhausted] at hx; omega
  · rw [counterRequest_of_exhausted hf]
    exact calm_requestAdvance (by simp [Assoc.endsAtAdvance, h.resolve_left (by omega)]) _

theorem counterRequest_of_end (hl : (s.assoc a).state = .live) (hf : s.limit a ≤ (s.assoc a).front)
    (he : (s.assoc a).epochOrZero = 65535) : counterRequest a s = retire a true s := by
  rw [counterRequest_of_exhausted hf, requestAdvance_of_end (by simp [Assoc.endsAtAdvance, hl, he, AssocState.inEpoch])]

/-- A LIVE association's record after the request, by R10, R14, R61 and R70. -/
theorem requestsCounters_self (hl : (s.assoc a).state = .live) :
    RequestsCounters s (counterRequest a s) a (s.assoc a) := by
  have hin : (s.assoc a).state.inEpoch = true := by rw [hl]; rfl
  refine ⟨fun hf => ?_, fun hf he => ?_, fun hf he => ?_⟩
  · rw [counterRequest_of_below hf]
    have hx : s.exhausted a = false := by simp [State.exhausted, hf]
    refine ⟨fun hp hq => ?_, fun hb => ?_⟩
    · rw [requestClaim_of_open hl hp hq, hx, if_neg (by simp)]
      exact ⟨by simp, mem_requestTx.2 (.inl rfl)⟩
    · rw [requestClaim_of_busy hb]
      exact ⟨rfl, rfl⟩
  · rw [counterRequest_of_exhausted hf]
    refine ⟨fun hp => ⟨?_, fun hst => mem_requestAdvance_self hin he hp hst⟩, fun p hp => ?_⟩
    · rw [requestAdvance_assoc_self, advanceAsked_of_none hin he hp]
      rfl
    · rw [requestAdvance_of_pending (by simp [Assoc.endsAtAdvance, he]) (by rw [hp]; rfl)]
      exact ⟨rfl, rfl⟩
  · rw [counterRequest_of_end hl hf he]
    exact ⟨retire_assoc_self s a true, retire_role a true s⟩

end

theorem RequestsCounters.congr {s w z t : State} {a : Fin 64} {r : Assoc} (h : RequestsCounters w z a r)
    (hr : (w.assoc a).pendingClaim = (s.assoc a).pendingClaim ∧ (w.assoc a).pendingAdvance = (s.assoc a).pendingAdvance ∧
      (w.assoc a).hwm = (s.assoc a).hwm ∧ (w.assoc a).epoch = (s.assoc a).epoch)
    (hlim : w.limit a = s.limit a) (hst : w.hasStandby a = s.hasStandby a) (hb : w.bus = s.bus)
    (ha : t.assocs = z.assocs) (htb : t.bus = z.bus) (hk : t.keys = z.keys) : RequestsCounters s t a r := by
  obtain ⟨hp, hpa, hw, he⟩ := hr
  unfold RequestsCounters at h ⊢
  simp only [assoc_eq_of_assocs ha, htb, slots_eq_of_keys hk]
  simpa only [hp, hpa, Assoc.advanceQueued, Assoc.front, Assoc.epochOrZero, hw, he, hlim, hst, hb] using h

theorem advanceAsked_epoch (r : Assoc) (x : AdvanceReason) (standby : Bool) : (r.advanceAsked x standby).epoch = r.epoch := by
  unfold Assoc.advanceAsked
  (repeat' split) <;> rfl

theorem claimAsked_epoch (r : Assoc) (standby exhausted : Bool) : (r.claimAsked standby exhausted).epoch = r.epoch := by
  unfold Assoc.claimAsked
  split
  · rfl
  split
  · exact advanceAsked_epoch r _ _
  · rfl

theorem walkReports_congr {s u : State} (hi : u.image = s.image) (ht : u.time = s.time) {a : Fin 64}
    (ha : u.assoc a = s.assoc a) : u.walkReports a = s.walkReports a := by
  simp only [State.walkReports, State.reportOf, State.exceptionNotice, Option.map_some, Option.getD_some, ha, ht,
    cfg_eq_of_image hi]

/-! ## The walk and the request together -/

/-- What a frame without a counter leaves of the part, when it is dispatched in state `u`, readied from `s`. -/
structure Asks (s u z : State) (a : Fin 64) : Prop where
  requests : ∀ t, t.assocs = z.assocs → t.bus = z.bus → t.keys = z.keys → RequestsCounters s t a (s.assoc a).walked
  others : ∀ b, b ≠ a → z.assoc b = s.assoc b
  epoch : (z.assoc a).epochOrZero = (s.assoc a).epochOrZero
  posts : ∃ n, Posts s z n ∧ exceptionsIn n s.time = s.walkReports a
  counted : (s.assoc a).active.isSome = true →
    z.count a .discardStale = satAdd48 (s.count a .discardStale) (s.assoc a).walkDiscards
  counts : ∀ k, k ≠ .discardStale → k ≠ .retiredInFlight → k ≠ .discardRetire → z.count a k = s.count a k
  calm : (s.assoc a).front < s.limit a ∨ (s.assoc a).epochOrZero ≠ 65535 →
    z.lanes = s.lanes ∧ z.keys = s.keys ∧ z.buf = u.buf ∧ z.disp.marks = s.disp.marks ++ s.walkMarks a
  ends : s.limit a ≤ (s.assoc a).front → (s.assoc a).epochOrZero = 65535 →
    z.disp.marks = s.disp.marks ++ (s.walkMarks a ++ faultMarks a) ∧
      (countSlots (s.slots a) (fun k => k.role == .retiring) < 2 → z.lanes = s.lanes)

theorem noCounter_of_readies {s u : State} (r : Readies s u) {a : Fin 64} (h : s.noCounter a) : u.noCounter a := by
  unfold State.noCounter at h ⊢
  rw [assoc_eq_of_assocs r.assocs, span_of_image r.image]
  exact h

theorem asks_of_readies {s u : State} {a : Fin 64} (r : Readies s u) (hb : u.bus = s.bus) (hl : (s.assoc a).state = .live)
    (h : s.noCounter a) : Asks s u (counterRequest a (rangeWalk 2 a u)) a := by
  have hu := assoc_eq_of_assocs r.assocs
  have hw := walks_rangeWalk (noCounter_of_readies r h)
  obtain ⟨hst, hp, hf, he, hpa⟩ := walked_keeps (s.assoc a)
  have hrec : (rangeWalk 2 a u).assoc a = (s.assoc a).walked := by rw [hw.record, hu]
  have hmarks : (rangeWalk 2 a u).disp.marks = s.disp.marks ++ s.walkMarks a := by
    rw [hw.marks, r.marks, State.walkMarks, hu]; rfl
  have hkeys : (rangeWalk 2 a u).keys = s.keys := by simp [r.keys]
  have hlim := limit_of_keys hkeys a
  have hfront : ((rangeWalk 2 a u).assoc a).front = (s.assoc a).front := by rw [hrec]; simp [Assoc.front, hf]
  have hepoch : ((rangeWalk 2 a u).assoc a).epochOrZero = (s.assoc a).epochOrZero := by rw [hrec]; simp [Assoc.epochOrZero, he]
  have hcnt : ∀ k, u.count a k = s.count a k := fun k => count_eq_of_counters (congrArg Counters.assoc r.counters) a k
  have hlive : ((rangeWalk 2 a u).assoc a).state = .live := by rw [hrec, hst, hl]
  have hself := requestsCounters_self hlive
  constructor
  case requests =>
    intro t h1 h2 h3
    rw [hrec] at hself
    exact hself.congr (by rw [hrec]; exact ⟨hp, hpa, hf, he⟩) hlim (hasStandby_of_keys hkeys a) (by simp [hb]) h1 h2 h3
  case others => exact fun b hb => by rw [counterRequest_assoc_ne hb, rangeWalk_assoc_ne hb, hu]
  case epoch =>
    rw [← hepoch]
    unfold counterRequest Assoc.epochOrZero
    split
    · rw [requestAdvance_assoc_self, advanceAsked_epoch]
    · rw [requestClaim_assoc_self, claimAsked_epoch]
  case posts =>
    obtain ⟨n, hn, hx⟩ := hw.posts
    obtain ⟨m, hm, hmx⟩ := posts_counterRequest a (rangeWalk 2 a u)
    refine ⟨_, (r.posts.trans hn).trans hm, ?_⟩
    have htime : u.time = s.time := r.posts.desk.time
    rw [exceptionsIn_append, exceptionsIn_eq_nil hmx, List.nil_append, List.append_nil, ← htime, hx]
    exact walkReports_congr r.image htime (hu a)
  case counted =>
    intro ha
    rw [count_counterRequest a (by simp) (by simp), hw.counted (by rw [hu]; exact ha), hcnt, hu]
  case counts => exact fun k h1 h2 h3 => by rw [count_counterRequest a h2 h3, hw.counts k h1, hcnt]
  case calm =>
    intro hc
    have hcalm := calm_counterRequest (s := rangeWalk 2 a u) (a := a) (by rw [hlim, hfront, hepoch]; exact hc)
    exact ⟨hcalm.lanes.trans (by simp [r.lanes]), hcalm.keys.trans hkeys, hcalm.buf.trans (by simp),
      by rw [hcalm.disp, hmarks]⟩
  case ends =>
    intro hx h65
    rw [counterRequest_of_end hlive (by rw [hlim, hfront]; exact hx) (by rw [hepoch, h65])]
    refine ⟨by rw [retire_marks, hmarks, List.append_assoc], fun hfew => ?_⟩
    rw [(retire_of_few (by rw [slots_eq_of_keys hkeys]; exact hfew) true).1]
    simp [r.lanes]

end Sys2Proof.Machine
end

section
/-! PROOF. A frame dropped or parked (R118, R119, R123, R124), and the dispatch of a queue head that finds no counter. -/

namespace Sys2Proof.Machine

/-! ## A frame dropped, a frame parked -/

section
variable {h : Nat} {d : Descriptor} {a : Fin 64} (hd : d.action = .encrypt a) (c : ExcClass) (v : Nat) (s : State)
include hd

theorem dropFrame_eq : dropFrame h d c v s = releaseFrame h (report c (some a) v 1 (bumpDrop a c 1 s)) := by
  simp only [dropFrame, hd]

theorem posts_dropFrame : Posts s (dropFrame h d c v s) (s.handed c a v 1) := by
  rw [dropFrame_eq hd]
  have hb : Posts s (bumpDrop a c 1 s) [] := by
    unfold bumpDrop
    split <;> exact posts_of_status
  have hr := hb.trans (posts_report c a v 1 _)
  rw [handed_congr (s := s) (by simp) (by simp), List.nil_append] at hr
  exact hr.thenSame

theorem count_dropFrame {k : AssocCount} (hk : c.dropCount? = some k) :
    (dropFrame h d c v s).count a k = satAdd48 (s.count a k) 1 := by
  rw [dropFrame_eq hd, count_releaseFrame, count_report, bumpDrop, hk]
  exact count_bump_self s a k 1

theorem count_dropFrame_ne {k : AssocCount} (hk : c.dropCount? ≠ some k) :
    (dropFrame h d c v s).count a k = s.count a k := by
  rw [dropFrame_eq hd, count_releaseFrame, count_report, bumpDrop]
  split
  · rename_i m hm
    exact count_bump_ne s a a 1 (fun he => hk (he ▸ hm))
  · rfl

theorem dropFrame_buf {e : Descriptor} (hf : s.frame? h = some e) :
    (dropFrame h d c v s).buf.pool = tableErase s.buf.pool h ∧
      (dropFrame h d c v s).buf.freeCells = s.buf.freeCells + e.cells := by
  rw [dropFrame_eq hd]
  have hb : (report c (some a) v 1 (bumpDrop a c 1 s)).buf = s.buf := by simp
  have hr := releaseFrame_of_some (s := report c (some a) v 1 (bumpDrop a c 1 s)) (h := h) (d := e)
    (by rw [frame?_eq_of_pool (congrArg Buffers.pool hb)]; exact hf)
  rwa [hb] at hr

theorem dropFrame_frame? : (dropFrame h d c v s).frame? h = none := by
  rw [dropFrame_eq hd, releaseFrame_frame?, if_pos rfl]

end

/-- The park list has an entry and cells left for a frame (R123). -/
abbrev State.parkRoom (s : State) (d : Descriptor) : Prop :=
  s.disp.park.length < 64 ∧ s.disp.parkedCells + d.cells ≤ s.cfg.parkCap

theorem parkFrame_of_full {s : State} {d : Descriptor} (h : ¬ s.parkRoom d) (a : Fin 64) (f : Nat) (c : ExcClass) (b : Bool) :
    parkFrame a f d c b s = dropFrame f d .double s.disp.parkedCells s := if_pos (by omega)

/-- The entry a frame joins the park list with. -/
def State.parkEntry (s : State) (a : Fin 64) (f : Nat) (d : Descriptor) (c : ExcClass) : ParkEntry :=
  { frame := f, assoc := a, queue := d.queue, cls := c, released := false, parkTime := s.time, reclassify := 0 }

theorem parkFrame_of_room {s : State} {d : Descriptor} (h : s.parkRoom d) (a : Fin 64) (f : Nat) (c : ExcClass) :
    let t := parkFrame a f d c false s
    t.disp.park = s.disp.park ++ [s.parkEntry a f d c] ∧ t.disp.parkedCells = s.disp.parkedCells + d.cells ∧
      t.buf = s.buf ∧ t.lanes = s.lanes ∧ t.disp.marks = s.disp.marks ∧
      Posts s t (s.handed c a (s.disp.park.length + 1) 1) ∧
      t.count a .parks = satAdd48 (s.count a .parks) 1 ∧ ∀ k, k ≠ .parks → t.count a k = s.count a k := by
  intro t
  let s1 : State := { s with disp := { s.disp with
    park := s.disp.park ++ [s.parkEntry a f d c], parkedCells := s.disp.parkedCells + d.cells } }
  have ht : t = report c (some a) (s.disp.park.length + 1) 1 (bump a .parks 1 s1) := by
    simp only [t, parkFrame]
    rw [if_neg (by omega)]
    simp [s1, State.parkEntry]
  have hb : Posts s (bump a .parks 1 s1) [] := posts_of_status rfl rfl rfl rfl
  have hr := hb.trans (posts_report c a (s.disp.park.length + 1) 1 _)
  rw [handed_congr (s := s) (u := bump a .parks 1 s1) rfl rfl, List.nil_append] at hr
  rw [ht]
  refine ⟨by simp [s1], by simp [s1], by simp [s1], by simp [s1], by simp [s1], hr, ?_, fun k hk => ?_⟩
  · rw [count_report, count_bump_self]
    rfl
  · rw [count_report, count_bump_ne _ _ _ _ hk]
    rfl

/-! ## The frame of an association without a counter (R118, R123, R126) -/

/-- The frame is parked or dropped, and nothing else of the part changes. -/
structure Disposes (z y : State) : Prop where
  assocs : y.assocs = z.assocs
  keys : y.keys = z.keys
  bus : y.bus = z.bus
  lanes : y.lanes = z.lanes
  marks : y.disp.marks = z.disp.marks
  segMap : y.segMap = z.segMap
  engine : y.engine = z.engine
  queues : y.buf.queues = z.buf.queues
  queueCells : y.buf.queueCells = z.buf.queueCells
  rack : y.rack = z.rack

theorem disposes_parkFrame (a : Fin 64) (f : Nat) (d : Descriptor) (c : ExcClass) (b : Bool) (z : State) :
    Disposes z (parkFrame a f d c b z) := by constructor <;> simp

theorem disposes_dropFrame (f : Nat) (d : Descriptor) (c : ExcClass) (v : Nat) (z : State) :
    Disposes z (dropFrame f d c v z) := by constructor <;> simp

theorem settleQueued_fault {d : Descriptor} {a : Fin 64} (hd : d.action = .encrypt a) (f : Nat) (c : ExcClass) (z : State) :
    settleQueued f d (z, .fault c) =
      if z.disposition c = .park then parkFrame a f d c false z else dropFrame f d c d.length z := by
  cases h : z.disposition c <;> simp [settleQueued, h, hd]

/-- `u.handed` where `s` reports: the same notices, once stamped. -/
theorem exceptionsIn_handed_of_asks {s u z : State} {a : Fin 64} (h : Asks s u z a) (hi : z.image = s.image) (c : ExcClass)
    (v : Nat) : exceptionsIn (z.handed c a v 1) s.time = s.reportOf c (some a) v :=
  exceptionsIn_handed c a v hi h.epoch

/-- A state whose marks release what parks in the event as well (R125). -/
theorem map_afterMarks_end {s : State} {a : Fin 64} (l : List ParkEntry) :
    l.map (ParkEntry.afterMarks (s.disp.marks ++ (s.walkMarks a ++ faultMarks a))) =
      l.map (ParkEntry.afterEvent s.disp.marks (fun b k => b == a && k.isFault)) := by
  refine List.map_congr_left fun e _ => afterMarks_append _ _ _ (fun b c => ?_) e
  simp only [List.mem_append, or_and_right, exists_or, mem_faultMarks]
  unfold State.walkMarks
  split
  · rw [show ([{ assoc := a, cls := .starved }] : List ReleaseMark) = starvedMark a true from rfl, mem_starvedMark]
    simp only [Bool.and_eq_true, beq_iff_eq, and_true]
    exact ⟨.inr, fun h => h.elim (fun ⟨h1, h2⟩ => ⟨h1, by rw [h2]; rfl⟩) id⟩
  · simp

end Sys2Proof.Machine
end

section
/-! PROOF. A queue head that finds no counter is parked or dropped, and makes its request (R10, R14, R115, R118, R123, R124). -/

namespace Sys2Proof.Machine

/-- The queue head's frame once the request is made. -/
theorem dispatch_of_noCounter {s : State} {q : Fin 8} {h : Nat} {rest : List Nat} {d : Descriptor} {a : Fin 64}
    (ht : s.takesHead q h rest d) (hd : d.action = .encrypt a) (hq : d.queue = q)
    (hp : ∀ e ∈ s.disp.park, ¬ (e.assoc = a ∧ e.queue = q)) (hl : (s.assoc a).state = .live)
    (hs : d.length + 28 ≤ s.cfg.cMax) (hn : s.noCounter a) :
    let z := counterRequest a (rangeWalk 2 a (takeHead q rest d.cells s))
    exec .dispatch s = .next (finishEvent s
      (if s.disposition (s.counterFault a) = .park then parkFrame a h d (s.counterFault a) false z
       else dropFrame h d (s.counterFault a) d.length z)) := by
  intro z
  have hr := readies_takeHead q rest d.cells s
  have hu := assoc_eq_of_assocs hr.assocs a
  have hcls : (takeHead q rest d.cells s).counterFault a = s.counterFault a := by
    unfold State.counterFault
    rw [limit_of_keys hr.keys, hu]
  have hz : z.image = s.image := by simp [z]
  have hdisp : z.disposition (s.counterFault a) = s.disposition (s.counterFault a) := by
    unfold State.disposition
    rw [cfg_eq_of_image hz]
  rw [exec_dispatch_of_takesHead ht hd hq hp, checkFrame_live hd (by rw [hu]; exact hl)
    (by rw [cfg_eq_of_image hr.image]; exact hs), serveCounter_of_noCounter (noCounter_of_readies hr hn), hcls, settleQueued_fault hd, hdisp]

/-- What a frame that found no counter leaves of the part, whatever becomes of the frame. -/
structure Refused (s u t : State) (a : Fin 64) : Prop where
  others : ∀ b, b ≠ a → t.assoc b = s.assoc b
  segMap : t.segMap = u.segMap
  engine : t.engine = u.engine
  queues : t.buf.queues = u.buf.queues
  queueCells : t.buf.queueCells = u.buf.queueCells
  counted : (s.assoc a).active.isSome = true →
    t.count a .discardStale = satAdd48 (s.count a .discardStale) (s.assoc a).walkDiscards
  requests : RequestsCounters s t a (s.assoc a).walked
  calm : (s.assoc a).front < s.limit a ∨ (s.assoc a).epochOrZero ≠ 65535 → t.lanes = s.lanes ∧ t.keys = s.keys
  ends : s.limit a ≤ (s.assoc a).front → (s.assoc a).epochOrZero = 65535 →
    countSlots (s.slots a) (fun k => k.role == .retiring) < 2 → t.lanes = s.lanes

theorem refused_of_settled {s u y t : State} {a : Fin 64}
    (hz : Asks s u (counterRequest a (rangeWalk 2 a u)) a) (hy : Disposes (counterRequest a (rangeWalk 2 a u)) y)
    (ht : Settled y t) (hc : y.count a .discardStale = (counterRequest a (rangeWalk 2 a u)).count a .discardStale) :
    Refused s u t a where
  others b hb := (assoc_eq_of_assocs (ht.assocs.trans hy.assocs) b).trans (hz.others b hb)
  segMap := ht.segMap.trans (hy.segMap.trans (by simp))
  engine := ht.engine.trans (hy.engine.trans (by simp))
  queues := ht.queues.trans (hy.queues.trans (by simp))
  queueCells := ht.queueCells.trans (hy.queueCells.trans (by simp))
  counted h := (count_eq_of_counters (congrArg Counters.assoc ht.counters) a _).trans (hc.trans (hz.counted h))
  requests := hz.requests t (ht.assocs.trans hy.assocs) (ht.bus.trans hy.bus) (ht.keys.trans hy.keys)
  calm h := ⟨(ht.lanes.trans hy.lanes).trans (hz.calm h).1, (ht.keys.trans hy.keys).trans (hz.calm h).2.1⟩
  ends h h' hfew := (ht.lanes.trans hy.lanes).trans ((hz.ends h h').2 hfew)

/-- What the refusal reports: the ranges found stale, then the fault. -/
theorem reported_refusal {s u z y t : State} {a : Fin 64} (hz : Asks s u z a) (hi : z.image = s.image) {c : ExcClass} {v : Nat}
    (hp : Posts z y (z.handed c a v 1)) (ht : Settled y t) (hr : y.rack = s.rack) :
    Reported s t (s.walkReports a ++ s.reportOf c (some a) v) := by
  obtain ⟨n, hn, hx⟩ := hz.posts
  have h := reported_of_posts (hn.trans hp) ht (by rw [hr])
  rwa [exceptionsIn_append, hx, exceptionsIn_handed c a v hi hz.epoch] at h

theorem dropCount?_ne_retired {c : ExcClass} {k : AssocCount} (h : c.dropCount? = some k) :
    k ≠ .discardStale ∧ k ≠ .retiredInFlight ∧ k ≠ .discardRetire := by
  cases c <;> cases h <;> decide

/-- Settles O33: the walk, the request, and then the frame parked or dropped. -/
theorem emptyReservationRequests : Obligations.EmptyReservationRequests := by
  intro s q h rest d a ht hd hq hp hl hs hn marks c room entry
  let u := takeHead q rest d.cells s
  let z := counterRequest a (rangeWalk 2 a u)
  have hr := readies_takeHead q rest d.cells s
  have hf : s.frame? h = some d := ht.2.2.2.2.1
  have hz : Asks s u z a := asks_of_readies hr (takeHead_frame q rest d.cells s).2.2.2.2.2.2.2.2.2.2.1 hl hn
  have hexec : exec .dispatch s = .next (finishEvent s
      (if s.disposition c = .park then parkFrame a h d c false z else dropFrame h d c d.length z)) :=
    dispatch_of_noCounter ht hd hq hp hl hs hn
  have himg : z.image = s.image := by simp [z, u]
  have hpark : z.disp.park = s.disp.park := by simp [z, u]
  have hcells : z.disp.parkedCells = s.disp.parkedCells := by simp [z, u]
  have hrack : z.rack = s.rack := by simp [z, u]
  have htime : z.time = s.time := by simp [z, u]
  have hroom : z.parkRoom d ↔ room := by
    unfold State.parkRoom
    rw [hpark, hcells, cfg_eq_of_image himg]
  have hqueues : u.buf.queues = s.buf.queues.set q rest := rfl
  have hqcells : u.buf.queueCells = s.buf.queueCells.set q (s.buf.queueCells[q] - d.cells) := rfl
  have hufree : u.buf.freeCells = s.buf.freeCells := rfl
  have hupool : u.buf.pool = s.buf.pool := rfl
  by_cases hstay : s.disposition c = .park ∧ room
  · rw [if_pos hstay.1] at hexec
    have hset := finishEvent_settled s (parkFrame a h d c false z)
    have hy := disposes_parkFrame a h d c false z
    obtain ⟨h1, h2, h3, -, -, h6, h7, h8⟩ := parkFrame_of_room (hroom.2 hstay.2) a h c
    have href := refused_of_settled hz hy hset (h8 _ (by simp))
    have hrep := reported_refusal hz himg h6 hset (hy.rack.trans hrack)
    have hentry : z.parkEntry a h d c = entry := by simp [State.parkEntry, entry, htime, hq]
    rw [hentry, hpark] at h1
    rw [hpark] at hrep
    refine ⟨_, hexec, href.others, href.segMap, href.engine, href.queues.trans hqueues, href.queueCells.trans hqcells, href.counted,
      href.requests, ?_, fun hc => ?_, fun hx he => ?_⟩
    · rw [if_neg (fun hc => hc.2 hstay.2), if_pos hstay.1]
      exact hrep
    · obtain ⟨-, -, hb, hm⟩ := hz.calm hc
      refine ⟨(href.calm hc).1, (href.calm hc).2, fun _ _ => ?_, fun hc => absurd hstay hc⟩
      refine ⟨by rw [hset.park, h1, hy.marks, hm], hset.parkedCells.trans (by rw [h2, hcells]),
        by rw [hset.pool, h3, hb, hupool], by rw [hset.freeCells, h3, hb, hufree], ?_⟩
      exact (count_eq_of_counters (congrArg Counters.assoc hset.counters) a _).trans
        (h7.trans (by rw [hz.counts _ (by simp) (by simp) (by simp)]; rfl))
    · obtain ⟨hm, -⟩ := hz.ends hx he
      refine ⟨href.ends hx he, fun _ _ => ⟨?_, hset.parkedCells.trans (by rw [h2, hcells])⟩, fun hc => absurd hstay hc⟩
      rw [hset.park, h1, hy.marks, hm, map_afterMarks_end]
  · let k : ExcClass := if s.disposition c = .park then .double else c
    let v := if s.disposition c = .park then s.disp.parkedCells else d.length
    have hy := disposes_dropFrame h d k v z
    have hset := finishEvent_settled s (dropFrame h d k v z)
    have hexec : exec .dispatch s = .next (finishEvent s (dropFrame h d k v z)) := by
      rw [hexec]
      by_cases hdp : s.disposition c = .park
      · rw [if_pos hdp, parkFrame_of_full (fun hr => hstay ⟨hdp, hroom.1 hr⟩), hcells]
        simp only [k, v, if_pos hdp]
      · simp only [k, v, if_neg hdp]
    have href := refused_of_settled hz hy hset
      (count_dropFrame_ne hd k v z (fun he => (dropCount?_ne_retired he).1 rfl))
    have hrep := reported_refusal hz himg (posts_dropFrame hd k v z) hset (hy.rack.trans hrack)
    refine ⟨_, hexec, href.others, href.segMap, href.engine, href.queues.trans hqueues, href.queueCells.trans hqcells,
      href.counted, href.requests, ?_, fun hc => ?_, fun hx he => ?_⟩
    · by_cases hdp : s.disposition c = .park
      · rw [if_pos ⟨hdp, fun hr => hstay ⟨hdp, hr⟩⟩]
        simpa only [k, v, if_pos hdp] using hrep
      · rw [if_neg (fun hc => hdp hc.1)]
        simpa only [k, v, if_neg hdp] using hrep
    · obtain ⟨-, -, hb, hm⟩ := hz.calm hc
      obtain ⟨hpool, hfree⟩ := dropFrame_buf hd k v z (e := d)
        (by rw [frame?_eq_of_pool (s := s) (by rw [hb, hupool])]; exact hf)
      refine ⟨(href.calm hc).1, (href.calm hc).2, fun h1 h2 => absurd ⟨h1, h2⟩ hstay, fun _ => ?_⟩
      refine ⟨by rw [hset.park, hy.marks, hm]; simp [hpark, marks], hset.parkedCells.trans (by simp [hcells]),
        by rw [hset.pool, hpool, hb, hupool], by rw [hset.freeCells, hfree, hb, hufree], fun m hm => ?_⟩
      obtain ⟨h1, h2, h3⟩ := dropCount?_ne_retired hm
      exact (count_eq_of_counters (congrArg Counters.assoc hset.counters) a _).trans
        ((count_dropFrame hd k v z hm).trans (by rw [hz.counts _ h1 h2 h3]; rfl))
    · obtain ⟨hm, -⟩ := hz.ends hx he
      refine ⟨href.ends hx he, fun h1 h2 => absurd ⟨h1, h2⟩ hstay,
        fun _ => ⟨?_, ?_, hset.parkedCells.trans (by simp [hcells])⟩⟩
      · rw [frame?_eq_of_pool hset.pool]
        exact dropFrame_frame? hd k v z
      · unfold Releases
        rw [hset.park, hy.marks, hm, map_afterMarks_end]
        simp [hpark]

end Sys2Proof.Machine
end

section
/-! PROOF. What becomes of a released park entry (R109, R116, R118, R119, R126). -/

namespace Sys2Proof.Machine

/-! ## The frame that leaves the park list, and the one that stays -/

theorem settleParked_fault (e : ParkEntry) (d : Descriptor) (c : ExcClass) (z : State) :
    settleParked e d (z, .fault c) =
      if z.disposition c = .park then repark e c z else dropFrame e.frame d c d.length (unpark e.frame d.cells z) := by
  cases h : z.disposition c <;> simp [settleParked, h]

section
variable (e : ParkEntry) (c : ExcClass) (z : State)

theorem repark_park : (repark e c z).disp.park = z.disp.park.map (e.regroup c) := by
  unfold repark
  simp only
  split
  · rfl
  · simp

theorem repark_buf : (repark e c z).buf = z.buf ∧ (repark e c z).disp.parkedCells = z.disp.parkedCells := by
  unfold repark
  simp only
  split
  · exact ⟨rfl, rfl⟩
  · simp

theorem count_repark (a : Fin 64) (k : AssocCount) : (repark e c z).count a k = z.count a k := by
  unfold repark
  simp only
  split
  · rfl
  · rw [count_report]; rfl

theorem posts_repark :
    Posts z (repark e c z) (if e.cls = c then [] else z.handed c e.assoc (min (e.reclassify + 1) 255) 1) := by
  unfold repark
  simp only
  have hm : Posts z { z with disp := { z.disp with park := z.disp.park.map (e.regroup c) } } [] :=
    posts_of_status rfl rfl rfl rfl
  split
  · exact hm
  · exact hm.trans (posts_report c e.assoc _ 1 _)

theorem disposes_repark : Disposes z (repark e c z) := by constructor <;> simp

theorem disposes_unpark_drop (d : Descriptor) (v : Nat) :
    Disposes z (dropFrame e.frame d c v (unpark e.frame d.cells z)) := by constructor <;> simp

end

section
variable {e : ParkEntry} {d : Descriptor} (hd : d.action = .encrypt e.assoc) (c : ExcClass) (z : State)
include hd

theorem posts_unpark_drop :
    Posts z (dropFrame e.frame d c d.length (unpark e.frame d.cells z)) (z.handed c e.assoc d.length 1) := by
  have h := (readies_unpark e.frame d.cells z).posts.trans (posts_dropFrame (h := e.frame) hd c d.length (unpark e.frame d.cells z))
  rwa [List.nil_append, handed_congr (s := z) (by simp) (by rw [assoc_eq_of_assocs (s := z) (by simp)])] at h

/-- The entry is off the list and its frame's cells are free. -/
theorem unpark_drop_buf (hf : z.frame? e.frame = some d) :
    let t := dropFrame e.frame d c d.length (unpark e.frame d.cells z)
    t.disp.park = z.disp.park.filter (fun x => x.frame != e.frame) ∧ t.disp.parkedCells = z.disp.parkedCells - d.cells ∧
      t.buf.pool = tableErase z.buf.pool e.frame ∧ t.buf.freeCells = z.buf.freeCells + d.cells := by
  intro t
  obtain ⟨hp, hc⟩ := dropFrame_buf hd c d.length (unpark e.frame d.cells z) (e := d) hf
  exact ⟨by simp [t, unpark], by simp [t, unpark], hp, hc⟩

theorem count_unpark_drop {k : AssocCount} (hk : c.dropCount? = some k) :
    (dropFrame e.frame d c d.length (unpark e.frame d.cells z)).count e.assoc k = satAdd48 (z.count e.assoc k) 1 :=
  count_dropFrame hd c d.length _ hk

end

theorem readies_self (s : State) : Readies s s := ⟨rfl, rfl, rfl, rfl, rfl, rfl, rfl, rfl, rfl, rfl, rfl, posts_of_status⟩

/-! ## An entry that faults or is aborted, with no request -/

/-- The state fault of R114 that each state but LIVE and RETIRED gives. -/
theorem waitingFault_of {x : AssocState} {c : ExcClass}
    (h : (x = .settling ∧ c = .settling) ∨ (x = .dormant ∧ c = .noKey) ∨ (x = .keyWait ∧ c = .noKey) ∨
      (x = .blind ∧ c = .blind)) :
    x ≠ .retired ∧ x ≠ .live ∧ waitingFault x = c := by
  rcases h with ⟨rfl, rfl⟩ | ⟨rfl, rfl⟩ | ⟨rfl, rfl⟩ | ⟨rfl, rfl⟩ <;> decide

theorem settleParked_waiting {e : ParkEntry} {d : Descriptor} {c : ExcClass} {s : State} (hd : d.action = .encrypt e.assoc)
    (hs : d.length + 28 ≤ s.cfg.cMax)
    (h : ((s.assoc e.assoc).state = .settling ∧ c = .settling) ∨ ((s.assoc e.assoc).state = .dormant ∧ c = .noKey) ∨
      ((s.assoc e.assoc).state = .keyWait ∧ c = .noKey) ∨ ((s.assoc e.assoc).state = .blind ∧ c = .blind)) :
    settleParked e d (checkFrame d s) =
      if s.disposition c = .park then repark e c s else dropFrame e.frame d c d.length (unpark e.frame d.cells s) := by
  obtain ⟨h1, h2, h3⟩ := waitingFault_of h
  rw [checkFrame_waiting hd h1 h2 hs, h3, settleParked_fault]

/-- The released entry once its association, without a counter, has made its request. -/
theorem dispatch_released_of_noCounter {s : State} {e : ParkEntry} {d : Descriptor} (hm : s.mayDispatch = true)
    (he : s.disp.park.find? (fun x => x.released && s.disp.queueState[x.queue] == .active) = some e)
    (hf : s.frame? e.frame = some d) (hd : d.action = .encrypt e.assoc) (hs : d.length + 28 ≤ s.cfg.cMax)
    (hl : (s.assoc e.assoc).state = .live) (hn : s.noCounter e.assoc) :
    let z := counterRequest e.assoc (rangeWalk 2 e.assoc s)
    let c := s.counterFault e.assoc
    exec .dispatch s = .next (finishEvent s (if s.disposition c = .park then repark e c z
      else dropFrame e.frame d c d.length (unpark e.frame d.cells z))) := by
  intro z c
  have hdisp : z.disposition c = s.disposition c := by
    unfold State.disposition
    rw [cfg_eq_of_image (s := s) (by simp [z])]
  rw [exec_dispatch_of_released hm he hf, checkFrame_live hd hl hs, serveCounter_of_noCounter hn, settleParked_fault, ← hdisp]

/-- Settles O36: the entry is classified again, leaves the list, or enters a lane. -/
theorem releasedEntryIsReparked : Obligations.ReleasedEntryIsReparked := by
  refine ⟨?_, ?_, ?_, ?_⟩
  · intro s e d c hm he hf hd hs hc hp hmarks
    have hset := finishEvent_settled s (repark e c s)
    have hy := disposes_repark e c s
    have hexec : exec .dispatch s = .next (finishEvent s (repark e c s)) := by
      rw [exec_dispatch_of_released hm he hf, settleParked_waiting hd hs hc, if_pos hp]
    have hrep := reported_of_posts (posts_repark e c s) hset (by rw [hy.rack])
    refine ⟨_, hexec, ?_, hset.parkedCells.trans (repark_buf e c s).2, by rw [hset.pool, (repark_buf e c s).1],
      by rw [hset.freeCells, (repark_buf e c s).1], ?_, hset.assocs.trans hy.assocs, hset.keys.trans hy.keys,
      hset.lanes.trans hy.lanes, hset.bus.trans hy.bus⟩
    · rw [hset.park, hy.marks, hmarks, map_afterMarks_nil]
      exact repark_park e c s
    · split at hrep <;> rename_i hcls
      · rw [if_pos hcls]; exact hrep
      · rw [if_neg hcls, ← exceptionsIn_handed c e.assoc _ rfl rfl]; exact hrep
  · intro s e d c hm he hf hd hc hmarks
    let y := dropFrame e.frame d c d.length (unpark e.frame d.cells s)
    have hset := finishEvent_settled s y
    have hy := disposes_unpark_drop e c s d d.length
    have hexec : exec .dispatch s = .next (finishEvent s y) := by
      rw [exec_dispatch_of_released hm he hf]
      rcases hc with ⟨hr, rfl⟩ | ⟨hr, hl, rfl⟩ | ⟨hl, hp, hw⟩
      · rw [checkFrame_retired hd hr]; rfl
      · rw [checkFrame_oversize hd hr hl]; rfl
      · rw [settleParked_waiting hd hl hw, if_neg (by simp [hp])]
    obtain ⟨h1, h2, h3, h4⟩ := unpark_drop_buf hd c s hf
    have hrep := reported_of_posts (posts_unpark_drop hd c s) hset (by rw [hy.rack])
    rw [exceptionsIn_handed c e.assoc _ rfl rfl] at hrep
    refine ⟨_, hexec, ?_, hset.parkedCells.trans h2, hset.pool.trans h3, hset.freeCells.trans h4, hset.assocs.trans hy.assocs,
      hset.keys.trans hy.keys, hset.lanes.trans hy.lanes, hset.bus.trans hy.bus, hrep, fun k hk => ?_⟩
    · rw [hset.park, hy.marks, hmarks, map_afterMarks_nil]
      exact h1
    · exact (count_eq_of_counters (congrArg Counters.assoc hset.counters) _ _).trans (count_unpark_drop hd c s hk)
  · intro s e d x j hm he hf hd hs hl hc hx hfr hj
    have hw : rangeWalk 2 e.assoc s = s :=
      rangeWalk_of_fresh (by rw [Bool.eq_false_iff, ne_eq, staleActive_iff hx]; exact not_le.2 hfr) 2
    have hexec : exec .dispatch s =
        .next (finishEvent s (sendToLane e.assoc e.frame d (unpark e.frame d.cells s))) := by
      rw [exec_dispatch_of_released hm he hf, checkFrame_live hd hl hs, serveCounter_of_active (by rw [hw, hx]; rfl), hw]
      rfl
    obtain ⟨l, hidle, hsent, hrep, hpark⟩ := sent_of_readies (f := e.frame) (readies_unpark e.frame d.cells s) hm hd hl
      (hc.imp_left Nat.ne_of_lt) hx hj
    obtain ⟨hass, -, -, -, -⟩ := taken_spec hx hsent.record
    refine ⟨_, l, hexec, hidle, hsent.lane, hsent.lanes, hpark, by simp [unpark], by simp,
      by rw [hsent.completion, List.map_append]; rfl, hsent.pool,
      hsent.freeCells, hass, hsent.prefetches, hrep, hsent.others⟩
  · intro s e d hm he hf hd hs hl hn c marks regrouped staying
    let z := counterRequest e.assoc (rangeWalk 2 e.assoc s)
    have hz : Asks s s z e.assoc := asks_of_readies (readies_self s) rfl hl hn
    have himg : z.image = s.image := by simp [z]
    have hpark : z.disp.park = s.disp.park := by simp [z]
    have hcells : z.disp.parkedCells = s.disp.parkedCells := by simp [z]
    have hrack : z.rack = s.rack := by simp [z]
    have hexec : exec .dispatch s = .next (finishEvent s (if s.disposition c = .park then repark e c z
        else dropFrame e.frame d c d.length (unpark e.frame d.cells z))) :=
      dispatch_released_of_noCounter hm he hf hd hs hl hn
    have hcount : c.dropCount? ≠ some .discardStale := fun hc => (dropCount?_ne_retired hc).1 rfl
    by_cases hp : s.disposition c = .park
    · have hnd : s.disposition c ≠ .drop := by rw [hp]; decide
      rw [if_pos hp] at hexec
      have hset := finishEvent_settled s (repark e c z)
      have hy := disposes_repark e c z
      have href := refused_of_settled hz hy hset (count_repark e c z _ _)
      obtain ⟨hb, hpc⟩ := repark_buf e c z
      obtain ⟨n, hnz, hnx⟩ := hz.posts
      have hrep := reported_of_posts (hnz.trans (posts_repark e c z)) hset (by rw [hy.rack, hrack])
      rw [exceptionsIn_append, hnx] at hrep
      refine ⟨_, hexec, href.requests, href.others, href.queues, ?_, fun hc => ?_, fun hx h65 => ?_⟩
      · rw [if_pos hp]
        split at hrep <;> rename_i hcls
        · rw [if_pos hcls]; exact hrep
        · rw [if_neg hcls, ← exceptionsIn_handed c e.assoc _ himg hz.epoch]; exact hrep
      · obtain ⟨-, -, hbuf, hmk⟩ := hz.calm hc
        refine ⟨(href.calm hc).1, (href.calm hc).2, fun _ => ⟨?_, hset.parkedCells.trans (by rw [hpc, hcells]),
          by rw [hset.pool, hb, hbuf], by rw [hset.freeCells, hb, hbuf]⟩, fun hd => absurd hd hnd⟩
        rw [hset.park, hy.marks, hmk, repark_park, hpark]
        rfl
      · obtain ⟨hmk, -⟩ := hz.ends hx h65
        refine ⟨fun _ => ⟨?_, hset.parkedCells.trans (by rw [hpc, hcells])⟩, fun hd => absurd hd hnd⟩
        rw [hset.park, hy.marks, hmk, repark_park, hpark, map_afterMarks_end]
        rfl
    · rw [if_neg hp] at hexec
      have hset := finishEvent_settled s (dropFrame e.frame d c d.length (unpark e.frame d.cells z))
      have hy := disposes_unpark_drop e c z d d.length
      have href := refused_of_settled hz hy hset
        ((count_dropFrame_ne hd c d.length _ hcount).trans rfl)
      have hrep := reported_refusal hz himg (posts_unpark_drop hd c z) hset (hy.rack.trans hrack)
      refine ⟨_, hexec, href.requests, href.others, href.queues, ?_, fun hc => ?_, fun hx h65 => ?_⟩
      · rw [if_neg hp]
        exact hrep
      · obtain ⟨-, -, hbuf, hmk⟩ := hz.calm hc
        obtain ⟨h1, h2, h3, h4⟩ := unpark_drop_buf hd c z
          (by rw [frame?_eq_of_pool (s := s) (by rw [hbuf])]; exact hf)
        refine ⟨(href.calm hc).1, (href.calm hc).2, fun h => absurd h hp, fun _ => ⟨?_,
          hset.parkedCells.trans (by rw [h2, hcells]), by rw [hset.pool, h3, hbuf], by rw [hset.freeCells, h4, hbuf],
          fun k hk => ?_⟩⟩
        · rw [hset.park, hy.marks, hmk, h1, hpark]
        · obtain ⟨k1, k2, k3⟩ := dropCount?_ne_retired hk
          exact (count_eq_of_counters (congrArg Counters.assoc hset.counters) _ _).trans
            ((count_unpark_drop hd c z hk).trans (by rw [hz.counts _ k1 k2 k3]; rfl))
      · obtain ⟨hmk, -⟩ := hz.ends hx h65
        refine ⟨fun h => absurd h hp, fun _ => ⟨?_, ?_, ?_⟩⟩
        · rw [hset.park, hy.marks, hmk, map_afterMarks_end]
          simp [unpark, hpark, staying]
        · exact hset.parkedCells.trans (by simp [unpark, hcells])
        · rw [frame?_eq_of_pool hset.pool]
          exact dropFrame_frame? hd c d.length _

end Sys2Proof.Machine
end

section
/-! PROOF. A frame aborted in its lane for a key check failure (R134, R137, R146, R148). -/

namespace Sys2Proof.Machine

theorem queue_set_get {α : Type} (v : Vector α 8) (q p : Fin 8) (x : α) : (v.set q x)[p] = if p = q then x else v[p] := by
  simp only [Fin.getElem_fin, Vector.getElem_set, Fin.ext_iff, eq_comm]

/-! ## One frame fewer in flight (R146, R148) -/

/-- The notice of a queue that becomes QUIESCED, as it is handed over. -/
abbrev quiesceNote (q : Fin 8) : Notice := newNotice .queueQuiesced .none 255 0 q.val 1 false

section
variable (q : Fin 8) (s : State)

/-- The queue becomes QUIESCED with this frame. -/
abbrev State.endsWithOne (s : State) (q : Fin 8) : Prop := s.lanes.inFlight[q] = 1 ∧ s.disp.queueState[q] = .quiescing

/-- The state with one frame fewer in flight of the queue. -/
def lowered (q : Fin 8) (s : State) : State :=
  { s with lanes := { s.lanes with inFlight := s.lanes.inFlight.set q (s.lanes.inFlight[q] - 1) } }

theorem loseInFlight_eq :
    loseInFlight q s = if s.endsWithOne q then becomeQuiesced q (lowered q s) else lowered q s := rfl

theorem loseInFlight_inFlight (p : Fin 8) :
    (loseInFlight q s).lanes.inFlight[p] = if p = q then s.lanes.inFlight[q] - 1 else s.lanes.inFlight[p] := by
  have h : (loseInFlight q s).lanes = (lowered q s).lanes := by
    rw [loseInFlight_eq]
    split
    · simp [becomeQuiesced]
    · rfl
  rw [h]
  exact queue_set_get _ _ _ _

theorem loseInFlight_queueState (p : Fin 8) :
    (loseInFlight q s).disp.queueState[p] = if p = q ∧ s.endsWithOne q then .quiesced else s.disp.queueState[p] := by
  rw [loseInFlight_eq]
  by_cases h : s.endsWithOne q
  · have hq : (becomeQuiesced q (lowered q s)).disp.queueState = s.disp.queueState.set q .quiesced := by
      simp [becomeQuiesced, lowered]
    rw [if_pos h, hq, queue_set_get]
    exact if_congr (and_iff_left h).symm rfl rfl
  · rw [if_neg h, if_neg (fun hc => h hc.2)]
    rfl

theorem posts_loseInFlight_mem :
    ∃ l, Posts s (loseInFlight q s) l ∧ (∀ n ∈ l, n.ofQuiesce) ∧ (s.endsWithOne q → quiesceNote q ∈ l) := by
  rw [loseInFlight_eq]
  by_cases h : s.endsWithOne q
  · rw [if_pos h]
    refine ⟨[quiesceNote q], ?_, by simp [Notice.ofQuiesce, newNotice], fun _ => List.mem_singleton_self _⟩
    unfold becomeQuiesced
    exact (posts_of_status (s := s) (by rfl) (by rfl) (by rfl) (by rfl)).trans
      (posts_postNotice (quiesceNote q) _ (by simp [newNotice]))
  · rw [if_neg h]
    exact ⟨[], posts_of_status rfl rfl rfl rfl, by simp, fun hc => absurd hc h⟩

end

/-! ## One lane's frame (R137) -/

/-- A frame leaves its lane. -/
structure Leaves (s t : State) (l : Fin 4) (f : Nat) : Prop where
  lane : ∀ m, t.lane m = if m = l then .idle else s.lane m
  completion : t.lanes.completion = s.lanes.completion.filter (fun e => e.frame != f)
  frames : ∀ x, t.frame? x = if x = f then none else s.frame? x
  freeCells : ∀ d, s.frame? f = some d → t.buf.freeCells = s.buf.freeCells + d.cells
  inFlight : ∀ d, s.frame? f = some d → ∀ q : Fin 8,
    t.lanes.inFlight[q] = if q = d.queue then s.lanes.inFlight[q] - 1 else s.lanes.inFlight[q]
  queueState : ∀ d, s.frame? f = some d → ∀ q : Fin 8,
    t.disp.queueState[q] = if q = d.queue ∧ s.endsWithOne q then .quiesced else s.disp.queueState[q]
  posts : ∃ p, Posts s t p ∧ (∀ n ∈ p, n.ofQuiesce) ∧
    ∀ d, s.frame? f = some d → s.endsWithOne d.queue → quiesceNote d.queue ∈ p

theorem leaves_removeLaneFrame {s : State} {l : Fin 4} {f : Nat} (h : (s.lane l).frame? = some f) :
    Leaves s (removeLaneFrame l s) l f := by
  let s1 := removeCompletion f (s.setLane l .idle)
  have hlane : ∀ m, s1.lane m = if m = l then .idle else s.lane m := by
    intro m
    by_cases hm : m = l
    · rw [if_pos hm, hm]; exact setLane_lane_self s l _
    · rw [if_neg hm]; exact setLane_lane_ne s _ hm
  have hcomp : s1.lanes.completion = s.lanes.completion.filter (fun e => e.frame != f) := rfl
  have hpost : Posts s s1 [] := posts_of_status rfl rfl rfl rfl
  cases hd : s.frame? f with
  | none =>
    have he : removeLaneFrame l s = releaseFrame f s1 := by simp only [removeLaneFrame, h, hd, s1]
    rw [he]
    have hlanes : (releaseFrame f s1).lanes = s1.lanes := by simp
    constructor
    case lane => exact fun m => (lane_eq_of_lanes (congrArg Lanes.lanes hlanes) m).trans (hlane m)
    case completion => rw [hlanes, hcomp]
    case frames => exact fun x => releaseFrame_frame? f s1 x
    case posts => exact ⟨[], by simpa using hpost.thenSame, by simp, fun d hd' => by rw [hd] at hd'; cases hd'⟩
    all_goals (intro d hd'; rw [hd] at hd'; cases hd')
  | some d =>
    have he : removeLaneFrame l s = releaseFrame f (loseInFlight d.queue s1) := by simp only [removeLaneFrame, h, hd, s1]
    rw [he]
    have hlanes : (releaseFrame f (loseInFlight d.queue s1)).lanes = (loseInFlight d.queue s1).lanes := by simp
    have hdisp : (releaseFrame f (loseInFlight d.queue s1)).disp = (loseInFlight d.queue s1).disp := by simp
    have hbuf : (loseInFlight d.queue s1).buf = s1.buf := by simp
    obtain ⟨p, hp, hq, hm⟩ := posts_loseInFlight_mem d.queue s1
    constructor
    case lane =>
      exact fun m => (lane_eq_of_lanes (s := s1) (by rw [hlanes]; simp) m).trans (hlane m)
    case completion => rw [hlanes, ← hcomp]; simp
    case frames =>
      intro x
      rw [releaseFrame_frame?, frame?_eq_of_pool (s := s1) (by rw [hbuf])]
      rfl
    case freeCells =>
      intro d' hd'
      rw [hd] at hd'
      cases hd'
      rw [(releaseFrame_of_some (d := d) (by rw [frame?_eq_of_pool (s := s1) (by rw [hbuf])]; exact hd)).2, hbuf]
      rfl
    case inFlight =>
      intro d' hd' q
      rw [hd] at hd'
      cases hd'
      rw [hlanes, loseInFlight_inFlight]
      split
      · rename_i hq; rw [hq]; rfl
      · rfl
    case queueState =>
      intro d' hd' q
      rw [hd] at hd'
      cases hd'
      rw [hdisp, loseInFlight_queueState]
      by_cases hq : q = d.queue
      · subst hq; rfl
      · rw [if_neg (fun hc => hq hc.1), if_neg (fun hc => hq hc.1)]; rfl
    case posts =>
      refine ⟨p, by simpa using (hpost.trans hp).thenSame, hq, fun d' hd' he => ?_⟩
      rw [hd] at hd'
      cases hd'
      exact hm he

end Sys2Proof.Machine
end

section
/-! PROOF. The frames that name a failed slot, aborted one after another (R134, R137, R146, R148). -/

namespace Sys2Proof.Machine

theorem leaves_abortLane {s : State} {l : Fin 4} {f : Nat} (h : (s.lane l).frame? = some f) (a : Fin 64) :
    Leaves s (abortLane a s l) l f := by
  have hb : Posts s (bumpDrop a .keyCheck 1 s) [] := posts_of_status rfl rfl rfl rfl
  obtain ⟨h1, h2, h3, h4, h5, h6, p, hp, hq, hm⟩ := leaves_removeLaneFrame (s := bumpDrop a .keyCheck 1 s) (l := l) (f := f) h
  exact ⟨h1, h2, h3, h4, h5, h6, p, hb.trans hp, hq, hm⟩

theorem count_abortLane (a : Fin 64) (s : State) (l : Fin 4) :
    (abortLane a s l).count a .dropKeyCheck = satAdd48 (s.count a .dropKeyCheck) 1 := by
  rw [abortLane, count_removeLaneFrame]
  exact count_bump_self s a .dropKeyCheck 1

theorem count_abortLane_ne (a : Fin 64) (s : State) (l : Fin 4) {k : AssocCount} (hk : k ≠ .dropKeyCheck) :
    (abortLane a s l).count a k = s.count a k := by
  rw [abortLane, count_removeLaneFrame]
  exact count_bump_ne s a a 1 hk

/-- Each frame counts once (R131). -/
theorem count_abortLanes (a : Fin 64) (L : List (Fin 4)) (s : State) (n k : Nat)
    (h : s.count a .dropKeyCheck = satAdd48 n k) :
    (L.foldl (abortLane a) s).count a .dropKeyCheck = satAdd48 n (k + L.length) := by
  induction L generalizing s k with
  | nil => exact h
  | cons m L ih =>
    rw [List.foldl_cons, ih (abortLane a s m) (k + 1) (by rw [count_abortLane, h, satAdd48_satAdd48]), List.length_cons]
    congr 1
    omega

theorem count_abortLanes_of_ne_nil (a : Fin 64) {L : List (Fin 4)} (hL : L ≠ []) (s : State) :
    (L.foldl (abortLane a) s).count a .dropKeyCheck = satAdd48 (s.count a .dropKeyCheck) L.length := by
  obtain ⟨m, L, rfl⟩ := List.exists_cons_of_ne_nil hL
  rw [List.foldl_cons, count_abortLanes a L _ _ 1 (count_abortLane a s m), List.length_cons, Nat.add_comm]

theorem count_abortLanes_ne (a : Fin 64) (L : List (Fin 4)) (s : State) {k : AssocCount} (hk : k ≠ .dropKeyCheck) :
    (L.foldl (abortLane a) s).count a k = s.count a k := by
  induction L generalizing s with
  | nil => rfl
  | cons m L ih => rw [List.foldl_cons, ih, count_abortLane_ne a s m hk]

/-! ## The lanes, the completion list and the frames -/

/-- The frames in the lanes of a list, in its order. -/
def State.framesIn (s : State) (L : List (Fin 4)) : List Nat := L.filterMap (fun m => (s.lane m).frame?)

theorem framesIn_cons {s : State} {m : Fin 4} {L : List (Fin 4)} {f : Nat} (h : (s.lane m).frame? = some f) :
    s.framesIn (m :: L) = f :: s.framesIn L := by
  simp [State.framesIn, h]

theorem Leaves.lane_ne {s t : State} {l k : Fin 4} {f : Nat} (h : Leaves s t l f) (hk : k ≠ l) : t.lane k = s.lane k :=
  (h.lane k).trans (if_neg hk)

theorem Leaves.framesIn {s t : State} {l : Fin 4} {f : Nat} (h : Leaves s t l f) {L : List (Fin 4)} (hl : l ∉ L) :
    t.framesIn L = s.framesIn L :=
  List.filterMap_congr fun m hm => by rw [h.lane_ne (ne_of_mem_of_not_mem hm hl)]

/-- What the lanes, the completion list and the pool are once the frames of some lanes are aborted. -/
structure Aborts (s t : State) (L : List (Fin 4)) : Prop where
  lane : ∀ m, t.lane m = if m ∈ L then .idle else s.lane m
  completion : t.lanes.completion = s.lanes.completion.filter (fun y => !(s.framesIn L).contains y.frame)
  frames : ∀ x, t.frame? x = if x ∈ s.framesIn L then none else s.frame? x
  posts : ∃ p, Posts s t p ∧ ∀ n ∈ p, n.ofQuiesce

theorem aborts_abortLanes (a : Fin 64) {L : List (Fin 4)} (hL : L.Nodup) {s : State}
    (hf : ∀ m ∈ L, ((s.lane m).frame?).isSome = true) : Aborts s (L.foldl (abortLane a) s) L := by
  induction L generalizing s with
  | nil => exact ⟨fun m => by simp, by simp [State.framesIn], fun x => by simp [State.framesIn], [], posts_of_status, by simp⟩
  | cons m L ih =>
    obtain ⟨hm, hL⟩ := List.nodup_cons.1 hL
    obtain ⟨f, hmf⟩ := Option.isSome_iff_exists.1 (hf m (by simp))
    have hl := leaves_abortLane hmf a
    have hlane : ∀ k ∈ L, (abortLane a s m).lane k = s.lane k :=
      fun k hk => hl.lane_ne (ne_of_mem_of_not_mem hk hm)
    obtain ⟨h1, h2, h3, p, hp, hq⟩ := ih hL (s := abortLane a s m) (fun k hk => by rw [hlane k hk]; exact hf k (by simp [hk]))
    obtain ⟨p', hp', hq', -⟩ := hl.posts
    rw [hl.framesIn hm] at h2 h3
    rw [List.foldl_cons]
    refine ⟨fun k => ?_, ?_, fun x => ?_, p' ++ p, hp'.trans hp, fun n hn => (List.mem_append.1 hn).elim (hq' n) (hq n)⟩
    · rw [h1 k, hl.lane k]
      by_cases hk : k = m
      · simp [hk]
      · simp [hk]
    · rw [h2, hl.completion, framesIn_cons hmf, List.filter_filter]
      refine List.filter_congr fun y _ => ?_
      rw [List.contains_cons, Bool.not_or, Bool.and_comm]
      rfl
    · rw [h3 x, hl.frames x, framesIn_cons hmf]
      by_cases hx : x = f
      · simp [hx]
      · simp [hx]

/-! ## The cells and the queues, when every frame has its place (R90, R146, R148) -/

/-- How many of some frames are of a queue. -/
def State.ofQueue (s : State) (fs : List Nat) (q : Fin 8) : Nat :=
  fs.countP (fun x => (s.frame? x).any (fun d => d.queue == q))

/-- The queue becomes QUIESCED with these frames. -/
abbrev State.endsWith (s : State) (fs : List Nat) (q : Fin 8) : Prop :=
  s.disp.queueState[q] = .quiescing ∧ s.ofQueue fs q ≠ 0 ∧ s.lanes.inFlight[q] = s.ofQueue fs q

theorem ofQueue_cons {s : State} {f : Nat} {d : Descriptor} (hd : s.frame? f = some d) (fs : List Nat) (q : Fin 8) :
    s.ofQueue (f :: fs) q = s.ofQueue fs q + if q = d.queue then 1 else 0 := by
  simp only [State.ofQueue, List.countP_cons, hd, Option.any_some, beq_iff_eq, eq_comm (a := q)]

theorem cellsOf_cons {s : State} {f : Nat} {d : Descriptor} (hd : s.frame? f = some d) (fs : List Nat) :
    s.cellsOf (f :: fs) = d.cells + s.cellsOf fs := by
  simp [State.cellsOf, hd]

/-- What the cells and the queues come to. -/
structure Returns (s t : State) (fs : List Nat) : Prop where
  freeCells : t.buf.freeCells = s.buf.freeCells + s.cellsOf fs
  inFlight : ∀ q : Fin 8, t.lanes.inFlight[q] = s.lanes.inFlight[q] - s.ofQueue fs q
  queueState : ∀ q : Fin 8, t.disp.queueState[q] = if s.endsWith fs q then .quiesced else s.disp.queueState[q]
  posts : ∃ p, Posts s t p ∧ (∀ n ∈ p, n.ofQuiesce) ∧ ∀ q, s.endsWith fs q → quiesceNote q ∈ p

/-- Of `n + 1` frames that leave a queue with `i` in flight, the first ends it, or those after it do. -/
theorem quiescing_step {x : QueueState} {i n : Nat} (h : n + 1 ≤ i) :
    (x = .quiescing ∧ n + 1 ≠ 0 ∧ i = n + 1) ↔ (i = 1 ∧ x = .quiescing) ∨
      ((if i = 1 ∧ x = .quiescing then QueueState.quiesced else x) = .quiescing ∧ n ≠ 0 ∧ i - 1 = n) := by
  by_cases hi : i = 1 ∧ x = .quiescing
  · obtain ⟨rfl, rfl⟩ := hi
    simp
    omega
  · rw [if_neg hi]
    constructor
    · rintro ⟨hx, -, hn⟩
      exact .inr ⟨hx, fun h0 => hi ⟨by omega, hx⟩, by omega⟩
    · rintro (h1 | ⟨hx, -, hn⟩)
      · exact absurd h1 hi
      · exact ⟨hx, by omega, by omega⟩

theorem returns_abortLanes (a : Fin 64) {L : List (Fin 4)} (hL : L.Nodup) {s : State}
    (hf : ∀ m ∈ L, ((s.lane m).frame?).isSome = true) (hn : (s.framesIn L).Nodup)
    (hs : ∀ x ∈ s.framesIn L, (s.frame? x).isSome = true)
    (hq : ∀ q : Fin 8, s.ofQueue (s.framesIn L) q ≤ s.lanes.inFlight[q]) :
    Returns s (L.foldl (abortLane a) s) (s.framesIn L) := by
  induction L generalizing s with
  | nil =>
    exact ⟨by simp [State.framesIn, State.cellsOf], fun q => by simp [State.framesIn, State.ofQueue],
      fun q => (if_neg (fun h => h.2.1 rfl)).symm, [], posts_of_status, by simp, fun q h => absurd rfl h.2.1⟩
  | cons m L ih =>
    obtain ⟨hm, hL⟩ := List.nodup_cons.1 hL
    obtain ⟨f, hmf⟩ := Option.isSome_iff_exists.1 (hf m (by simp))
    rw [framesIn_cons hmf] at hn hs hq ⊢
    obtain ⟨hfn, hn⟩ := List.nodup_cons.1 hn
    obtain ⟨d, hd⟩ := Option.isSome_iff_exists.1 (hs f (by simp))
    let t := abortLane a s m
    have hl : Leaves s t m f := leaves_abortLane hmf a
    have hlane : ∀ k ∈ L, t.lane k = s.lane k := fun k hk => hl.lane_ne (ne_of_mem_of_not_mem hk hm)
    have hfr : t.framesIn L = s.framesIn L := hl.framesIn hm
    have hsame : ∀ x ∈ s.framesIn L, t.frame? x = s.frame? x :=
      fun x hx => (hl.frames x).trans (if_neg (ne_of_mem_of_not_mem hx hfn))
    have hcount : ∀ q, t.ofQueue (s.framesIn L) q = s.ofQueue (s.framesIn L) q :=
      fun q => List.countP_congr fun x hx => by rw [hsame x hx]
    have hcells : t.cellsOf (s.framesIn L) = s.cellsOf (s.framesIn L) := by
      unfold State.cellsOf
      exact congrArg List.sum (List.map_congr_left fun x hx => by rw [hsame x hx])
    have hin := hl.inFlight d hd
    have hst := hl.queueState d hd
    have hle : ∀ q : Fin 8, t.ofQueue (t.framesIn L) q ≤ t.lanes.inFlight[q] := by
      intro q
      have h := hq q
      rw [ofQueue_cons hd] at h
      rw [hfr, hcount, hin q]
      split <;> rename_i hqd
      · rw [if_pos hqd] at h; omega
      · rw [if_neg hqd] at h; omega
    obtain ⟨h1, h2, h3, p, hp, hpq, hpm⟩ := ih hL (s := t) (fun k hk => by rw [hlane k hk]; exact hf k (by simp [hk]))
      (by rw [hfr]; exact hn) (by rw [hfr]; exact fun x hx => by rw [hsame x hx]; exact hs x (by simp [hx])) hle
    have hends : ∀ q, s.endsWith (f :: s.framesIn L) q ↔
        (q = d.queue ∧ s.endsWithOne q) ∨ t.endsWith (s.framesIn L) q := by
      intro q
      have h := hq q
      unfold State.endsWith State.endsWithOne
      rw [ofQueue_cons hd] at h ⊢
      rw [hcount, hin q, hst q]
      by_cases hqd : q = d.queue
      · simp only [if_pos hqd] at h ⊢
        simpa only [hqd, true_and] using quiescing_step h
      · simp only [hqd, false_and, if_false, add_zero, false_or]
    rw [hfr] at h1 h2 h3 hpm
    obtain ⟨p', hp', hpq', hpm'⟩ := hl.posts
    rw [List.foldl_cons]
    refine ⟨?_, fun q => ?_, fun q => ?_, p' ++ p, hp'.trans hp, fun n hn => (List.mem_append.1 hn).elim (hpq' n) (hpq n), ?_⟩
    · rw [h1, hl.freeCells d hd, cellsOf_cons hd, hcells, Nat.add_assoc]
    · rw [h2 q, hin q, hcount, ofQueue_cons hd]
      split <;> omega
    · rw [h3 q]
      by_cases he : t.endsWith (s.framesIn L) q
      · rw [if_pos he, if_pos ((hends q).2 (.inr he))]
      · rw [if_neg he, hst q]
        exact if_congr (by rw [hends q]; exact (or_iff_left he).symm) rfl rfl
    · intro q he
      rcases (hends q).1 he with ⟨rfl, he⟩ | he
      · exact List.mem_append_left _ (hpm' d hd he)
      · exact List.mem_append_right _ (hpm q he)

end Sys2Proof.Machine
end

section
/-! PROOF. A key check failure (R24, R71, R134, R137, R146, R148). -/

namespace Sys2Proof.Machine

/-! ## What the frames in lanes amount to, when every frame has its place -/

section
variable {s : State} (h : FramesAccounted s) {L : List (Fin 4)}
include h

theorem framesIn_completion {x : Nat} (hx : x ∈ s.framesIn L) :
    ∃ e ∈ s.lanes.completion, e.frame = x ∧ (s.frame? x).isSome = true ∧
      ∀ d, s.frame? x = some d → d.queue = e.queue := by
  obtain ⟨-, hplaced, -, -, hentry, -, -, -, hlane, -⟩ := h
  obtain ⟨m, -, hm⟩ := List.mem_filterMap.1 hx
  obtain ⟨-, e, he, rfl, -⟩ := hlane m x hm
  refine ⟨e, he, rfl, (hplaced _).1 ?_, fun d hd => (hentry e d he hd).2⟩
  unfold State.placed
  exact List.mem_append_right _ (List.mem_map_of_mem he)

theorem framesIn_nodup (hL : L.Nodup) : (s.framesIn L).Nodup := by
  obtain ⟨-, -, -, -, -, -, -, -, hlane, -⟩ := h
  exact List.Nodup.filterMap (fun m k x hm hk => (hlane k x hk).1 m hm) hL

/-- Frames in lanes are among those in flight. -/
theorem ofQueue_le_inFlight (hL : L.Nodup) (q : Fin 8) : s.ofQueue (s.framesIn L) q ≤ s.lanes.inFlight[q] := by
  have hin : s.lanes.inFlight[q] = s.lanes.completion.countP (fun e => e.queue == q) := h.2.2.2.2.2.2.2.1 q
  rw [hin, State.ofQueue, List.countP_eq_length_filter, List.countP_eq_length_filter]
  have hsub : (s.framesIn L).filter (fun x => (s.frame? x).any (fun d => d.queue == q)) ⊆
      (s.lanes.completion.filter (fun e => e.queue == q)).map (·.frame) := by
    intro x hx
    obtain ⟨hx, hq⟩ := List.mem_filter.1 hx
    obtain ⟨e, he, hf, hs, hd⟩ := framesIn_completion h hx
    obtain ⟨d, hs⟩ := Option.isSome_iff_exists.1 hs
    rw [hs, Option.any_some, hd d hs] at hq
    exact List.mem_map.2 ⟨e, List.mem_filter.2 ⟨he, hq⟩, hf⟩
  have hle := (List.subperm_of_subset ((framesIn_nodup h hL).filter _) hsub).length_le
  rwa [List.length_map] at hle

end

theorem frame?_of_buf {s t : State} (h : t.buf = s.buf) (x : Nat) : t.frame? x = s.frame? x :=
  frame?_eq_of_pool (congrArg Buffers.pool h) x

theorem framesIn_of_lanes {s t : State} (h : t.lanes = s.lanes) (L : List (Fin 4)) : t.framesIn L = s.framesIn L := by
  unfold State.framesIn State.lane
  rw [h]

theorem ofQueue_of_buf {s t : State} (h : t.buf = s.buf) (fs : List Nat) (q : Fin 8) : t.ofQueue fs q = s.ofQueue fs q := by
  unfold State.ofQueue State.frame?
  rw [h]

theorem cellsOf_of_buf {s t : State} (h : t.buf = s.buf) (fs : List Nat) : t.cellsOf fs = s.cellsOf fs := by
  unfold State.cellsOf State.frame?
  rw [h]

/-- The frames of the lanes that name a slot are aborted: what comes of cells and queues (R90, R146, R148). -/
theorem returns_of_accounted {s t : State} (h : FramesAccounted s) (hl : t.lanes = s.lanes) (hb : t.buf = s.buf)
    {L : List (Fin 4)} (hL : L.Nodup) (hf : ∀ m ∈ L, ((s.lane m).frame?).isSome = true) (a : Fin 64) :
    Returns t (L.foldl (abortLane a) t) (s.framesIn L) := by
  have hfr := framesIn_of_lanes hl L
  rw [← hfr]
  refine returns_abortLanes a hL (fun m hm => ?_) (by rw [hfr]; exact framesIn_nodup h hL) (fun x hx => ?_) fun q => ?_
  · rw [lane_eq_of_lanes (congrArg Lanes.lanes hl)]; exact hf m hm
  · rw [hfr] at hx
    obtain ⟨-, -, -, hs, -⟩ := framesIn_completion h hx
    rw [frame?_of_buf hb, hs]
  · rw [hfr, ofQueue_of_buf hb, hl]; exact ofQueue_le_inFlight h hL q

/-! ## The slot and its association (R24, R71) -/

/-- The key lost was in service: it was CURRENT of a LIVE association. -/
abbrev State.losesKey (s : State) (r : SlotRef) : Prop := (s.slot r).role = .current ∧ (s.assoc r.assoc).state = .live

/-- The failed slot wiped and its association's record set. -/
structure Fails (s t : State) (r : SlotRef) : Prop where
  slot : t.slot r = KeySlot.wiped
  slots : ∀ p : SlotRef, p ≠ r → t.slot p = s.slot p
  record : t.assoc r.assoc = if s.losesKey r then
      { s.assoc r.assoc with state := .keyWait, active := none, queued := none, pendingClaim := false }
    else s.assoc r.assoc
  others : ∀ b, b ≠ r.assoc → t.assoc b = s.assoc b
  lanes : t.lanes = s.lanes
  buf : t.buf = s.buf
  disp : t.disp = s.disp
  segMap : t.segMap = s.segMap
  engine : t.engine = s.engine
  rack : t.rack = s.rack
  image : t.image = s.image
  counted : s.losesKey r → t.count r.assoc .discardKeyLoss =
    satAdd48 (s.count r.assoc .discardKeyLoss) (s.assoc r.assoc).reservationCount
  drops : t.count r.assoc .dropKeyCheck = s.count r.assoc .dropKeyCheck
  claim : s.losesKey r → { kind := .claim, assoc := r.assoc } ∉ t.bus.txList
  posts : Posts s t (if s.losesKey r then
    [newNotice .keyWanted .none r.assoc.val (s.assoc r.assoc).epochOrZero 0 1 false] else [])

theorem posts_loseCurrentKey (a : Fin 64) (s : State) :
    Posts s (loseCurrentKey a s) [newNotice .keyWanted .none a.val (s.assoc a).epochOrZero 0 1 false] := by
  have h : Posts s ((s |> discardReservation a .discardKeyLoss |> cancelClaim a).modAssoc a (fun r => { r with state := .keyWait }))
      [] := posts_of_status
  exact h.trans (posts_postNotice _ _ (by simp [newNotice]))

theorem count_loseCurrentKey (a : Fin 64) (s : State) :
    (loseCurrentKey a s).count a .discardKeyLoss = satAdd48 (s.count a .discardKeyLoss) (s.assoc a).reservationCount ∧
      (loseCurrentKey a s).count a .dropKeyCheck = s.count a .dropKeyCheck := by
  unfold loseCurrentKey discardReservation
  simp

theorem mem_loseCurrentKey (a : Fin 64) (s : State) : { kind := .claim, assoc := a } ∉ (loseCurrentKey a s).bus.txList := by
  have h : (loseCurrentKey a s).bus = (cancelClaim a (discardReservation a .discardKeyLoss s)).bus := by
    simp [loseCurrentKey]
  rw [h, mem_cancelClaim]
  exact fun hc => hc.2 rfl

theorem fails_failedKeyState (r : SlotRef) (k : KeySlot) (s : State) :
    Fails s (failedKeyState r.assoc (s.slot r).role (wipeSlot r (s.setSlot r k))) r := by
  let w := wipeSlot r (s.setSlot r k)
  have hslot : ∀ p : SlotRef, w.slot p = if p = r then KeySlot.wiped else s.slot p := by
    intro p
    rw [show w.slot p = (wipeSlot r (s.setSlot r k)).slot p from rfl, wipeSlot_slot]
    split
    · rfl
    · rename_i hp; exact setSlot_slot_ne s k hp
  have hassoc : ∀ b, w.assoc b = s.assoc b := fun b => assoc_eq_of_assocs (by simp [w]) b
  have hkeys : (failedKeyState r.assoc (s.slot r).role w).keys = w.keys := by simp
  have hw : Posts s w [] := posts_of_status (by simp [w]) (by simp [w]) (by simp [w]) (by simp [w])
  constructor
  case slot => rw [slot_eq_of_keys hkeys, hslot, if_pos rfl]
  case slots => exact fun p hp => by rw [slot_eq_of_keys hkeys, hslot, if_neg hp]
  case record =>
    unfold failedKeyState
    rw [hassoc]
    split
    · rw [loseCurrentKey_assoc_self, hassoc]
    · exact hassoc _
  case others =>
    intro b hb
    unfold failedKeyState
    split
    · rw [loseCurrentKey_assoc_ne _ _ hb]; exact hassoc b
    · exact hassoc b
  case counted =>
    intro hl
    unfold failedKeyState
    rw [if_pos (by rw [hassoc]; exact hl), (count_loseCurrentKey _ _).1, hassoc]
    rfl
  case drops =>
    unfold failedKeyState
    split
    · rw [(count_loseCurrentKey _ _).2]; rfl
    · rfl
  case claim =>
    intro hl
    unfold failedKeyState
    rw [if_pos (by rw [hassoc]; exact hl)]
    exact mem_loseCurrentKey _ _
  case posts =>
    unfold failedKeyState
    rw [hassoc]
    split
    · have h := hw.trans (posts_loseCurrentKey r.assoc w)
      rwa [hassoc] at h
    · exact hw
  all_goals simp

end Sys2Proof.Machine
end

section
/-! PROOF. A key check failure wipes the slot and aborts its frames (R24, R71, R90, R119, R121, R131, R134, R137, R148). -/

namespace Sys2Proof.Machine

/-- A notice handed over in the event stands in the queue after it, when none was lost or taken. -/
theorem mem_of_posts {s y t : State} {l : List Notice} {n : Notice} (hp : Posts s y l) (ht : Settled y t)
    (hr : y.rack = s.rack) (hk : NoticesKept s t) (hn : n ∈ l) (hx : n.kind ≠ .exception) :
    { n with time := s.time } ∈ t.status.notices := by
  obtain ⟨hd, hs, hl⟩ := hk
  have he : t.status.notices = (postAll l s).status.notices :=
    (ht.notices_of_sending (by rw [hr]; exact hs)).trans hp.desk.notices
  rw [he] at hl ⊢
  exact postAll_mem l s n hn hp.noOverrun hx hd hl

theorem exceptionsIn_handed_keyCheck {s u : State} (a : Fin 64) (v n : Nat) (hi : u.image = s.image)
    (he : (u.assoc a).epochOrZero = (s.assoc a).epochOrZero) :
    exceptionsIn (u.handed .keyCheck a v n) s.time = [{ s.exceptionNotice .keyCheck (some a) v with count := n }] := by
  unfold State.handed
  rw [alerts_eq, cfg_eq_of_image hi, he]
  rfl

/-- The notice of a key lost (R71). -/
theorem namedIn_keyWanted (s : State) (a : Fin 64) (lost : Prop) [Decidable lost] :
    namedIn (if lost then [newNotice .keyWanted .none a.val (s.assoc a).epochOrZero 0 1 false] else []) s.time a.val =
      if lost then [s.keyNotice .keyWanted .none a (s.assoc a).epochOrZero] else [] := by
  split
  · simp [namedIn, newNotice, State.keyNotice]
  · rfl

theorem slot?_frame? {x : Lane} {r : SlotRef} (h : x.slot? = some r) : x.frame?.isSome = true := by
  cases x with
  | idle => cases h
  | keying f p => rfl
  | enciphering f p k => rfl
  | passing f => cases h

/-- The state a key check failure leaves, before the event ends. -/
def keyFailed (r : SlotRef) (u : SlotUpset) (s : State) : State :=
  keyCheckFailure r (s.setSlot r ((s.slot r).upset u))

theorem exec_keyTakeUp_of_failure {s : State} {l : Fin 4} {h : Nat} {r : SlotRef} {u : SlotUpset}
    (hl : s.lane l = .keying h r) (hc : ((s.slot r).check ^^^ u.check) ≠
      slotCheckValue r.assoc.val (s.slot r).epoch (s.slot r).limit ((s.slot r).key ^^^ u.material)) :
    exec (.keyTakeUp l u) s = .next (finishEvent s (keyFailed r u s)) := by
  have he : exec (.keyTakeUp l u) s = execKeyTakeUp l u s := rfl
  have hn : ((s.slot r).upset u).checkHolds r.assoc = false := by
    simpa [KeySlot.checkHolds, KeySlot.upset] using hc
  rw [he, execKeyTakeUp]
  simp only [hl]
  rw [if_neg (by rw [hn]; exact Bool.false_ne_true)]
  rfl

/-- The lanes whose frames name a slot. -/
def State.failedLanes (s : State) (r : SlotRef) : List (Fin 4) :=
  (List.finRange 4).filter (fun m => (s.lane m).slot? == some r)

theorem mem_failedLanes {s : State} {r : SlotRef} {m : Fin 4} : m ∈ s.failedLanes r ↔ (s.lane m).slot? = some r := by
  simp [State.failedLanes]

theorem keyFailed_eq (r : SlotRef) (u : SlotUpset) (s : State) :
    keyFailed r u s = report .keyCheck (some r.assoc) (s.slot r).epoch (s.failedLanes r).length
      ((s.failedLanes r).foldl (abortLane r.assoc)
        (failedKeyState r.assoc (s.slot r).role (wipeSlot r (s.setSlot r ((s.slot r).upset u))))) := by
  have hk : (s.setSlot r ((s.slot r).upset u)).slot r = (s.slot r).upset u := setSlot_slot_self s r _
  unfold keyFailed keyCheckFailure
  rw [hk]
  rfl

/-- Settles O39: the slot is wiped, its association's record set, and its frames are aborted one after another. -/
theorem keyCheckFailureWipesSlot : Obligations.KeyCheckFailureWipesSlot := by
  intro s l h r u hl hc
  let w := failedKeyState r.assoc (s.slot r).role (wipeSlot r (s.setSlot r ((s.slot r).upset u)))
  let v := (s.failedLanes r).foldl (abortLane r.assoc) w
  let y := report .keyCheck (some r.assoc) (s.slot r).epoch (s.failedLanes r).length v
  have hw : Fails s w r := fails_failedKeyState r _ s
  have hexec : exec (.keyTakeUp l u) s = .next (finishEvent s y) := by
    rw [exec_keyTakeUp_of_failure hl hc, keyFailed_eq]
  have hset := finishEvent_settled s y
  have hne : s.failedLanes r ≠ [] := List.ne_nil_of_mem (mem_failedLanes.2 (by rw [hl]; rfl) : l ∈ s.failedLanes r)
  have hnd : (s.failedLanes r).Nodup := (List.nodup_finRange 4).filter _
  have hframes : ∀ m ∈ s.failedLanes r, ((s.lane m).frame?).isSome = true := fun m hm => slot?_frame? (mem_failedLanes.1 hm)
  have hlane : ∀ m, w.lane m = s.lane m := lane_eq_of_lanes (congrArg Lanes.lanes hw.lanes)
  have hab : Aborts w v (s.failedLanes r) := aborts_abortLanes r.assoc hnd (fun m hm => by rw [hlane]; exact hframes m hm)
  have hfr : w.framesIn (s.failedLanes r) = s.framesIn (s.failedLanes r) := framesIn_of_lanes hw.lanes _
  have hkeys : (finishEvent s y).keys = w.keys := hset.keys.trans (by simp [y, v])
  have hassocs : y.assocs = w.assocs := by simp [y, v]
  have hlanes : (finishEvent s y).lanes = v.lanes := hset.lanes.trans (by simp [y])
  have hbuf : y.buf = v.buf := by simp [y]
  have hrack : y.rack = s.rack := by simp [y, v, hw.rack]
  have hcount : ∀ k, (finishEvent s y).count r.assoc k = v.count r.assoc k := fun k =>
    (count_eq_of_counters (congrArg Counters.assoc hset.counters) _ _).trans (count_report v r.assoc k _ _ _ _)
  have hepoch : (v.assoc r.assoc).epochOrZero = (s.assoc r.assoc).epochOrZero := by
    rw [assoc_eq_of_assocs (s := w) (by simp [v]), hw.record]
    split <;> rfl
  have hrep : Posts v y (v.handed .keyCheck r.assoc (s.slot r).epoch (s.failedLanes r).length) := posts_report _ _ _ _ _
  obtain ⟨p, hp, hq⟩ := hab.posts
  have hall := (hw.posts.trans hp).trans hrep
  have hexc : exceptionsIn (if s.losesKey r then
      [newNotice .keyWanted .none r.assoc.val (s.assoc r.assoc).epochOrZero 0 1 false] else []) s.time = [] :=
    exceptionsIn_eq_nil (fun n hn => by split at hn <;> simp_all [newNotice]) _
  have hquiet : ∀ n ∈ p, n.ofPart := fun n hn => (hq n hn).ofPart
  refine ⟨_, hexec, by rw [slot_eq_of_keys hkeys, hw.slot], fun q hq => by rw [slot_eq_of_keys hkeys, hw.slots q hq],
    fun m => ?_, fun b hb => ?_, ?_, hset.segMap.trans (by simp [y, v, hw.segMap]), hset.engine.trans (by simp [y, v, hw.engine]),
    hset.queues.trans (by simp [y, v, hw.buf]), ?_, fun x => ?_, fun hacc => ?_, ?_, fun hlost => ?_, fun hlost => ?_, ?_, ?_⟩
  · rw [lane_eq_of_lanes (congrArg Lanes.lanes hlanes), hab.lane m, hlane]
    exact if_congr mem_failedLanes rfl rfl
  · rw [assoc_eq_of_assocs (hset.assocs.trans hassocs), hw.others b hb]
  · rw [assoc_eq_of_assocs (hset.assocs.trans hassocs), hw.record]
  · rw [hlanes, hab.completion, hfr, hw.lanes]
    rfl
  · rw [frame?_eq_of_pool hset.pool, frame?_of_buf hbuf, hab.frames x, hfr, frame?_of_buf hw.buf]
    rfl
  · have hret := returns_of_accounted hacc hw.lanes hw.buf hnd hframes r.assoc
    obtain ⟨p', hp', hq', hm'⟩ := hret.posts
    have hends : ∀ q, w.endsWith (s.framesIn (s.failedLanes r)) q ↔ s.endsWith (s.framesIn (s.failedLanes r)) q := fun q => by
      unfold State.endsWith
      rw [ofQueue_of_buf hw.buf, hw.lanes, hw.disp]
    refine ⟨?_, fun q => ⟨?_, ?_, fun hkept he => ?_⟩⟩
    · rw [hset.freeCells, hbuf, hret.freeCells, hw.buf, cellsOf_of_buf hw.buf]
      rfl
    · rw [hlanes, hret.inFlight q, hw.lanes, ofQueue_of_buf hw.buf]
      rfl
    · rw [hset.queueState, show y.disp = v.disp by simp [y], hret.queueState q]
      exact if_congr (hends q) rfl (by rw [hw.disp])
    · exact mem_of_posts ((hw.posts.trans hp').trans hrep) hset hrack hkept
        (List.mem_append_left _ (List.mem_append_right _ (hm' q ((hends q).2 he)))) (by simp [newNotice])
  · refine (hcount _).trans ((count_abortLanes_of_ne_nil r.assoc hne w).trans ?_)
    rw [hw.drops]
    rfl
  · refine (hcount _).trans ((count_abortLanes_ne r.assoc _ w (by simp)).trans ?_)
    rw [hw.counted hlost]
    rfl
  · rw [hset.bus, show y.bus = w.bus by simp [y, v]]
    exact hw.claim hlost
  · have hnote := notified_of_posts hall hset (by rw [hrack]) r.assoc.val
    rw [namedIn_append, namedIn_append, namedIn_ofPart hquiet, namedIn_handed, List.append_nil, List.append_nil,
      namedIn_keyWanted] at hnote
    exact hnote
  · have hreport := reported_of_posts hall hset (by rw [hrack])
    rw [exceptionsIn_append, exceptionsIn_append, hexc, exceptionsIn_ofPart hquiet,
      exceptionsIn_handed_keyCheck r.assoc _ _ (by simp [v, hw.image]) hepoch] at hreport
    exact hreport

end Sys2Proof.Machine
end

section
/-! SUPPORT. The lists that the blocks' operations lengthen: queued notices, completion entries, the transmit list. Each
operation keeps them within their sizes and the transmit list in order. -/

namespace Sys2Proof.Machine

/-! ## The transmit list (R35, R36) -/

/-- The transmit list stands in rank order without repeats, JOIN under association 0 (R35, R36). -/
def TxOrdered (l : List TxEntry) : Prop :=
  l.Pairwise (fun x y => x.rank < y.rank) ∧ ∀ e ∈ l, e.kind = .join → e.assoc = 0

theorem kind_value_inj {x y : MsgKind} (h : x.value = y.value) : x = y := by
  revert h
  cases x <;> cases y <;> simp [MsgKind.value]

theorem rank_inj {x y : TxEntry} (h : x.rank = y.rank) : x = y := by
  obtain ⟨k, a⟩ := x
  obtain ⟨m, b⟩ := y
  have ha := a.isLt
  have hb := b.isLt
  simp only [TxEntry.rank] at h
  have hk : k = m := kind_value_inj (by omega)
  have hab : a = b := Fin.ext (by omega)
  rw [hk, hab]

theorem txInsert_pairwise (e : TxEntry) {l : List TxEntry} (h : l.Pairwise (fun x y => x.rank < y.rank)) :
    (txInsert e l).Pairwise (fun x y => x.rank < y.rank) := by
  induction l with
  | nil => simp [txInsert]
  | cons x l ih =>
    obtain ⟨hx, hl⟩ := List.pairwise_cons.1 h
    rw [txInsert]
    split
    · exact h
    split
    · rename_i hlt
      refine List.pairwise_cons.2 ⟨fun y hy => ?_, h⟩
      rcases List.mem_cons.1 hy with rfl | hy
      · exact hlt
      · exact hlt.trans (hx y hy)
    · rename_i hne hge
      refine List.pairwise_cons.2 ⟨fun y hy => ?_, ih hl⟩
      rcases mem_txInsert.1 hy with rfl | hy
      · exact lt_of_le_of_ne (not_lt.1 hge) (fun hr => hne (rank_inj hr))
      · exact hx y hy

theorem TxOrdered.insert {l : List TxEntry} (h : TxOrdered l) {e : TxEntry} (he : e.kind = .join → e.assoc = 0) :
    TxOrdered (txInsert e l) :=
  ⟨txInsert_pairwise e h.1, fun x hx => (mem_txInsert.1 hx).elim (fun hx => hx ▸ he) (h.2 x)⟩

theorem TxOrdered.filter {l : List TxEntry} (h : TxOrdered l) (p : TxEntry → Bool) : TxOrdered (l.filter p) :=
  ⟨h.1.filter p, fun x hx => h.2 x (List.mem_filter.1 hx).1⟩

/-! ## The lists in bounds -/

/-- At most 32 notices are queued and at most `n` completion entries stand, and the transmit list is in order. -/
structure InBounds (n : Nat) (s : State) : Prop where
  notices : s.status.notices.length ≤ 32
  completion : s.lanes.completion.length ≤ n
  txList : TxOrdered s.bus.txList

variable {n : Nat} {s t : State}

theorem InBounds.same (h : InBounds n s) (he : t.status.notices = s.status.notices ∧
    t.lanes.completion = s.lanes.completion ∧ t.bus.txList = s.bus.txList) : InBounds n t := by
  obtain ⟨hn, hc, ht⟩ := he
  exact ⟨by rw [hn]; exact h.notices, by rw [hc]; exact h.completion, by rw [ht]; exact h.txList⟩

theorem InBounds.modAssoc (h : InBounds n s) (a : Fin 64) (f : Assoc → Assoc) :
    InBounds n (s.modAssoc a f) := h.same (by simp)

theorem InBounds.setSlot (h : InBounds n s) (r : SlotRef) (k : KeySlot) : InBounds n (s.setSlot r k) := h.same (by simp)

theorem InBounds.postMark (h : InBounds n s) (a : Fin 64) (c : ExcClass) :
    InBounds n (postMark a c s) := h.same (by simp)

theorem InBounds.bump (h : InBounds n s) (a : Fin 64) (c : AssocCount) (k : Nat) :
    InBounds n (bump a c k s) := h.same (by simp)

theorem InBounds.mono (h : InBounds n s) {m : Nat} (hm : n ≤ m) : InBounds m s :=
  ⟨h.notices, h.completion.trans hm, h.txList⟩

/-- What is kept by each step of a fold is kept by the fold. -/
theorem InBounds.foldl {α : Type} {f : State → α → State} (h : InBounds n s)
    (hf : ∀ u x, InBounds n u → InBounds n (f u x)) (l : List α) : InBounds n (l.foldl f s) :=
  List.foldlRecOn (motive := InBounds n) l f h (fun u hu x _ => hf u x hu)

/-! ## Notices (R176) -/

theorem joinNotice_notices (x : Notice) (s : State) :
    (joinNotice x s).status.notices = s.status.notices ++ [{ x with time := s.time }] := rfl

theorem postNotice_length {s : State} (h : s.status.notices.length ≤ 32) (x : Notice) :
    (postNotice x s).status.notices.length ≤ 32 := by
  fun_cases Machine.postNotice x s
  case case1 => exact h
  case case2 => simpa [mergeNotice_length] using h
  case case3 hlt => simpa [joinNotice_notices] using hlt
  case case4 => simpa using h

theorem InBounds.postNotice (h : InBounds n s) (x : Notice) : InBounds n (postNotice x s) :=
  ⟨postNotice_length h.notices x, by simpa using h.completion, by simpa using h.txList⟩

theorem InBounds.report (h : InBounds n s) (c : ExcClass) (a : Option (Fin 64)) (v k : Nat) :
    InBounds n (report c a v k s) := by
  unfold Machine.report
  split
  · exact h.postNotice _
  · exact h

theorem InBounds.postKeyWanted (h : InBounds n s) (a : Fin 64) (e : Nat) : InBounds n (postKeyWanted a e s) :=
  h.postNotice _

theorem InBounds.postKeyPlaced (h : InBounds n s) (a : Fin 64) (e : Nat) (r : Role) :
    InBounds n (postKeyPlaced a e r s) :=
  h.postNotice _

theorem InBounds.joinHeldZeroized (h : InBounds n s) : InBounds n (joinHeldZeroized s) := by
  unfold Machine.joinHeldZeroized
  split
  · rename_i hr
    exact ⟨by simpa [joinNotice_notices] using hr.2, h.completion, h.txList⟩
  · exact h

/-! ## Entries requested and cancelled (R36, R37) -/

theorem InBounds.requestTx (h : InBounds n s) {k : MsgKind} {a : Fin 64} (hk : k = .join → a = 0) :
    InBounds n (requestTx k a s) :=
  ⟨by simpa using h.notices, by simpa using h.completion, h.txList.insert hk⟩

theorem InBounds.removeTx (h : InBounds n s) (k : MsgKind) (a : Fin 64) : InBounds n (removeTx k a s) :=
  ⟨by simpa using h.notices, by simpa using h.completion, h.txList.filter _⟩

theorem InBounds.cancelClaim (h : InBounds n s) (a : Fin 64) : InBounds n (cancelClaim a s) := by
  have hr : InBounds n (Machine.removeTx .claim a (s.modAssoc a fun r => { r with pendingClaim := false })) :=
    InBounds.removeTx (h.same (by simp)) .claim a
  exact hr.same ⟨rfl, rfl, rfl⟩

theorem InBounds.cancelAdvance (h : InBounds n s) (a : Fin 64) : InBounds n (cancelAdvance a s) :=
  InBounds.removeTx (h.same (by simp)) .advance a

/-! ## Frames that leave their lanes (R137, R148) -/

theorem InBounds.becomeQuiesced (h : InBounds n s) (q : Fin 8) : InBounds n (becomeQuiesced q s) := by
  refine InBounds.postNotice ?_ _
  exact h.same (by simp)

theorem InBounds.loseInFlight (h : InBounds n s) (q : Fin 8) : InBounds n (loseInFlight q s) := by
  unfold Machine.loseInFlight
  simp only
  split
  · refine InBounds.becomeQuiesced ?_ q
    exact h.same (by simp)
  · exact h.same (by simp)

theorem InBounds.removeCompletion (h : InBounds n s) (f : Nat) : InBounds n (removeCompletion f s) :=
  ⟨by simpa using h.notices, (List.length_filter_le _ _).trans h.completion, by simpa using h.txList⟩

theorem InBounds.releaseFrame (h : InBounds n s) (f : Nat) : InBounds n (releaseFrame f s) := h.same (by simp)

theorem InBounds.removeLaneFrame (h : InBounds n s) (l : Fin 4) : InBounds n (removeLaneFrame l s) := by
  unfold Machine.removeLaneFrame
  split
  · rename_i f _
    have hi : InBounds n (s.setLane l .idle) := h.same (by simp)
    have hc := hi.removeCompletion f
    refine InBounds.releaseFrame ?_ f
    split
    · exact hc.loseInFlight _
    · exact hc
  · exact h

/-! ## Keys and records (R61 to R71) -/

theorem InBounds.abandonLane (h : InBounds n s) (r : SlotRef) (l : Fin 4) : InBounds n (abandonLane r s l) := by
  refine InBounds.removeLaneFrame ?_ l
  exact h.same (by simp)

theorem InBounds.freeOldestRetiring (h : InBounds n s) (a : Fin 64) : InBounds n (freeOldestRetiring a s) := by
  unfold Machine.freeOldestRetiring
  split
  · rename_i j _
    have hl : InBounds n ((s.lanesOfSlot ⟨a, j⟩).foldl (Machine.abandonLane ⟨a, j⟩) s) :=
      h.foldl (fun _ l hu => hu.abandonLane _ l) _
    exact hl.same (by simp)
  · exact h

theorem InBounds.retireCurrent (h : InBounds n s) (a : Fin 64) : InBounds n (retireCurrent a s) := by
  unfold Machine.retireCurrent
  split
  · simp only
    split
    · exact h.same (by simp)
    · refine InBounds.setSlot ?_ _ _
      split
      · exact h.freeOldestRetiring a
      · exact h
  · exact h

theorem InBounds.discardKey (h : InBounds n s) (r : SlotRef) : InBounds n (discardKey r s) := by
  refine InBounds.postNotice ?_ _
  exact h.same (by simp)

theorem InBounds.discardKeys (h : InBounds n s) (a : Fin 64) (p : KeySlot → Bool) : InBounds n (discardKeys a p s) := by
  refine h.foldl (fun u j hu => ?_) _
  split
  · exact hu.discardKey _
  · exact hu

theorem InBounds.discardReservation (h : InBounds n s) (a : Fin 64) (c : AssocCount) :
    InBounds n (discardReservation a c s) := h.same (by simp)

theorem InBounds.retireRecord (h : InBounds n s) (a : Fin 64) : InBounds n (retireRecord a s) :=
  (((h.discardReservation a .discardRetire).cancelClaim a).cancelAdvance a).modAssoc a _

theorem InBounds.postEpochEnd (h : InBounds n s) (a : Fin 64) : InBounds n (postEpochEnd a s) := h.postNotice _

theorem InBounds.postAllMarks (h : InBounds n s) (a : Fin 64) : InBounds n (postAllMarks a s) := h.same (by simp)

theorem InBounds.retire (h : InBounds n s) (a : Fin 64) (e : Bool) : InBounds n (retire a e s) := by
  have hk := ((h.retireRecord a).retireCurrent a).discardKeys a (fun k => k.role == .standby || k.role == .pending)
  unfold Machine.retire
  refine InBounds.postAllMarks ?_ a
  split
  · exact hk.postEpochEnd a
  · exact hk

theorem InBounds.requestAdvance (h : InBounds n s) (a : Fin 64) (x : AdvanceReason) :
    InBounds n (requestAdvance a x s) := by
  fun_cases Machine.requestAdvance a x s
  case case2 => exact h.retire a true
  case case4 => exact (h.modAssoc a _).requestTx (by simp)
  case case5 => exact (h.modAssoc a _).postKeyWanted a _
  all_goals exact h

theorem InBounds.requestClaim (h : InBounds n s) (a : Fin 64) : InBounds n (requestClaim a s) := by
  fun_cases Machine.requestClaim a s
  case case4 => exact h.requestAdvance a _
  case case5 => exact (h.modAssoc a _).requestTx (by simp)
  all_goals exact h

theorem InBounds.queueHeldAdvance (h : InBounds n s) (a : Fin 64) : InBounds n (queueHeldAdvance a s) := by
  fun_cases Machine.queueHeldAdvance a s
  case case1 => exact (h.modAssoc a _).requestTx (by simp)
  all_goals exact h

theorem InBounds.loseCurrentKey (h : InBounds n s) (a : Fin 64) : InBounds n (loseCurrentKey a s) := by
  refine InBounds.postKeyWanted ?_ a _
  exact ((h.discardReservation a .discardKeyLoss).cancelClaim a).modAssoc a _

/-! ## An advance applied (R65, R66) -/

theorem InBounds.resetRecordForEpoch (h : InBounds n s) (a : Fin 64) (e : Nat) :
    InBounds n (resetRecordForEpoch a e s) :=
  (((h.discardReservation a .discardAdvance).cancelClaim a).cancelAdvance a).modAssoc a _

theorem InBounds.takeUpStandby (h : InBounds n s) (a : Fin 64) (e : Nat) : InBounds n (takeUpStandby a e s) := by
  fun_cases Machine.takeUpStandby a e s
  case case1 => exact h.same (by simp)
  case case2 => exact ((h.discardKeys a _).modAssoc a _).postKeyWanted a e

theorem InBounds.enterEpoch (h : InBounds n s) (a : Fin 64) (e : Nat) (x : AdvanceReason) (i : Nat) :
    InBounds n (enterEpoch a e x i s) :=
  (((((h.resetRecordForEpoch a e).postNotice _).retireCurrent a).takeUpStandby a e).postMark a .blind)
    |>.postMark a .exhausted |>.postMark a .starved

theorem InBounds.advanceReaches (h : InBounds n s) (a : Fin 64) (e : Nat) (x : AdvanceReason) (i : Nat) :
    InBounds n (advanceReaches a e x i s) := by
  unfold Machine.advanceReaches
  split
  · rw [applyAdvance_eq]
    split
    · exact (h.enterEpoch a e x i).requestClaim a
    · exact h.enterEpoch a e x i
  · exact h

/-! ## Placement and installs (R54 to R60) -/

theorem InBounds.assignRoles (h : InBounds n s) (a : Fin 64) (e : Nat) : InBounds n (assignRoles a e s) := by
  refine h.foldl (fun u j hu => ?_) _
  simp only
  split
  · exact hu.same (by simp)
  split
  · exact hu.same (by simp)
  · exact hu.discardKey _

theorem InBounds.reportPlaced (h : InBounds n s) (a : Fin 64) (v : Vector KeySlot 4) (l : List (Fin 4)) :
    InBounds n (reportPlaced a v l s) := by
  refine h.foldl (fun u j hu => ?_) l
  split
  · exact (hu.postKeyPlaced a _ _).postMark a _
  · exact hu.postKeyPlaced a _ _
  · exact hu

theorem InBounds.placeRecord (h : InBounds n s) (a : Fin 64) (e : Nat) (w : Option Nat) (x : AssocState) :
    InBounds n (placeRecord a e w x s) := h.modAssoc a _

theorem InBounds.place (h : InBounds n s) (a : Fin 64) : InBounds n (place a s) := by
  fun_cases Machine.place a s
  case case1 v _ =>
    unfold placeInEpoch
    simp only
    refine InBounds.modAssoc (InBounds.reportPlaced ?_ a _ _) a _
    split
    · exact (h.assignRoles a _).placeRecord a _ _ _
    · exact ((h.assignRoles a _).placeRecord a _ _ _).postKeyWanted a _
  case case2 f _ =>
    unfold placeBlind
    simp only
    refine InBounds.modAssoc (InBounds.reportPlaced ?_ a _ _) a _
    exact ((h.assignRoles a f).placeRecord a f none .blind).requestAdvance a .blind
  case case3 => exact h.modAssoc a _

theorem InBounds.writeEmptySlot (h : InBounds n s) (a : Fin 64) (r : Role) (i : Install) :
    InBounds n (writeEmptySlot a r i s) := h.same (by simp)

theorem InBounds.installStandby (h : InBounds n s) (a : Fin 64) (i : Install) : InBounds n (installStandby a i s) := by
  unfold Machine.installStandby
  refine InBounds.queueHeldAdvance (InBounds.postKeyPlaced ?_ a _ _) a
  split
  · exact (h.discardKey _).setSlot _ _
  · exact h.writeEmptySlot a _ i

theorem InBounds.decideInstall (h : InBounds n s) (a : Fin 64) (i : Install) :
    InBounds n (decideInstall a i s).state := by
  fun_cases Machine.decideInstall a i s
  case case1 =>
    fun_cases installSettling a i s
    case case2 => exact (h.discardKey _).setSlot _ _
    case case5 => exact h.writeEmptySlot a _ i
    all_goals exact h
  case case2 =>
    fun_cases installDormant a i s
    case case3 => exact (h.writeEmptySlot a _ i).place a
    all_goals exact h
  case case3 =>
    fun_cases installRunning a i s
    case case2 => exact (((h.writeEmptySlot a _ i).modAssoc a _).postKeyPlaced a _ _).postMark a _
    case case4 => exact h.installStandby a i
    all_goals exact h

/-! ## Messages on the record (R17 to R24) -/

theorem InBounds.rekeyPointTest (h : InBounds n s) (a : Fin 64) (q : Nat) : InBounds n (rekeyPointTest a q s) := by
  unfold Machine.rekeyPointTest
  split
  · exact ((h.modAssoc a _).report _ _ _ _).requestAdvance a _
  · exact h

theorem InBounds.addRange (h : InBounds n s) (a : Fin 64) (p q : Nat) : InBounds n (addRange a p q s) := by
  fun_cases Machine.addRange a p q s
  case case1 => exact h.same (by simp)
  case case2 => exact h.same (by simp)
  case case3 => exact ((h.bump a _ _).report _ _ _ _).modAssoc a _

theorem InBounds.winClaim (h : InBounds n s) (a : Fin 64) (p q : Nat) : InBounds n (winClaim a p q s) :=
  ((((h.modAssoc a _).modAssoc a _).addRange a p q).bump a _ _).rekeyPointTest a q

theorem InBounds.countLate (h : InBounds n s) (a : Fin 64) (e : Nat) : InBounds n (countLate a e s) := h.same (by simp)

theorem InBounds.ownClaim (h : InBounds n s) (a : Fin 64) (p q e : Nat) (w : Bool) :
    InBounds n (ownClaim a p q e w s) := by
  fun_cases Machine.ownClaim a p q e w s
  case case1 => exact h.winClaim a p q
  case case2 => exact h.modAssoc a _
  case case3 => exact h.countLate a e

theorem InBounds.keepFirstPiece (h : InBounds n s) (a : Fin 64) (x : Nat × Nat) :
    InBounds n (keepFirstPiece a x s) := h.same (by simp)

theorem InBounds.overlapRemoval (h : InBounds n s) (a : Fin 64) (p q : Nat) : InBounds n (overlapRemoval a p q s) := by
  unfold Machine.overlapRemoval
  simp only
  split
  · exact h
  · refine InBounds.report (InBounds.bump ?_ a _ _) _ _ _ _
    split
    · exact h.modAssoc a _
    · exact (h.modAssoc a _).keepFirstPiece a _
    · exact (h.modAssoc a _).keepFirstPiece a _

theorem InBounds.overlapAdvanceTest (h : InBounds n s) (a : Fin 64) (p : Nat) :
    InBounds n (overlapAdvanceTest a p s) := by
  unfold Machine.overlapAdvanceTest
  split
  · exact h.requestAdvance a _
  · exact h

theorem InBounds.peerClaimInEpoch (h : InBounds n s) (a : Fin 64) (p q : Nat) :
    InBounds n (peerClaimInEpoch a p q s) := by
  have hgrown : InBounds n (accumulate a (q + 1 - p) (raiseFront a q s)) := (h.modAssoc a _).modAssoc a _
  fun_cases Machine.peerClaimInEpoch a p q s
  case case1 => exact (hgrown.overlapRemoval a p q).overlapAdvanceTest a p
  case case2 => exact hgrown.overlapAdvanceTest a p
  case case3 => exact h

theorem InBounds.peerClaim (h : InBounds n s) (a : Fin 64) (p q e : Nat) (x : BitVec 3) :
    InBounds n (peerClaim a p q e x s) := by
  fun_cases Machine.peerClaim a p q e x s
  case case1 => exact h.modAssoc a _
  case case2 => exact (h.advanceReaches a e _ _).peerClaimInEpoch a p q
  case case3 => exact (h.advanceReaches a e _ _).countLate a e

theorem InBounds.beaconDelivered (h : InBounds n s) (a : Fin 64) (e v : Nat) (x : BitVec 3) :
    InBounds n (beaconDelivered a e v x s) := by
  fun_cases Machine.beaconDelivered a e v x s
  case case1 => exact h.modAssoc a _
  case case2 => exact (h.advanceReaches a e _ _).modAssoc a _
  case case3 => exact h.advanceReaches a e _ _
  case case4 => exact (h.advanceReaches a e _ _).countLate a e

theorem InBounds.advanceDelivered (h : InBounds n s) (a : Fin 64) (e : Nat) (r : AdvanceReason) (x : BitVec 3) :
    InBounds n (advanceDelivered a e r x s) := by
  unfold Machine.advanceDelivered
  split
  · exact h.modAssoc a _
  · exact h.advanceReaches a e r _

/-! ## The bus (R35 to R43) -/

theorem InBounds.quietTest (h : InBounds n s) : InBounds n (quietTest s) := by
  fun_cases Machine.quietTest s
  case case1 =>
    refine InBounds.postNotice ?_ _
    exact h.same ⟨rfl, rfl, rfl⟩
  case case2 =>
    refine InBounds.postNotice ?_ _
    exact h.same ⟨rfl, rfl, rfl⟩
  case case3 => exact h

theorem InBounds.setErrorCount (h : InBounds n s) (k : Nat) : InBounds n (setErrorCount k s) :=
  InBounds.quietTest (h.same ⟨rfl, rfl, rfl⟩)

theorem InBounds.ownVoid (h : InBounds n s) : InBounds n (ownVoid s) := by
  refine InBounds.setErrorCount ?_ _
  exact h.same (by simp)

theorem InBounds.ownNoAck (h : InBounds n s) (a : Fin 64) (e : Nat) : InBounds n (ownNoAck a e s) := by
  unfold Machine.ownNoAck
  simp only
  split
  · refine InBounds.postNotice ?_ _
    exact h.same (by simp)
  · exact h.same (by simp)

theorem InBounds.cancelByMessage (h : InBounds n s) (own : Bool) (m : BusMessage) :
    InBounds n (cancelByMessage own m s) := by
  rcases cancelByMessage_cases own m s with he | ⟨k, a, he⟩ <;> rw [he]
  · exact h
  · exact h.removeTx k a

theorem InBounds.scheduleBeacons (h : InBounds n s) : InBounds n (scheduleBeacons s) := by
  refine h.foldl (fun u a hu => ?_) _
  split
  · exact hu.requestTx (by simp)
  · exact hu

theorem InBounds.applyMessage (h : InBounds n s) (own w : Bool) (m : BusMessage) :
    InBounds n (applyMessage own w m s) := by
  have hc := h.cancelByMessage own m
  unfold Machine.applyMessage
  generalize Machine.cancelByMessage own m s = u at hc
  fun_cases handMessage own w m u
  case case1 => exact hc.scheduleBeacons
  case case3 => exact hc.advanceDelivered _ _ _ _
  case case5 => exact hc.beaconDelivered _ _ _ _
  case case7 => exact hc.ownClaim _ _ _ _ _
  case case8 => exact hc.peerClaim _ _ _ _ _
  all_goals exact hc

theorem InBounds.ownDelivered (h : InBounds n s) (o : OwnMessage) : InBounds n (ownDelivered o s) := by
  have hout : InBounds n (clearOnBus s) := h.same (by simp)
  unfold Machine.ownDelivered
  simp only
  refine InBounds.applyMessage (InBounds.setErrorCount ?_ _) _ _ _
  have hleft : InBounds n (if o.withdrawn then clearOnBus s
      else Machine.removeTx o.message.content.kind o.message.target (clearOnBus s)) := by
    split
    · exact hout
    · exact hout.removeTx _ _
  split
  · exact hleft.same ⟨rfl, rfl, rfl⟩
  · exact hleft

theorem InBounds.asReceiver (h : InBounds n s) (m : BusMessage) (crcOk : Bool) (x : BusOutcome) :
    InBounds n (asReceiver m crcOk x s) := by
  have hcounted : InBounds n (if x = .voidByError then bumpBus .busVoids s else s) := by
    split
    · exact h.same (by simp)
    · exact h
  unfold Machine.asReceiver
  simp only
  split
  · exact hcounted.setErrorCount _
  split
  · exact (hcounted.setErrorCount _).applyMessage _ _ _
  · exact hcounted

theorem InBounds.messageCompletes (h : InBounds n s) (m : BusMessage) (e : BusEnding) :
    InBounds n (messageCompletes m e s) := by
  have h0 : InBounds n { s with bus := { s.bus with idleSeen := true } } := h.same (by simp)
  unfold Machine.messageCompletes
  simp only
  split
  · unfold asSender
    split
    · exact h0.ownDelivered _
    · exact h0.ownVoid
    · exact h0.ownNoAck _ _
  · exact h0.ownVoid
  · refine InBounds.asReceiver ?_ m _ _
    unfold loseArbitration
    simp only
    split <;> exact h0.same (by simp)
  · refine InBounds.asReceiver ?_ m _ _
    exact h0.same (by simp)

theorem InBounds.attempt (h : InBounds n s) (fuel : Nat) : InBounds n (attempt fuel s) := by
  have hbegin : ∀ {u : State}, InBounds n u → ∀ m, InBounds n (beginMessage m u) := fun hu m => hu.same (by simp)
  induction fuel generalizing s with
  | zero => exact h
  | succ fuel ih =>
    rw [Machine.attempt]
    split
    · exact h
    split
    · split
      · exact hbegin h _
      · exact ih (h.removeTx _ _)
    · split
      · exact ih ((h.cancelClaim _).requestAdvance _ _)
      · exact hbegin h _
    · split
      · exact hbegin h _
      · exact ih (h.removeTx _ _)
    · exact hbegin h _

/-! ## A dispatch (R9 to R13, R111 to R133) -/

theorem InBounds.promote (h : InBounds n s) (a : Fin 64) : InBounds n (promote a s) := h.same (by simp)

theorem InBounds.discardStale (h : InBounds n s) (a : Fin 64) : InBounds n (discardStale a s) := by
  fun_cases Machine.discardStale a s
  case case1 => exact (((h.bump a _ _).report _ _ _ _).modAssoc a _).promote a
  case case2 => exact h

theorem InBounds.rangeWalk (h : InBounds n s) (a : Fin 64) (k : Nat) : InBounds n (rangeWalk k a s) := by
  induction k generalizing s with
  | zero => exact h
  | succ k ih =>
    rw [Machine.rangeWalk]
    split
    · exact ih (h.discardStale a)
    · exact h

theorem InBounds.checkFrame (h : InBounds n s) (d : Descriptor) : InBounds n (checkFrame d s).1 := by
  fun_cases Machine.checkFrame d s
  case case9 a _ _ _ _ =>
    have hw := h.rangeWalk a 2
    unfold serveCounter
    simp only
    split
    · exact hw
    split
    · exact hw.requestAdvance a _
    · exact hw.requestClaim a
  all_goals exact h

theorem InBounds.handOff (h : InBounds n s) (f : Nat) (d : Descriptor) (x : Option Assigned) :
    InBounds (n + 1) (handOff f d x s) := by
  unfold Machine.handOff
  split
  · exact ⟨by simpa using h.notices, by simpa using h.completion, by simpa using h.txList⟩
  · exact h.mono (Nat.le_succ n)

theorem InBounds.prefetchTest (h : InBounds n s) (a : Fin 64) : InBounds n (prefetchTest a s) := by
  unfold Machine.prefetchTest
  split
  · exact h.requestClaim a
  · exact h

theorem InBounds.sendToLane (h : InBounds n s) (a : Fin 64) (f : Nat) (d : Descriptor) :
    InBounds (n + 1) (sendToLane a f d s) := by
  have ht : InBounds n (takeCounter a s) := h.same (by simp)
  exact ((ht.setSlot _ _).handOff f d _).prefetchTest a

theorem InBounds.dropFrame (h : InBounds n s) (f : Nat) (d : Descriptor) (c : ExcClass) (v : Nat) :
    InBounds n (dropFrame f d c v s) := by
  unfold Machine.dropFrame
  split
  · refine InBounds.releaseFrame (InBounds.report ?_ _ _ _ _) f
    exact h.same (by simp)
  · refine InBounds.releaseFrame (InBounds.report ?_ _ _ _ _) f
    exact h.same (by simp)

theorem InBounds.parkFrame (h : InBounds n s) (a : Fin 64) (f : Nat) (d : Descriptor) (c : ExcClass) (b : Bool) :
    InBounds n (parkFrame a f d c b s) := by
  unfold Machine.parkFrame
  split
  · exact h.dropFrame f d _ _
  · refine InBounds.report (InBounds.bump ?_ a _ _) _ _ _ _
    exact h.same (by simp)

theorem InBounds.repark (h : InBounds n s) (e : ParkEntry) (c : ExcClass) : InBounds n (repark e c s) := by
  unfold Machine.repark
  simp only
  split
  · exact h.same (by simp)
  · refine InBounds.report ?_ _ _ _ _
    exact h.same (by simp)

theorem InBounds.unpark (h : InBounds n s) (f k : Nat) : InBounds n (unpark f k s) := h.same (by simp)

theorem InBounds.dispatchParked (h : InBounds n s) (e : ParkEntry) : InBounds (n + 1) (dispatchParked e s) := by
  have hm : ∀ {u}, InBounds n u → InBounds (n + 1) u := fun hu => hu.mono (Nat.le_succ n)
  fun_cases Machine.dispatchParked e s
  case case1 => exact hm (h.unpark _ _)
  case case2 d _ =>
    have hc := h.checkFrame d
    unfold settleParked
    split
    · exact (hc.unpark _ _).handOff _ d _
    · exact (hc.unpark _ _).sendToLane _ _ d
    · exact hm ((hc.unpark _ _).dropFrame _ d _ _)
    · split
      · exact hm (hc.repark e _)
      · exact hm ((hc.unpark _ _).dropFrame _ d _ _)

theorem InBounds.dispatchQueued (h : InBounds n s) (q : Fin 8) (f : Nat) (rest : List Nat) :
    InBounds (n + 1) (dispatchQueued q f rest s) := by
  have hm : ∀ {u}, InBounds n u → InBounds (n + 1) u := fun hu => hu.mono (Nat.le_succ n)
  have ht : ∀ k, InBounds n (takeHead q rest k s) := fun k => h.same (by simp)
  unfold Machine.dispatchQueued
  split
  · exact hm (ht 0)
  · rename_i d _
    simp only
    split
    · exact hm ((ht _).parkFrame _ _ d _ _)
    · have hc := (ht d.cells).checkFrame d
      unfold settleQueued
      split
      · exact hc.handOff f d _
      · exact hc.sendToLane _ f d
      · exact hm (hc.dropFrame f d _ _)
      · split
        · exact hm (hc.parkFrame _ f d _ _)
        · exact hm (hc.dropFrame f d _ _)

theorem InBounds.dispatchCandidate (h : InBounds n s) (c : Candidate) : InBounds (n + 1) (dispatchCandidate c s) := by
  cases c with
  | parked e => exact h.dispatchParked e
  | queued q f rest => exact h.dispatchQueued q f rest

/-! ## Lanes and the campus port (R71, R127, R135, R143) -/

theorem InBounds.timeoutEntry (h : InBounds n s) (e : ParkEntry) : InBounds n (timeoutEntry e s) := by
  unfold Machine.timeoutEntry
  split
  · exact (h.unpark _ _).dropFrame _ _ _ _
  · exact h.unpark _ _

theorem InBounds.keyCheckFailure (h : InBounds n s) (r : SlotRef) : InBounds n (keyCheckFailure r s) := by
  unfold Machine.keyCheckFailure
  refine InBounds.report (InBounds.foldl ?_ (fun u l hu => ?_) _) _ _ _ _
  · unfold failedKeyState
    split
    · exact (h.setSlot r _).loseCurrentKey _
    · exact h.setSlot r _
  · refine InBounds.removeLaneFrame ?_ l
    exact hu.same (by simp)

theorem InBounds.finishEntry (h : InBounds n s) (f : Nat) (tag : List Byte) : InBounds n (finishEntry f tag s) :=
  ⟨h.notices, by simpa [Machine.finishEntry] using h.completion, h.txList⟩

theorem InBounds.setLane (h : InBounds n s) (l : Fin 4) (x : Lane) : InBounds n (s.setLane l x) := h.same (by simp)

theorem InBounds.releaseUse (h : InBounds n s) (r : SlotRef) : InBounds n (releaseUse r s) := h.same (by simp)

theorem InBounds.countSent (h : InBounds n s) (e : CompletionEntry) (k : Nat) :
    InBounds n (countSent e k s) := h.same (by simp)

theorem InBounds.finishEncrypt (h : InBounds n s) (l : Fin 4) (f : Nat) (r : SlotRef) (k : BitVec 256) :
    InBounds n (finishEncrypt l f r k s) := by
  refine InBounds.setLane (InBounds.releaseUse ?_ r) l _
  split
  · refine InBounds.finishEntry ?_ _ _
    exact h.same (by simp)
  · exact h

theorem InBounds.headSent (h : InBounds n s) {e : CompletionEntry} {rest : List CompletionEntry}
    (hc : s.lanes.completion = e :: rest) : InBounds n (headSent e rest s) := by
  have hlen := h.completion
  have hout : InBounds n { s with
      lanes := { s.lanes with completion := rest }, campus := { s.campus with sending := none } } :=
    ⟨h.notices, by simp [hc] at hlen ⊢; omega, h.txList⟩
  exact ((hout.releaseFrame e.frame).loseInFlight e.queue).countSent e _

/-! ## The end of an event (R106, R116, R179) -/

theorem InBounds.rackSend (h : InBounds n s) (k : RackFrameKind) (f : WireFrame) :
    InBounds n (rackSend k f s) := h.same (by simp)

theorem InBounds.statusOffer (h : InBounds n s) (before : State) : InBounds n (statusOffer before s) := h.same (by simp)

theorem InBounds.beginStatus (h : InBounds n s) : InBounds n (beginStatus s) := by
  have ht : InBounds n (takeOffer { s with status := { s.status with notices := s.status.notices.drop 8 } }) :=
    ⟨by simpa using h.notices.trans (by omega), by simpa using h.completion, by simpa using h.txList⟩
  exact ht.joinHeldZeroized.rackSend _ _

theorem InBounds.rackPick (h : InBounds n s) : InBounds n (rackPick s) := by
  unfold Machine.rackPick
  split
  · exact h
  split
  · exact h.same (by simp)
  split
  · exact h
  split
  · exact h.same (by simp)
  · exact h.beginStatus
  · split
    · exact h.same (by simp)
    · exact h

theorem InBounds.finishEvent (h : InBounds n s) (before : State) : InBounds n (finishEvent before s) := by
  have hc : InBounds n (campusBegin (applyMarks s)) := h.same (by simp)
  exact ((hc.statusOffer before).rackPick).statusOffer before

end Sys2Proof.Machine
end

section
/-! SUPPORT. The command engine and the reply list: each operation keeps the engine IDLE exactly when it holds no frame and
keeps a free reply entry for the command that is executing. -/

namespace Sys2Proof.Machine

/-- The command engine and the reply list fit together (R93, R153, R157, R158, R164). -/
structure EngineFits (s : State) : Prop where
  replies : s.status.replies.length ≤ 4
  input : s.engine.input.length ≤ 4
  written : s.engine.written ≠ 0 →
    ∃ data rest, s.runs 0x02 data rest ∧ s.engine.written < field (commandBody data) 2 2
  idle : s.engine.state = .idle ↔ s.engine.input = []
  room : ∀ data ∈ s.engine.input.head?, s.engine.state = .executing →
    isZeroizeFrame data = true ∨ s.status.replies.length < 4

/-- The invariant, list by list. -/
theorem listsBounded_iff {s : State} :
    ListsBounded s ↔ InBounds 16 s ∧ EngineFits s ∧ s.disp.park.length ≤ 64 :=
  ⟨fun ⟨hn, hr, hi, hp, hc, htx, hj, hw, hid, hroom⟩ => ⟨⟨hn, hc, htx, hj⟩, ⟨hr, hi, hw, hid, hroom⟩, hp⟩,
    fun ⟨hl, he, hp⟩ => ⟨hl.notices, he.replies, he.input, hp, hl.completion, hl.txList.1, hl.txList.2, he.written, he.idle,
      he.room⟩⟩

/-- The command frames, the engine's state and the reply list are as they were. -/
abbrev EngineKept (s t : State) : Prop :=
  t.engine.input = s.engine.input ∧ t.engine.state = s.engine.state ∧ t.engine.written = s.engine.written ∧
    t.status.replies = s.status.replies

variable {s t : State}

theorem EngineFits.same (h : EngineFits s) (hk : EngineKept s t) : EngineFits t := by
  obtain ⟨hi, hst, hw, hr⟩ := hk
  obtain ⟨hr4, hi4, hwr, hid, hroom⟩ := h
  exact ⟨by rwa [hr], by rwa [hi], by simpa [State.runs, hi, hst, hw] using hwr, by rwa [hi, hst], by rwa [hi, hst, hr]⟩

/-! ## The head in EXECUTING (R153) -/

theorem executing?_eq_some {code : Byte} {data : List Byte} : s.executing? code = some data ↔
    s.engine.state = .executing ∧ s.engine.input.head? = some data ∧ commandCode data = code := by
  fun_cases State.executing? s code
  case case1 d rest hst hin hc =>
    rw [hst, hin]
    simp only [List.head?_cons, Option.some.injEq, true_and]
    exact ⟨fun h => ⟨h, h ▸ hc⟩, fun h => h.1⟩
  case case2 d rest hst hin hc =>
    rw [hst, hin]
    simp only [reduceCtorEq, List.head?_cons, Option.some.injEq, true_and, false_iff]
    exact fun h => hc (h.1 ▸ h.2)
  case case3 hno =>
    simp only [reduceCtorEq, false_iff]
    rintro ⟨hst, hin, -⟩
    obtain ⟨rest, hin⟩ := List.head?_eq_some_iff.1 hin
    exact hno _ _ hst hin

/-- Entries have been written only while a WRITE-SEGMENTS executes (R81, R164). -/
theorem EngineFits.written_eq_zero (h : EngineFits s)
    (hn : s.engine.state = .executing → ∀ data ∈ s.engine.input.head?, commandCode data ≠ 0x02) : s.engine.written = 0 := by
  by_contra hw
  obtain ⟨data, rest, ⟨hst, hin, hc, -⟩, -⟩ := h.written hw
  exact hn hst data (by simp [hin]) hc

theorem EngineFits.written_eq_zero_of_state (h : EngineFits s) (hn : s.engine.state ≠ .executing) : s.engine.written = 0 :=
  h.written_eq_zero fun hst => absurd hst hn

theorem EngineFits.written_eq_zero_of_code (h : EngineFits s) {code : Byte} {data : List Byte}
    (he : s.executing? code = some data) (hc : code ≠ 0x02) : s.engine.written = 0 := by
  obtain ⟨-, hin, rfl⟩ := executing?_eq_some.1 he
  refine h.written_eq_zero fun _ d hd => ?_
  rw [hin, Option.mem_some_iff] at hd
  exact hd ▸ hc

theorem EngineFits.reply_room (h : EngineFits s) {code : Byte} {data : List Byte} (he : s.executing? code = some data)
    (hz : isZeroizeFrame data = false) : s.status.replies.length < 4 := by
  obtain ⟨hst, hin, -⟩ := executing?_eq_some.1 he
  exact (h.room data hin hst).resolve_left (by simp [hz])

theorem not_zeroize_of_code {data : List Byte} (h : commandCode data ≠ 0x0a) : isZeroizeFrame data = false := by
  rw [isZeroizeFrame, beq_false_of_ne h, Bool.false_and]

/-! ## The head leaves (R153, R158) -/

/-- The engine behind a head that left. -/
theorem engineFits_leaveHead (hr : s.status.replies.length ≤ 4) (hi : s.engine.input.length ≤ 4)
    (hw : s.engine.written = 0) : EngineFits (leaveHead s) where
  replies := by simpa using hr
  input := by simp [leaveHead]; omega
  written := by simp [hw]
  idle := by
    simp only [leaveHead, List.isEmpty_iff]
    split <;> simp_all
  room := by
    simp only [leaveHead]
    split <;> simp

theorem EngineFits.leaveHead (h : EngineFits s) (hw : s.engine.written = 0) : EngineFits (leaveHead s) :=
  engineFits_leaveHead h.replies h.input hw

theorem EngineFits.placeReply (h : EngineFits s) {o : CommandOutcome} (hk : EngineKept s o.state)
    (hw : s.engine.written = 0) (hr : s.status.replies.length < 4) (data : List Byte) : EngineFits (placeReply data o) := by
  obtain ⟨hi, -, hwo, hro⟩ := hk
  refine engineFits_leaveHead ?_ ?_ ?_
  · simpa [hro] using hr
  · simpa [hi] using h.input
  · simpa [hwo] using hw

/-! ## A command frame received, checked and admitted (R93, R153, R155, R157) -/

theorem EngineFits.divertCommand (h : EngineFits s) (data : List Byte) : EngineFits (divertCommand data s) := by
  unfold Machine.divertCommand
  split
  · rename_i hlt
    refine ⟨h.replies, by simpa using hlt, fun hw => ?_, ?_, ?_⟩
    · obtain ⟨d, rest, ⟨hst, hin, hc⟩, hf⟩ := h.written hw
      exact ⟨d, rest ++ [data], ⟨by simp [hst], by simp [hin], hc⟩, hf⟩
    · by_cases hst : s.engine.state = .idle <;> simp [hst]
    · intro d hd hst
      have hidle : s.engine.state ≠ .idle := fun hi => by simp [hi] at hst
      obtain ⟨x, rest, hin⟩ := List.exists_cons_of_ne_nil fun hin => hidle (h.idle.2 hin)
      refine h.room d ?_ (by simpa [hidle] using hst)
      simpa [hin] using hd
  · exact h.same (by simp [EngineKept])

theorem EngineFits.admitCommand (h : EngineFits s) {data : List Byte} {rest : List (List Byte)}
    (hst : s.engine.state = .checking) (hin : s.engine.input = data :: rest) : EngineFits (admitCommand data s) := by
  refine ⟨h.replies, h.input, fun hw => absurd (h.written_eq_zero_of_state (by simp [hst])) hw, ?_, ?_⟩
  · simp only [Machine.admitCommand, hin]
    split <;> simp
  · intro d hd he
    simp only [Machine.admitCommand, hin, List.head?_cons, Option.mem_some_iff] at hd
    simp only [Machine.admitCommand] at he
    split at he
    · rename_i hroom
      exact hd ▸ hroom
    · cases he

/-- A reply leaves the list, and a command that waited for it executes (R157, R158). -/
theorem EngineFits.replySent (h : EngineFits s) : EngineFits (replySent s) := by
  have hr := h.replies
  have hlen : (s.status.replies.drop 1).length < 4 := by simp; omega
  refine ⟨hlen.le, h.input, fun hw => ?_, ?_, fun _ _ _ => .inr hlen⟩
  · obtain ⟨d, rest, ⟨hst, hin, hc⟩, hf⟩ := h.written hw
    exact ⟨d, rest, ⟨by simp [Machine.replySent, hst], hin, hc⟩, hf⟩
  · have hid := h.idle
    simp only [Machine.replySent]
    split
    · rename_i hst
      simpa [hst] using hid
    · exact hid

/-! ## Zeroization (R196) -/

/-- An engine that holds no command. -/
theorem engineFits_of_empty (hr : s.status.replies.length ≤ 4) (hi : s.engine.input = []) (hst : s.engine.state = .idle)
    (hw : s.engine.written = 0) : EngineFits s :=
  ⟨hr, by simp [hi], by simp [hw], by simp [hi, hst], by simp [hi]⟩

end Sys2Proof.Machine
end

section
/-! The step keeps every list within its size. -/

namespace Sys2Proof.Machine

variable {s t u : State}

/-! ## The park list (R122, R125) -/

theorem finishEvent_park_length (before u : State) : (finishEvent before u).disp.park.length = u.disp.park.length := by
  rw [(finishEvent_settled before u).park, List.length_map]

theorem parkFrame_park_length (h : s.disp.park.length ≤ 64) (a : Fin 64) (f : Nat) (d : Descriptor) (c : ExcClass)
    (b : Bool) :
    (parkFrame a f d c b s).disp.park.length ≤ 64 := by
  unfold parkFrame
  split
  · simpa using h
  · simp
    omega

theorem unpark_park_length (h : s.disp.park.length ≤ 64) (f n : Nat) : (unpark f n s).disp.park.length ≤ 64 :=
  (List.length_filter_le _ _).trans h

theorem dispatchParked_park_length (h : s.disp.park.length ≤ 64) (e : ParkEntry) :
    (dispatchParked e s).disp.park.length ≤ 64 := by
  fun_cases dispatchParked e s
  case case1 => exact unpark_park_length h _ _
  case case2 d _ =>
    have hc : (checkFrame d s).1.disp.park.length ≤ 64 := by simpa using h
    unfold settleParked
    split
    · simpa using unpark_park_length hc _ _
    · simpa using unpark_park_length hc _ _
    · simpa using unpark_park_length hc _ _
    · split
      · simpa [repark_park] using hc
      · simpa using unpark_park_length hc _ _

theorem dispatchQueued_park_length (h : s.disp.park.length ≤ 64) (q : Fin 8) (f : Nat) (rest : List Nat) :
    (dispatchQueued q f rest s).disp.park.length ≤ 64 := by
  have ht : ∀ k, (takeHead q rest k s).disp.park.length ≤ 64 := fun k => by simpa using h
  unfold dispatchQueued
  split
  · exact ht 0
  · rename_i d _
    simp only
    split
    · exact parkFrame_park_length (ht _) _ _ _ _ _
    · have hc : (checkFrame d (takeHead q rest d.cells s)).1.disp.park.length ≤ 64 := by simpa using ht d.cells
      unfold settleQueued
      split
      · simpa using hc
      · simpa using hc
      · simpa using hc
      · split
        · exact parkFrame_park_length hc _ _ _ _ _
        · simpa using hc

/-! ## The events that leave the engine as it was -/

/-- An event that keeps the lists in bounds and leaves the engine as it was. -/
theorem ListsBounded.event (h : ListsBounded s) (hl : InBounds 16 s → InBounds 16 u)
    (hp : s.disp.park.length ≤ 64 → u.disp.park.length ≤ 64) (hk : EngineKept s u) : ListsBounded (finishEvent s u) := by
  obtain ⟨hin, he, hpark⟩ := listsBounded_iff.1 h
  exact listsBounded_iff.2 ⟨(hl hin).finishEvent s, (he.same hk).same (by simp [EngineKept]),
    (finishEvent_park_length s u).trans_le (hp hpark)⟩

/-- A change that leaves lists and engine as they were. -/
theorem ListsBounded.same (h : ListsBounded s) (hl : InBounds 16 s → InBounds 16 t)
    (hp : s.disp.park.length ≤ 64 → t.disp.park.length ≤ 64) (hk : EngineKept s t) : ListsBounded t := by
  obtain ⟨hin, he, hpark⟩ := listsBounded_iff.1 h
  exact listsBounded_iff.2 ⟨hl hin, he.same hk, hp hpark⟩

/-- After a device reset every list is empty (R184). -/
theorem listsBounded_of_empty (hn : t.status.notices = []) (hr : t.status.replies = []) (he : t.engine = Engine.reset)
    (hp : t.disp.park = []) (hc : t.lanes.completion = []) (htx : t.bus.txList = []) : ListsBounded t :=
  listsBounded_iff.2 ⟨⟨by simp [hn], by simp [hc], by simp [htx, TxOrdered]⟩,
    engineFits_of_empty (by simp [hr]) (by rw [he]; rfl) (by rw [he]; rfl) (by rw [he]; rfl), by simp [hp]⟩

/-! ## Start-up and the end of settle (R187, R191, R192) -/

theorem InBounds.checkImage (h : InBounds 16 s) : InBounds 16 (checkImage s) := by
  unfold Machine.checkImage
  split
  · refine InBounds.rackSend ?_ _ _
    exact h.same ⟨rfl, rfl, rfl⟩
  · refine InBounds.postNotice (InBounds.requestTx ?_ (fun _ => rfl)) _
    exact h.same ⟨rfl, rfl, rfl⟩

theorem checkImage_keeps (s : State) : EngineKept s (checkImage s) ∧ (checkImage s).disp.park = s.disp.park := by
  unfold checkImage
  split
  · simp [EngineKept, halt]
  · simp [EngineKept, loadComplete]

theorem InBounds.settleEnds (h : InBounds 16 s) :
    InBounds 16 (postSettled (postSettlingMarks (placeAll (enterRunning s)))) := by
  have hr : InBounds 16 (enterRunning s) := by
    refine InBounds.removeTx ?_ _ _
    exact h.same ⟨rfl, rfl, rfl⟩
  have hp : InBounds 16 (placeAll (enterRunning s)) := by
    refine hr.foldl (fun u a hu => ?_) _
    split
    · exact hu.place a
    · exact hu
  have hm : InBounds 16 (postSettlingMarks (placeAll (enterRunning s))) := by
    refine hp.foldl (fun u a hu => ?_) _
    split
    · exact hu.postMark a _
    · exact hu
  exact hm.postNotice _

/-- What placement of every association leaves as it was (R50). -/
@[simp] theorem placeAll_frame (s : State) :
    (placeAll s).device = s.device ∧ (placeAll s).time = s.time ∧ (placeAll s).image = s.image ∧
    (placeAll s).segMap = s.segMap ∧ (placeAll s).bus.settleTimer = s.bus.settleTimer ∧
    (placeAll s).buf.queues = s.buf.queues ∧ (placeAll s).disp.park = s.disp.park ∧ (placeAll s).rack = s.rack ∧
    (placeAll s).engine = s.engine ∧ (placeAll s).status.replies = s.status.replies ∧
    (placeAll s).pending = s.pending := by
  unfold placeAll
  induction List.finRange 64 generalizing s with
  | nil => simp
  | cons a l ih =>
    rw [List.foldl_cons]
    split
    · simp [ih]
    · exact ih s

/-- What the release marks of the end of settle leave as it was (R50). -/
@[simp] theorem postSettlingMarks_frame (s : State) :
    (postSettlingMarks s).device = s.device ∧ (postSettlingMarks s).time = s.time ∧
    (postSettlingMarks s).image = s.image ∧ (postSettlingMarks s).segMap = s.segMap ∧
    (postSettlingMarks s).assocs = s.assocs ∧ (postSettlingMarks s).keys = s.keys ∧
    (postSettlingMarks s).bus = s.bus ∧ (postSettlingMarks s).buf = s.buf ∧
    (postSettlingMarks s).disp.park = s.disp.park ∧ (postSettlingMarks s).rack = s.rack ∧
    (postSettlingMarks s).engine = s.engine ∧ (postSettlingMarks s).status = s.status ∧
    (postSettlingMarks s).counters = s.counters ∧ (postSettlingMarks s).pending = s.pending := by
  unfold postSettlingMarks
  induction List.finRange 64 generalizing s with
  | nil => simp
  | cons a l ih =>
    rw [List.foldl_cons]
    split
    · simp [ih]
    · exact ih s

/-- What the start of RUNNING leaves as it was (R192). -/
@[simp] theorem enterRunning_frame (s : State) :
    (enterRunning s).device = .running ∧ (enterRunning s).time = s.time ∧ (enterRunning s).image = s.image ∧
    (enterRunning s).segMap = s.segMap ∧ (enterRunning s).assocs = s.assocs ∧ (enterRunning s).keys = s.keys ∧
    (enterRunning s).bus.settleTimer = none ∧ (enterRunning s).buf = s.buf ∧ (enterRunning s).disp = s.disp ∧
    (enterRunning s).rack = s.rack ∧ (enterRunning s).engine = s.engine ∧ (enterRunning s).status = s.status ∧
    (enterRunning s).counters = s.counters ∧ (enterRunning s).pending = s.pending := by
  simp [enterRunning]

/-! ## Zeroization (R195 to R198) -/

theorem zeroizeSequence_lists (s : State) : (zeroizeSequence s).status.notices = s.status.notices ∧
    (zeroizeSequence s).status.replies = s.status.replies ∧ (zeroizeSequence s).engine.input = [] ∧
    (zeroizeSequence s).engine.state = .idle ∧ (zeroizeSequence s).engine.written = 0 ∧
    (zeroizeSequence s).disp.park = [] ∧ (zeroizeSequence s).lanes.completion = [] ∧
    (zeroizeSequence s).bus.txList = [] := by
  have hrx : (zeroizeReceivers s).status = s.status := by
    unfold zeroizeReceivers
    split <;> rfl
  simp [zeroizeSequence, zeroizeStep1, zeroizeStep2, zeroizeStep3, zeroizeStep4, zeroizeStep5, zeroizeEngine, zeroizeLanes,
    zeroizeLists, hrx]

theorem ListsBounded.zeroizeRequest (h : ListsBounded s) : ListsBounded (zeroizeRequest s) := by
  unfold Machine.zeroizeRequest
  split
  · exact h
  split
  · exact h
  · exact h
  · obtain ⟨hn, hr, hi, hst, hw, hp, hc, ht⟩ := zeroizeSequence_lists (setLatch s)
    obtain ⟨hin, he, -⟩ := listsBounded_iff.1 h
    exact listsBounded_iff.2 ⟨⟨hn ▸ hin.notices, by simp [hc], by simp [ht, TxOrdered]⟩,
      engineFits_of_empty (hr ▸ he.replies) hi hst hw, by simp [hp]⟩

/-! ## Receptions and replies (R91, R93, R106) -/

/-- A reception diverts a command frame, or leaves notices and engine as they were (R91, R93). -/
theorem receiveStages_cases (r : RackReception) (s : State) :
    receiveStages r s = divertCommand r.frame.data s ∨
      ((receiveStages r s).status.notices = s.status.notices ∧ EngineKept s (receiveStages r s)) := by
  fun_cases receiveStages r s
  case case5 => exact .inl rfl
  all_goals exact .inr (by simp [EngineKept])

theorem ListsBounded.receiveRack (h : ListsBounded s) (r : RackReception) : ListsBounded (receiveRack r s) := by
  have hs : ListsBounded (storeBytes r s) :=
    h.same (fun hl => hl.same (by simp)) (by simp) (by simp [EngineKept])
  unfold Machine.receiveRack
  split
  · rcases receiveStages_cases r (storeBytes r s) with he | ⟨hn, hk⟩
    · obtain ⟨hl, hf, hp⟩ := listsBounded_iff.1 hs
      rw [he]
      refine listsBounded_iff.2 ⟨?_, hf.divertCommand _, by simpa using hp⟩
      unfold Machine.divertCommand
      split
      · exact hl.same ⟨rfl, rfl, rfl⟩
      · refine InBounds.postNotice ?_ _
        exact hl.same (by simp)
    · exact hs.same (fun hl => hl.same ⟨hn, by simp, by simp⟩) (by simp) hk
  · exact hs.same (fun hl => hl.same (by simp)) (by simp) (by simp [EngineKept])

/-- The last byte of a frame on the rack port is sent (R106, R158). -/
theorem ListsBounded.rackFrameEnds (h : ListsBounded s) (k : RackFrameKind) : ListsBounded (rackFrameEnds k s) := by
  obtain ⟨hl, hf, hp⟩ := listsBounded_iff.1 h
  cases k
  case reply => exact listsBounded_iff.2 ⟨hl.same ⟨rfl, rfl, rfl⟩, hf.replySent, hp⟩
  case inbound => exact h.same (fun hl => hl.same ⟨rfl, rfl, rfl⟩) id ⟨rfl, rfl, rfl, rfl⟩
  all_goals exact h

/-! ## Commands (R156 to R172) -/

/-- The reply of a command that has written no entry and has room for it is placed. -/
theorem ListsBounded.placeReply (h : ListsBounded s) {o : CommandOutcome} (hl : InBounds 16 s → InBounds 16 o.state)
    (hp : o.state.disp.park.length ≤ s.disp.park.length) (hk : EngineKept s o.state) (hw : s.engine.written = 0)
    (hr : s.status.replies.length < 4) (data : List Byte) : ListsBounded (placeReply data o) := by
  obtain ⟨hin, he, hpark⟩ := listsBounded_iff.1 h
  exact listsBounded_iff.2 ⟨(hl hin).same (by simp), he.placeReply hk hw hr data, by simpa using hp.trans hpark⟩

/-- The end of an event with any lists. -/
theorem ListsBounded.finishEvent (h : ListsBounded u) (before : State) : ListsBounded (finishEvent before u) := by
  obtain ⟨hin, he, hpark⟩ := listsBounded_iff.1 h
  exact listsBounded_iff.2 ⟨hin.finishEvent before, he.same (by simp [EngineKept]),
    (finishEvent_park_length before u).trans_le hpark⟩

/-- What a command's effects may do to the lists: keep them in bounds, park nothing, and leave the engine to the reply. -/
structure RuleKeeps (s : State) (o : CommandOutcome) : Prop where
  lists : InBounds 16 s → InBounds 16 o.state
  park : o.state.disp.park.length ≤ s.disp.park.length
  engine : EngineKept s o.state

theorem ruleKeeps_self (r : CommandResult) (v : Nat) (l : List Nat) : RuleKeeps s ⟨s, r, v, l⟩ :=
  ⟨id, le_rfl, rfl, rfl, rfl, rfl⟩

/-- A command that is neither WRITE-SEGMENTS nor ZEROIZE executes in one event (R156, R157, R158). -/
theorem ListsBounded.runCommand (h : ListsBounded s) {code : Byte} {rule : List Byte → State → CommandOutcome}
    (hw : code ≠ 0x02) (hz : code ≠ 0x0a) (hr : ∀ body, RuleKeeps s (rule body s)) :
    ListsBounded (runCommand code rule s) := by
  obtain ⟨-, he, -⟩ := listsBounded_iff.1 h
  unfold Machine.runCommand
  split
  · rename_i data hx
    have hc : commandCode data ≠ 0x0a := (executing?_eq_some.1 hx).2.2 ▸ hz
    refine ListsBounded.finishEvent (h.placeReply ?_ ?_ ?_ (he.written_eq_zero_of_code hx hw)
      (he.reply_room hx (not_zeroize_of_code hc)) data) s
    all_goals split
    · exact (hr _).lists
    · exact id
    · exact (hr _).park
    · exact le_rfl
    · exact (hr _).engine
    · exact ⟨rfl, rfl, rfl, rfl⟩
  · exact h

theorem ruleKeeps_onAssoc {rule : Fin 64 → State → CommandOutcome} (hr : ∀ a, RuleKeeps s (rule a s)) (body : List Byte) :
    RuleKeeps s (onAssoc rule body s) := by
  unfold onAssoc
  split
  · exact hr _
  · exact ruleKeeps_self _ _ _

theorem ruleKeeps_installRule (body : List Byte) (a : Fin 64) : RuleKeeps s (installRule body a s) := by
  unfold installRule
  simp only
  split
  · exact ruleKeeps_self _ _ _
  · generalize unwrapInstall s.engine.wrapKey body = i
    have hd : InBounds 16 s → InBounds 16 (setUnwrapStore 0 (decideInstall a i (setUnwrapStore i.key s)).state) := by
      intro hl
      have hu : InBounds 16 (setUnwrapStore i.key s) := hl.same ⟨rfl, rfl, rfl⟩
      exact (hu.decideInstall a i).same ⟨rfl, rfl, rfl⟩
    unfold installDecided
    simp only
    split
    · split
      · exact ⟨fun hl => (hd hl).same ⟨rfl, rfl, rfl⟩, by simp [answer], by simp [EngineKept, answer]⟩
      · exact ⟨hd, by simp [answer], by simp [EngineKept, answer]⟩
    · exact ⟨hd, by simp [refuseCommand], by simp [EngineKept, refuseCommand]⟩

theorem ruleKeeps_moveSegmentsRule (body : List Byte) : RuleKeeps s (moveSegmentsRule body s) := by
  fun_cases moveSegmentsRule body s
  case case3 => exact ⟨fun hl => hl.same ⟨rfl, rfl, rfl⟩, le_rfl, rfl, rfl, rfl, rfl⟩
  all_goals exact ruleKeeps_self _ _ _

theorem ruleKeeps_advanceEpochRule (a : Fin 64) : RuleKeeps s (advanceEpochRule a s) := by
  unfold advanceEpochRule
  split
  · exact ⟨fun hl => hl.requestAdvance a _, by simp [answer], by simp [EngineKept, answer]⟩
  · exact ruleKeeps_self _ _ _

theorem removeFrames_park_length (a : Fin 64) (s : State) :
    (removeFrames a s).disp.park.length ≤ s.disp.park.length := by
  have hq : ((List.finRange 8).foldl (removeFromQueue a) s).disp.park = s.disp.park := by simp
  simp only [removeFrames, releaseEach_frame, removeFromPark, hq]
  exact List.length_filter_le _ _

theorem InBounds.removeFrames (h : InBounds 16 s) (a : Fin 64) : InBounds 16 (removeFrames a s) := h.same (by simp)

theorem InBounds.bumpDrop (h : InBounds 16 s) (a : Fin 64) (c : ExcClass) (k : Nat) : InBounds 16 (bumpDrop a c k s) :=
  h.same (by simp)

theorem ruleKeeps_retireSaRule (a : Fin 64) : RuleKeeps s (retireSaRule a s) := by
  unfold retireSaRule
  split
  · exact ruleKeeps_self _ _ _
  · simp only [answer]
    refine ⟨fun hl => ?_, ?_, by simp [EngineKept]⟩
    · have hdropped := ((hl.retire a false).removeFrames a).bumpDrop a .retired (s.heldFrames a).length
      simpa only using hdropped.report .retired (some a) 0 1
    · simpa using removeFrames_park_length a (retire a false s)

theorem ruleKeeps_flushSaRule (a : Fin 64) : RuleKeeps s (flushSaRule a s) :=
  ⟨fun hl => (hl.removeFrames a).bump a _ _, by simpa [flushSaRule, answer] using removeFrames_park_length a s,
    by simp [EngineKept, flushSaRule, answer]⟩

theorem ruleKeeps_quiesceRule (body : List Byte) : RuleKeeps s (quiesceRule body s) := by
  unfold quiesceRule
  simp only
  split
  · exact ruleKeeps_self _ _ _
  · refine ⟨fun hl => hl.foldl (fun u q hu => ?_) _, by simp [answer], by simp [EngineKept, answer]⟩
    unfold quiesceOne
    split
    · split
      · exact hu.becomeQuiesced q
      · exact hu.same ⟨rfl, rfl, rfl⟩
    · exact hu

theorem ruleKeeps_resumeRule (body : List Byte) : RuleKeeps s (resumeRule body s) := by
  unfold resumeRule
  simp only
  split
  · exact ruleKeeps_self _ _ _
  · exact ⟨fun hl => hl.same ⟨rfl, rfl, rfl⟩, le_rfl, rfl, rfl, rfl, rfl⟩

theorem ruleKeeps_readStatusRule (body : List Byte) : RuleKeeps s (readStatusRule body s) := by
  unfold readStatusRule
  simp only
  split
  · exact ruleKeeps_self _ _ _
  · exact ⟨fun hl => hl.same ⟨rfl, rfl, rfl⟩, le_rfl, rfl, rfl, rfl, rfl⟩

/-! ## WRITE-SEGMENTS and ZEROIZE (R81, R164, R172) -/

/-- The next entry is written, and the command goes on or answers (R81, R164). -/
theorem ListsBounded.writeNext (h : ListsBounded s) {data : List Byte} (hx : s.executing? 0x02 = some data)
    (hfit : bodyLengthFits 0x02 (bodyLength data) (commandBody data) = true) : ListsBounded (writeNext data s) := by
  obtain ⟨hl, he, hp⟩ := listsBounded_iff.1 h
  obtain ⟨hst, hin, hc⟩ := executing?_eq_some.1 hx
  obtain ⟨rest, hin⟩ := List.head?_eq_some_iff.1 hin
  have hroom := he.reply_room hx (not_zeroize_of_code (by rw [hc]; decide))
  unfold Machine.writeNext
  simp only
  split
  · rename_i hmore
    refine listsBounded_iff.2 ⟨hl.same (by simp), ⟨by simpa using he.replies, by simpa using he.input, fun _ => ?_,
      by simpa using he.idle, by simpa using he.room⟩, by simpa using hp⟩
    exact ⟨data, rest, ⟨by simpa using hst, by simpa using hin, hc, hfit⟩, by simpa [setWritten] using hmore⟩
  · refine listsBounded_iff.2 ⟨hl.same (by simp [answer]), engineFits_leaveHead ?_ ?_ ?_, by simpa [answer] using hp⟩
    · simpa [answer] using hroom
    · simpa [answer] using he.input
    · simp [answer, setWritten]

theorem ListsBounded.writeSegmentsRule (h : ListsBounded s) {data : List Byte} (hx : s.executing? 0x02 = some data) :
    ListsBounded (writeSegmentsRule data s) := by
  obtain ⟨-, he, -⟩ := listsBounded_iff.1 h
  obtain ⟨hst, hin, hc⟩ := executing?_eq_some.1 hx
  have hroom := he.reply_room hx (not_zeroize_of_code (by rw [hc]; decide))
  have hrefuse : s.engine.written = 0 → ∀ r, ListsBounded (Machine.placeReply data (refuseCommand r 0 s)) :=
    fun hw r => h.placeReply id le_rfl ⟨rfl, rfl, rfl, rfl⟩ hw hroom data
  unfold Machine.writeSegmentsRule
  split
  · rename_i hfit
    refine hrefuse ?_ _
    by_contra hw
    obtain ⟨d, rest, ⟨-, hin', -, hfit'⟩, -⟩ := he.written hw
    have hd : d = data := by simpa [hin'] using hin
    rw [hd] at hfit'
    exact absurd hfit' (by simpa using hfit)
  split
  · rename_i hv
    exact hrefuse hv.1 _
  · rename_i hfit _
    exact h.writeNext hx (by simpa using hfit)

theorem ListsBounded.leaveHead (h : ListsBounded s) (hw : s.engine.written = 0) : ListsBounded (leaveHead s) := by
  obtain ⟨hl, he, hp⟩ := listsBounded_iff.1 h
  exact listsBounded_iff.2 ⟨hl.same (by simp), he.leaveHead hw, by simpa using hp⟩

theorem ListsBounded.zeroizeCommand (h : ListsBounded s) (hw : s.engine.written = 0) (data : List Byte) :
    ListsBounded (zeroizeCommand data s) := by
  refine ListsBounded.zeroizeRequest ?_
  split
  · rename_i hroom
    exact h.placeReply id le_rfl ⟨rfl, rfl, rfl, rfl⟩ hw hroom data
  · exact h.leaveHead hw

/-! ## One command, and the step -/

/-- Every command keeps the lists within their sizes. -/
theorem ListsBounded.exec (h : ListsBounded s) (i : Instr) (ht : exec i s = .next t) : ListsBounded t := by
  obtain ⟨hl, he, hp⟩ := listsBounded_iff.1 h
  cases i <;> simp only [Machine.exec] at ht <;> cases ht
  case deviceReset => exact listsBounded_of_empty rfl rfl rfl rfl rfl rfl
  case loadingStart straps =>
    split
    · exact h.same (fun hl => hl.same ⟨rfl, rfl, rfl⟩) id ⟨rfl, rfl, rfl, rfl⟩
    · exact h
  case imageReadDone memory =>
    split
    · have hr : ListsBounded (readImage memory s) :=
        h.same (fun hl => hl.same ⟨rfl, rfl, rfl⟩) id ⟨rfl, rfl, rfl, rfl⟩
      obtain ⟨hk, hpark⟩ := checkImage_keeps (readImage memory s)
      exact ListsBounded.finishEvent (hr.same InBounds.checkImage (by rw [hpark]; exact id) hk) s
    · exact h
  case settleTimerExpiry =>
    split
    · exact h.event InBounds.settleEnds (by simp [postSettled]) (by simp [EngineKept, postSettled])
    · exact h
  case zeroizePinRequest =>
    split
    · exact h
    · exact h.zeroizeRequest.finishEvent s
  case zeroizeComplete =>
    split
    · refine h.event (fun hl => InBounds.joinHeldZeroized ?_) (by simp [zeroizeStep6]) (by simp [EngineKept, zeroizeStep6])
      exact hl.same ⟨rfl, rfl, rfl⟩
    · exact h
  case busAttemptStart bits =>
    split
    · exact h.event (fun hl => hl.attempt _) (by simp) (by simp [EngineKept])
    · exact h
  case claim | beacon | advance | join =>
    unfold busMessage
    split
    · exact h.event (fun hl => hl.messageCompletes _ _) (by simp) (by simp [EngineKept])
    · exact h
  case rackFrameReceived r =>
    split
    · refine ListsBounded.finishEvent (ListsBounded.same ?_ (fun hl => hl.same ⟨rfl, rfl, rfl⟩) id ⟨rfl, rfl, rfl, rfl⟩) s
      split
      · exact h
      · exact h.receiveRack r
    · exact h
  case inboundFrameReceived r =>
    split
    · refine ListsBounded.finishEvent (ListsBounded.same ?_ (fun hl => hl.same ⟨rfl, rfl, rfl⟩) id ⟨rfl, rfl, rfl, rfl⟩) s
      split
      · exact h
      · exact h.same (fun hl => hl.same (by simp)) (by simp) (by simp [EngineKept])
    · exact h
  case rackPauseTimerExpiry | campusPauseTimerExpiry =>
    split
    · exact h
    · exact h.event (fun hl => hl.same ⟨rfl, rfl, rfl⟩) id ⟨rfl, rfl, rfl, rfl⟩
  case pauseRepeatTimerExpiry =>
    split
    · exact h.event (fun hl => hl.same ⟨rfl, rfl, rfl⟩) id ⟨rfl, rfl, rfl, rfl⟩
    · exact h
  case statusFrameDue =>
    split
    · exact h.finishEvent s
    · exact h
  case rackTransmitDone =>
    split
    · refine ListsBounded.finishEvent (ListsBounded.rackFrameEnds ?_ _) s
      exact h.same (fun hl => hl.same ⟨rfl, rfl, rfl⟩) id ⟨rfl, rfl, rfl, rfl⟩
    · exact h
  case dispatch =>
    split
    · rename_i hmay
      have hroom : s.lanes.completion.length ≤ 15 := by
        simp only [State.mayDispatch, Bool.and_eq_true, decide_eq_true_eq] at hmay
        omega
      split
      · rename_i c _
        refine h.event (fun hl => InBounds.dispatchCandidate ⟨hl.notices, hroom, hl.txList⟩ c) (fun hp => ?_)
          (by simp [EngineKept])
        cases c with
        | parked e => exact dispatchParked_park_length hp e
        | queued q f rest => exact dispatchQueued_park_length hp q f rest
      · exact h
    · exact h
  case parkTimeout =>
    split
    · refine h.event (fun hl => hl.timeoutEntry _) (fun hp => ?_) (by simp [EngineKept])
      unfold timeoutEntry
      split
      · simpa using unpark_park_length hp _ _
      · exact unpark_park_length hp _ _
    · exact h
  case keyTakeUp l x =>
    split
    · simp only
      split
      · exact h.event (fun hl => hl.same (by simp)) (by simp) (by simp [EngineKept])
      · exact h.event (fun hl => (hl.setSlot _ _).keyCheckFailure _) (by simp) (by simp [EngineKept])
    · exact h
  case laneFinish =>
    split
    · exact h.event (fun hl => hl.finishEncrypt _ _ _ _) (by simp) (by simp [EngineKept])
    · exact h
  case clearPassDone =>
    split
    · exact h.event (fun hl => (hl.finishEntry _ _).setLane _ _) (by simp) (by simp [EngineKept])
    · exact h
  case campusFrameSent =>
    split
    · rename_i hc
      exact h.event (fun hl => hl.headSent hc) (by simp) (by simp [EngineKept])
    · exact h
  case scanStep =>
    split
    · refine h.event (fun hl => ?_) (by simp) (by simp [EngineKept])
      unfold scanOnce
      simp only
      split
      · exact hl.same ⟨rfl, rfl, rfl⟩
      · refine InBounds.postNotice ?_ _
        exact hl.same ⟨rfl, rfl, rfl⟩
    · exact h
  case commandFrameCheck =>
    split
    · rename_i hst hin
      refine ListsBounded.finishEvent ?_ s
      split
      · exact listsBounded_iff.2 ⟨hl.same ⟨rfl, rfl, rfl⟩, he.admitCommand hst hin, hp⟩
      · have hw := he.written_eq_zero_of_state (by simp [hst])
        refine ListsBounded.leaveHead ?_ (by simpa using hw)
        exact h.same (fun hl => hl.same (by simp)) (by simp) (by simp [EngineKept])
    · exact h
  case unknownCommand =>
    split
    · rename_i data rest hst hin
      split
      · exact h
      · rename_i hno
        have hx : s.executing? (commandCode data) = some data := executing?_eq_some.2 ⟨hst, by simp [hin], rfl⟩
        have hcode : ∀ c : Byte, 1 ≤ c.toNat ∧ c.toNat ≤ 10 → commandCode data ≠ c := fun c hc he => hno (he ▸ hc)
        refine ListsBounded.finishEvent (h.placeReply id le_rfl ⟨rfl, rfl, rfl, rfl⟩
          (he.written_eq_zero_of_code hx (hcode 0x02 (by decide)))
          (he.reply_room hx (not_zeroize_of_code (hcode 0x0a (by decide)))) data) s
    · exact h
  case installKey => exact h.runCommand (by decide) (by decide) fun body =>
    ruleKeeps_onAssoc (ruleKeeps_installRule body) body
  case writeSegments =>
    split
    · rename_i hx
      exact (h.writeSegmentsRule hx).finishEvent s
    · exact h
  case moveSegments => exact h.runCommand (by decide) (by decide) ruleKeeps_moveSegmentsRule
  case advanceEpoch => exact h.runCommand (by decide) (by decide) (ruleKeeps_onAssoc ruleKeeps_advanceEpochRule)
  case retireSa => exact h.runCommand (by decide) (by decide) (ruleKeeps_onAssoc ruleKeeps_retireSaRule)
  case flushSa => exact h.runCommand (by decide) (by decide) (ruleKeeps_onAssoc ruleKeeps_flushSaRule)
  case quiesceQueue => exact h.runCommand (by decide) (by decide) ruleKeeps_quiesceRule
  case resumeQueue => exact h.runCommand (by decide) (by decide) ruleKeeps_resumeRule
  case readStatus => exact h.runCommand (by decide) (by decide) ruleKeeps_readStatusRule
  case zeroize =>
    split
    · rename_i data hx
      have hw := he.written_eq_zero_of_code hx (by decide)
      refine ListsBounded.finishEvent ?_ s
      split
      · exact h.zeroizeCommand hw data
      · rename_i hz
        exact h.placeReply id le_rfl ⟨rfl, rfl, rfl, rfl⟩ hw (he.reply_room hx (by simpa using hz)) data
    · exact h

/-- Settles O58, command by command: each operation keeps every list it lengthens within its size, and a command that executes
has a free reply entry until its reply is placed. -/
theorem stepKeepsListsBounded : Obligations.StepKeepsListsBounded := by
  intro s t h ht
  unfold step at ht
  split at ht
  · cases ht
    unfold tick
    split <;> exact h
  · rename_i c rest _
    exact ListsBounded.exec (s := { s with pending := rest }) h c ht

end Sys2Proof.Machine
end

section
/-! The coordination bus: messages for an association that listens, and JOIN. -/

namespace Sys2Proof.Machine

/-! ## The settle view (R41, R45) -/

/-- The value a message leaves in a settle view: the claim's end, the beacon's HWM, or 0 (R45). -/
def MsgContent.view : MsgContent → Nat
  | .claim _ start count => start.toNat + count.toNat - 1
  | .beacon _ hwm => hwm.toNat
  | .advance _ _ => 0
  | .join => 0

/-- A message for a SETTLING or DORMANT association goes into its settle view (R41, R45). -/
theorem applyMessage_of_listening {s : State} {m : BusMessage} (hj : m.content ≠ .join)
    (hd : (s.assocDef m.target).defined = true) (hv : m.content.valid = true)
    (hl : (s.assoc m.target).state.listening = true) :
    applyMessage false false m s =
      recordSettleView m.target m.content.epoch m.content.view (cancelByMessage false m s) := by
  have hlc : ((cancelByMessage false m s).assoc m.target).state.listening = true := by
    rwa [assoc_eq_of_assocs (s := s) (by simp)]
  cases hc : m.content with
  | join => exact absurd hc hj
  | claim epoch start count =>
    rw [applyMessage_peerClaim hc hd hv, peerClaim, if_pos hl]
    simp [cancelByMessage, hc, MsgContent.epoch, MsgContent.view]
  | beacon epoch hwm =>
    have he : epoch ≠ 0 := by simpa [hc, MsgContent.valid] using hv
    rw [applyMessage_beacon hc hd he, beaconDelivered, if_pos hlc]
    rfl
  | advance epoch reason =>
    rw [applyMessage_advance hc hd hv, advanceDelivered, if_pos hlc]
    rfl

/-- Settles O16: what reaches a listening association changes its settle view and nothing else. -/
theorem settleViewRecords : Obligations.SettleViewRecords := by
  intro s assoc sender content e E V c m a hcases hh hd hv hst
  obtain ⟨hexec, hj, hE, hV⟩ : exec c s = .next (busMessage m e s) ∧ m.content ≠ .join ∧ E = m.content.epoch ∧
      V = m.content.view := by
    rcases hcases with ⟨_, _, _, rfl, rfl, rfl, rfl⟩ | ⟨_, _, rfl, rfl, rfl, rfl⟩ | ⟨_, _, rfl, rfl, rfl, rfl⟩
    all_goals exact ⟨rfl, by simp [m], rfl, rfl⟩
  have hl : (s.assoc a).state.listening = true := by
    rcases hst with h | h <;> rw [h] <;> rfl
  have hu := arrived_afterHeard hh.2.1
  have hrun : busMessage m e s =
      finishEvent s (recordSettleView a E V (cancelByMessage false m s.afterHeard)) := by
    rw [busMessage_of_hears hh, applyMessage_of_listening hj (by rwa [assocDef_eq_of_image hu.image]) hv
      (by rwa [assoc_eq_of_assocs hu.assocs]), hE, hV]
  have ha : ∀ b, (cancelByMessage false m s.afterHeard).assoc b = s.assoc b := assoc_eq_of_assocs (by simp [hu.assocs])
  refine ⟨busMessage m e s, hexec, ?_⟩
  rw [hrun]
  refine ⟨by simp [hu.keys], by simp [State.afterHeard], by simp [hu.lanes], by simp [State.afterHeard],
    fun b hb => ?_, ?_⟩
  · simp [hb, ha]
  · simp only [assoc_finishEvent, recordSettleView, modAssoc_assoc_self, ha]
    cases (s.assoc a).settleView with
    | none => rfl
    | some v => split <;> simp_all

/-! ## JOIN (R37, R43) -/

/-- Requests for a list of associations, one after another, add their BEACON entries and nothing else. -/
theorem scheduleBeaconsIn_eq (L : List (Fin 64)) (s : State) : ∃ l,
    L.foldl (fun s a => if (s.assoc a).state.frontKnown then requestTx .beacon a s else s) s =
      { s with bus := { s.bus with txList := l } } ∧
    ∀ x : TxEntry, x ∈ l ↔
      x ∈ s.bus.txList ∨ (x.assoc ∈ L ∧ x.kind = .beacon ∧ (s.assoc x.assoc).state.frontKnown = true) := by
  induction L generalizing s with
  | nil => exact ⟨s.bus.txList, rfl, by simp⟩
  | cons a L ih =>
    by_cases hk : (s.assoc a).state.frontKnown = true
    · obtain ⟨l, he, hm⟩ := ih (requestTx .beacon a s)
      refine ⟨l, by rw [List.foldl_cons, if_pos hk]; exact he, fun ⟨k, b⟩ => ?_⟩
      simp only [hm, mem_requestTx, assoc_requestTx, TxEntry.mk.injEq, List.mem_cons]
      constructor
      · rintro ((⟨rfl, rfl⟩ | h) | ⟨hb, h⟩)
        · exact .inr ⟨.inl rfl, rfl, hk⟩
        · exact .inl h
        · exact .inr ⟨.inr hb, h⟩
      · rintro (h | ⟨rfl | hb, h⟩)
        · exact .inl (.inr h)
        · exact .inl (.inl ⟨h.1, rfl⟩)
        · exact .inr ⟨hb, h⟩
    · obtain ⟨l, he, hm⟩ := ih s
      refine ⟨l, by rw [List.foldl_cons, if_neg hk]; exact he, fun x => ?_⟩
      rw [hm, List.mem_cons]
      refine or_congr_right ⟨fun ⟨hb, h⟩ => ⟨.inr hb, h⟩, fun ⟨hb, h⟩ => ⟨hb.resolve_left ?_, h⟩⟩
      rintro rfl
      exact hk h.2

/-- A JOIN adds the BEACON entries of every LIVE or KEY-WAIT association to the list, and nothing else (R43). -/
theorem scheduleBeacons_eq (s : State) : ∃ l, scheduleBeacons s = { s with bus := { s.bus with txList := l } } ∧
    ∀ x : TxEntry, x ∈ l ↔ x ∈ s.bus.txList ∨ (x.kind = .beacon ∧ (s.assoc x.assoc).state.frontKnown = true) := by
  obtain ⟨l, he, hm⟩ := scheduleBeaconsIn_eq (List.finRange 64) s
  exact ⟨l, he, by simpa using hm⟩

/-- Settles O19: a peer's JOIN while RUNNING and while SETTLING, and this station's own. -/
theorem joinSchedulesBeacons : Obligations.JoinSchedulesBeacons := by
  refine ⟨fun s assoc sender e hh hq he => ⟨_, rfl, ?_⟩, fun s sender e hd hq he => ⟨_, rfl, ?_⟩⟩
  · rw [busMessage_of_hears hh, afterHeard_of_calm hq he]
    have hleft : ∀ x, x ∈ (removeTx .join 0 { s with bus := s.bus.heard }).bus.txList ↔
        x ∈ s.bus.txList ∧ x ≠ { kind := .join, assoc := 0 } := fun x => mem_removeTx
    by_cases hr : s.device = .running
    · obtain ⟨l, hl, hm⟩ := scheduleBeacons_eq (removeTx .join 0 { s with bus := s.bus.heard })
      have happly : applyMessage false false { assoc := assoc, sender := sender, content := .join }
          { s with bus := s.bus.heard } = { s with bus := { s.bus.heard with txList := l } } :=
        (if_pos ⟨rfl, hr⟩).trans hl
      rw [happly]
      have hs := finishEvent_settled s { s with bus := { s.bus.heard with txList := l } }
      rw [hs.bus]
      refine ⟨hs, fun x => ?_⟩
      rw [hm, hleft]
      simp only [hr, true_and]
      rfl
    · have happly : applyMessage false false { assoc := assoc, sender := sender, content := .join }
          { s with bus := s.bus.heard } = removeTx .join 0 { s with bus := s.bus.heard } := if_neg fun h => hr h.2
      rw [happly]
      have hs := finishEvent_settled s (removeTx .join 0 { s with bus := s.bus.heard })
      rw [hs.bus]
      refine ⟨hs, fun x => ?_⟩
      rw [hleft]
      simp [hr]
  · rw [busMessage_of_delivers hd, afterSent_of_calm hq he (by simp [MsgContent.kind])]
    exact finishEvent_settled s _

end Sys2Proof.Machine
end

section
/-! The coordination bus: a message received, by its end (R31, R32, R38, R39, R48). -/

namespace Sys2Proof.Machine

/-! ## The error count and the quiet state (R38, R39) -/

@[simp] theorem postNotice_busCounts (n : Notice) (s : State) : (postNotice n s).counters.bus = s.counters.bus := by
  unfold postNotice
  (repeat' split) <;> simp [joinNotice, setAlert, bumpFrames]

@[simp] theorem quietTest_busCounts (s : State) : (quietTest s).counters.bus = s.counters.bus := by
  unfold quietTest
  (repeat' split) <;> simp

@[simp] theorem setErrorCount_busCounts (n : Nat) (s : State) : (setErrorCount n s).counters.bus = s.counters.bus := by
  simp [setErrorCount]

@[simp] theorem setErrorCount_errorCount (n : Nat) (s : State) : (setErrorCount n s).bus.errorCount = n := by
  simp [setErrorCount]

/-- A station that is not quiet goes quiet at 128 (R39). -/
theorem quiet_setErrorCount_of_active {s : State} (h : s.bus.quiet = false) (n : Nat) :
    (setErrorCount n s).bus.quiet = true ↔ 128 ≤ n := by
  unfold setErrorCount quietTest
  (repeat' split) <;> simp_all

/-- A quiet station stays quiet down to 96 (R39). -/
theorem quiet_setErrorCount_of_quiet {s : State} (h : s.bus.quiet = true) (n : Nat) :
    (setErrorCount n s).bus.quiet = true ↔ 96 ≤ n := by
  unfold setErrorCount quietTest
  (repeat' split) <;> simp_all

/-- Of the bus record, the error count and the quiet state are what the error count's new value changes. -/
theorem setErrorCount_bus (n : Nat) (s : State) :
    (setErrorCount n s).bus = { s.bus with errorCount := n, quiet := (setErrorCount n s).bus.quiet } := by
  unfold setErrorCount quietTest
  (repeat' split) <;> simp

@[simp] theorem errorUp_busCounts (n : Nat) (s : State) : (errorUp n s).counters.bus = s.counters.bus :=
  setErrorCount_busCounts _ s

theorem busCount_of_bumpBus (c : BusCount) {s u t : State} (hu : u.counters.bus = s.counters.bus)
    (ht : t.counters.bus = (bumpBus c u).counters.bus) :
    t.counters.bus[c.index] = min (s.counters.bus[c.index] + 1) (2 ^ 48 - 1) := by
  simp [ht, bumpBus, satAdd48, max48, hu]

/-! ## What a receiver makes of a message's end -/

/-- The state of a receiver when the message has ended, before the station acts on it (R26, R34). -/
def State.atEnd (s : State) : State := spendBackoff { s with bus := { s.bus with idleSeen := true } }

@[simp] theorem atEnd_frame (s : State) :
    s.atEnd.device = s.device ∧ s.atEnd.time = s.time ∧ s.atEnd.assocs = s.assocs ∧ s.atEnd.keys = s.keys ∧
    s.atEnd.segMap = s.segMap ∧ s.atEnd.bus.txList = s.bus.txList ∧ s.atEnd.bus.errorCount = s.bus.errorCount ∧
    s.atEnd.bus.quiet = s.bus.quiet ∧ s.atEnd.buf = s.buf ∧ s.atEnd.lanes = s.lanes ∧ s.atEnd.rack = s.rack ∧
    s.atEnd.engine = s.engine ∧ s.atEnd.status = s.status ∧ s.atEnd.counters = s.counters := by
  simp [State.atEnd]

theorem afterHeard_eq (s : State) : s.afterHeard = setErrorCount (s.bus.errorCount - 1) s.atEnd := by
  have h : s.atEnd.bus.errorCount = s.bus.errorCount := by simp
  rw [← h]
  rfl

section
variable {s : State} {m : BusMessage} {e : BusEnding} (hp : s.takesPart e = true) (hb : s.bus.onBus = none)
include hp hb

/-- A station that sends nothing takes the receiver's part. -/
theorem busMessage_of_receiver :
    busMessage m e s = finishEvent s (asReceiver m (e.crc == m.crc)
      (decideOutcome (e.peersErr || (slotsDriven .receiver s.bus.quiet (e.crc == m.crc)).2)
        (e.peersAck || (slotsDriven .receiver s.bus.quiet (e.crc == m.crc)).1) m.content.kind s.cfg.singleStation)
      s.atEnd) := by
  rw [busMessage, if_pos hp]
  have hpart : busPart s.bus.onBus m e.startRead e.crc = .receiver := by rw [hb]; rfl
  simp only [messageCompletes, hpart]
  split
  · simp_all
  · simp_all
  · simp_all
  · rfl

/-- A message void by another station's error slot, whose CRC is right, is counted and no more (R31, R48). -/
theorem busMessage_of_reported (hc : e.crc = m.crc) (he : e.peersErr = true) :
    busMessage m e s = finishEvent s (bumpBus .busVoids s.atEnd) := by
  rw [busMessage_of_receiver hp hb]
  simp [hc, he, decideOutcome, asReceiver]

/-- A wrong CRC raises the error count; the message is counted as void when the error slot is dominant, which a station
that is not quiet drives itself (R31, R32, R38, R48). -/
theorem busMessage_of_badCrc (hc : e.crc ≠ m.crc) :
    busMessage m e s = finishEvent s (errorUp 1
      (if e.peersErr = true ∨ s.bus.quiet = false then bumpBus .busVoids s.atEnd else s.atEnd)) := by
  rw [busMessage_of_receiver hp hb]
  have hcrc : (e.crc == m.crc) = false := by simpa using hc
  have hvoid : ∀ ack, decideOutcome (e.peersErr || (slotsDriven .receiver s.bus.quiet false).2) ack m.content.kind
      s.cfg.singleStation = .voidByError ↔ e.peersErr = true ∨ s.bus.quiet = false := by
    intro ack
    cases he : e.peersErr <;> cases hq : s.bus.quiet <;> simp [slotsDriven, decideOutcome]
    split <;> [simp; split <;> simp]
  simp only [hcrc, asReceiver, hvoid, if_true]

end

/-! ## Notices of a message applied -/

theorem posts_recordSettleView (a : Fin 64) (epoch v : Nat) (s : State) : Posts s (recordSettleView a epoch v s) [] :=
  posts_nil rfl rfl rfl rfl

theorem posts_countLate (a : Fin 64) (epoch : Nat) (s : State) : Posts s (countLate a epoch s) [] := by
  unfold countLate
  split
  · exact posts_nil rfl rfl rfl rfl
  · exact posts_nil rfl rfl rfl rfl

theorem posts_advanceReaches (a : Fin 64) (epoch : Nat) (x : AdvanceReason) (i : Nat) (s : State) :
    ∃ l, Posts s (advanceReaches a epoch x i s) l := by
  unfold advanceReaches
  split
  · obtain ⟨q, -, hq⟩ := posts_enterEpoch a epoch x i s
    unfold applyAdvance
    simp only
    split
    · obtain ⟨l, hl, -⟩ := posts_requestClaim a (enterEpoch a epoch x i s)
      exact ⟨_, hq.trans hl⟩
    · exact ⟨_, hq⟩
  · exact ⟨[], posts_nil rfl rfl rfl rfl⟩

theorem posts_peerClaimInEpoch (a : Fin 64) (p q : Nat) (s : State) : ∃ l, Posts s (peerClaimInEpoch a p q s) l := by
  have hg : Posts s (growRecord a p q s) [] := posts_nil rfl rfl rfl rfl
  cases hs : (s.assoc a).state with
  | live =>
    rw [peerClaimInEpoch_of_live hs]
    obtain ⟨l, hl, -⟩ := posts_overlapAdvanceTest a p (overlapRemoval a p q (growRecord a p q s))
    exact ⟨_, (hg.trans posts_overlapRemoval).trans hl⟩
  | keyWait =>
    simp only [peerClaimInEpoch, hs]
    obtain ⟨l, hl, -⟩ := posts_overlapAdvanceTest a p (growRecord a p q s)
    exact ⟨_, hg.trans hl⟩
  | settling | dormant | blind | retired =>
    simp only [peerClaimInEpoch, hs]
    exact ⟨[], posts_nil rfl rfl rfl rfl⟩

theorem posts_peerClaim (a : Fin 64) (p q epoch : Nat) (sender : BitVec 3) (s : State) :
    ∃ l, Posts s (peerClaim a p q epoch sender s) l := by
  unfold peerClaim
  split
  · exact ⟨_, posts_recordSettleView a epoch q s⟩
  · obtain ⟨l, hl⟩ := posts_advanceReaches a epoch .implicit sender.toNat s
    simp only
    split
    · obtain ⟨k, hk⟩ := posts_peerClaimInEpoch a p q (advanceReaches a epoch .implicit sender.toNat s)
      exact ⟨_, hl.trans hk⟩
    · exact ⟨_, hl.trans (posts_countLate a epoch _)⟩

theorem posts_beaconDelivered (a : Fin 64) (epoch hwm : Nat) (sender : BitVec 3) (s : State) :
    ∃ l, Posts s (beaconDelivered a epoch hwm sender s) l := by
  unfold beaconDelivered
  split
  · exact ⟨_, posts_recordSettleView a epoch hwm s⟩
  · obtain ⟨l, hl⟩ := posts_advanceReaches a epoch .implicit sender.toNat s
    simp only
    (repeat' split)
    · exact ⟨_, hl.trans (posts_nil rfl rfl rfl rfl)⟩
    · exact ⟨_, hl⟩
    · exact ⟨_, hl.trans (posts_countLate a epoch _)⟩

theorem posts_advanceDelivered (a : Fin 64) (epoch : Nat) (x : AdvanceReason) (sender : BitVec 3) (s : State) :
    ∃ l, Posts s (advanceDelivered a epoch x sender s) l := by
  unfold advanceDelivered
  split
  · exact ⟨_, posts_recordSettleView a epoch 0 s⟩
  · exact posts_advanceReaches a epoch x sender.toNat s

/-- A peer's message applied hands over notices and takes none back. -/
theorem posts_applyMessage (w : Bool) (m : BusMessage) (s : State) : ∃ l, Posts s (applyMessage false w m s) l := by
  have hc : Posts s (cancelByMessage false m s) [] := posts_nil (by simp) (by simp) (by simp) (by simp [State.lost])
  have hstay : ∃ l, Posts s (cancelByMessage false m s) l := ⟨_, hc⟩
  have hthen : ∀ {t}, (∃ l, Posts (cancelByMessage false m s) t l) → ∃ l, Posts s t l :=
    fun ⟨l, hl⟩ => ⟨_, hc.trans hl⟩
  unfold applyMessage handMessage
  cases m.content with
  | join =>
    simp only
    split
    · exact hthen ⟨[], posts_nil (by simp) (by simp) (by simp) (by simp [State.lost])⟩
    · exact hstay
  | advance epoch code =>
    simp only
    split
    · exact hthen (posts_advanceDelivered _ _ _ _ _)
    · exact hstay
  | beacon epoch hwm =>
    simp only
    split
    · exact hthen (posts_beaconDelivered _ _ _ _ _)
    · exact hstay
  | claim epoch start count =>
    simp only [Bool.false_eq_true, if_false]
    split
    · exact hthen (posts_peerClaim _ _ _ _ _ _)
    · exact hstay

/-- What leaves the quiet state is reported BUS-RESUMED, while there is room (R39, R176). -/
theorem busResumed_mem_setErrorCount {s : State} {n : Nat} (hd : s.device.erased = false) (hq : s.bus.quiet = true)
    (hq' : (setErrorCount n s).bus.quiet = false) (hroom : s.status.notices.length < 32) :
    { newNotice .busResumed .none 255 0 n 1 false with time := s.time } ∈ (setErrorCount n s).status.notices := by
  have hn : n < 96 := by
    have := quiet_setErrorCount_of_quiet hq n
    simpa [hq'] using this
  have hrun : setErrorCount n s = postNotice (newNotice .busResumed .none 255 0 n 1 false)
      { s with bus := { s.bus with errorCount := n, quiet := false } } := by
    simp [setErrorCount, quietTest, hq, hn]
  have hjoin := postNotice_joins (n := newNotice .busResumed .none 255 0 n 1 false)
    (s := { s with bus := { s.bus with errorCount := n, quiet := false } }) (by simp [newNotice]) (by simp [newNotice]) hd
  rw [hrun, hjoin, if_pos hroom]
  simp

/-! ## A message of no defined association, or with a field out of range (R41, R205) -/

section
variable {s : State} {m : BusMessage} (hj : m.content.kind ≠ .join)
  (h : (s.assocDef m.target).defined = false ∨ m.content.valid = false)
include hj h

/-- Such a message is handed to no block. -/
theorem applyMessage_of_unusable : applyMessage false false m s = cancelByMessage false m s := by
  have hd : ((cancelByMessage false m s).assocDef m.target).defined = (s.assocDef m.target).defined := by
    rw [assocDef_eq_of_image (s := s) (by simp)]
  have hno : ¬ (((cancelByMessage false m s).assocDef m.target).defined = true ∧ m.content.valid = true) := by
    rw [hd]
    rintro ⟨h1, h2⟩
    rcases h with h | h <;> simp [h] at h1 h2
  unfold applyMessage handMessage
  cases hc : m.content with
  | join => simp [hc, MsgContent.kind] at hj
  | advance | beacon | claim => rw [hc] at hno; simp only [if_neg hno]

end

/-- A message of another epoch than the record's, below the pending advance, cancels nothing (R37). -/
theorem cancelByMessage_of_other {s : State} {m : BusMessage} (hj : m.content.kind ≠ .join)
    (h : m.content.kind = .claim ∨ ((s.assoc m.target).epoch ≠ some m.content.epoch ∧
      ∀ p, (s.assoc m.target).pendingAdvance = some p → m.content.epoch < p.target)) :
    cancelByMessage false m s = s := by
  cases hc : m.content with
  | join => simp [hc, MsgContent.kind] at hj
  | claim => simp [cancelByMessage, hc]
  | beacon epoch hwm =>
    simp only [hc, MsgContent.kind, MsgContent.epoch, reduceCtorEq, false_or] at h
    simp [cancelByMessage, hc, h.1]
  | advance epoch code =>
    simp only [hc, MsgContent.kind, MsgContent.epoch, reduceCtorEq, false_or] at h
    cases hp : (s.assoc m.target).pendingAdvance with
    | none => simp [cancelByMessage, hc, hp]
    | some p =>
      have := h.2 p hp
      have hle : ¬ p.target ≤ epoch.toNat := by omega
      simp [cancelByMessage, hc, hp, hle]

/-! ## What a void message leaves -/

/-- Between `s` and `t` no record, key, segment entry, lane, frame or command changed. -/
def ChangesNothing (s t : State) : Prop :=
  t.assocs = s.assocs ∧ t.keys = s.keys ∧ t.segMap = s.segMap ∧ t.lanes = s.lanes ∧ t.buf.pool = s.buf.pool ∧
    t.engine = s.engine

theorem Settled.changesNothing {s u t : State} (hs : Settled u t) (h : ChangesNothing s u) : ChangesNothing s t := by
  obtain ⟨h1, h2, h3, h4, h5, h6⟩ := h
  exact ⟨hs.assocs.trans h1, hs.keys.trans h2, hs.segMap.trans h3, hs.lanes.trans h4, hs.pool.trans h5,
    hs.engine.trans h6⟩

/-- A message that does not complete as delivered leaves everything but counts, notices and the bus unit's own state. -/
theorem changesNothing_of_void (s : State) (u : State) (hu : u = bumpBus .busVoids s.atEnd ∨ u = s.atEnd) :
    ChangesNothing s u ∧ ChangesNothing s (errorUp 1 u) ∧ u.bus.txList = s.bus.txList ∧
      u.bus.errorCount = s.bus.errorCount ∧ u.bus.quiet = s.bus.quiet := by
  rcases hu with rfl | rfl <;> simp [ChangesNothing]

/-- Settles O20: a message received, by its end. -/
theorem voidMessageIsDiscarded : Obligations.VoidMessageIsDiscarded := by
  intro s m e c hcases hp hb nothing
  have hexec : exec c s = .next (busMessage m e s) := by
    obtain ⟨a, i, content⟩ := m
    cases content <;> (subst hcases; rfl)
  refine ⟨busMessage m e s, hexec, fun h => ?_, fun he hq hc => ?_, fun he hc => ?_, fun hc => ?_, fun hh => ?_⟩
  · obtain ⟨hnone, hup, htx, -⟩ := changesNothing_of_void s _ (.inl rfl)
    by_cases hc : e.crc = m.crc
    · have hs := finishEvent_settled s (bumpBus .busVoids s.atEnd)
      rw [← busMessage_of_reported hp hb hc (h.resolve_right fun hn => hn.2 hc)] at hs
      exact ⟨hs.changesNothing hnone, by rw [hs.bus, htx],
        busCount_of_bumpBus _ (u := s.atEnd) (by simp) (by rw [hs.counters])⟩
    · have hs := finishEvent_settled s (errorUp 1 (bumpBus .busVoids s.atEnd))
      have hrun := busMessage_of_badCrc hp hb hc
      rw [if_pos (h.imp_right And.left)] at hrun
      rw [← hrun] at hs
      exact ⟨hs.changesNothing hup, by rw [hs.bus]; simp,
        busCount_of_bumpBus _ (u := s.atEnd) (by simp) (by rw [hs.counters, errorUp_busCounts])⟩
  · obtain ⟨-, hup, -⟩ := changesNothing_of_void s _ (.inr rfl)
    have hs := finishEvent_settled s (errorUp 1 s.atEnd)
    have hrun := busMessage_of_badCrc hp hb hc
    rw [if_neg (by simp [he, hq])] at hrun
    rw [← hrun] at hs
    exact ⟨hs.changesNothing hup, by rw [hs.bus]; simp, by rw [hs.counters]; simp⟩
  · have hs := finishEvent_settled s (bumpBus .busVoids s.atEnd)
    rw [← busMessage_of_reported hp hb hc he] at hs
    rw [hs.bus]
    simp
  · obtain ⟨-, -, -, hcount, hquiet⟩ := changesNothing_of_void s
      (if e.peersErr = true ∨ s.bus.quiet = false then bumpBus .busVoids s.atEnd else s.atEnd)
      (by split <;> simp)
    have hs := finishEvent_settled s (errorUp 1
      (if e.peersErr = true ∨ s.bus.quiet = false then bumpBus .busVoids s.atEnd else s.atEnd))
    rw [← busMessage_of_badCrc hp hb hc] at hs
    rw [hs.bus, errorUp, setErrorCount_errorCount, hcount]
    exact ⟨rfl, fun hq => quiet_setErrorCount_of_active (hquiet.trans hq) _⟩
  · have hs := finishEvent_settled s (applyMessage false false m s.afterHeard)
    rw [← busMessage_of_hears hh] at hs
    have hcount : s.afterHeard.bus.errorCount = s.bus.errorCount - 1 := by simp [afterHeard_eq]
    refine ⟨by rw [hs.bus]; simp [hcount], fun hq => ⟨?_, fun hq' hsend hroom => ?_⟩, fun hj hno => ?_⟩
    · rw [hs.bus]
      simp only [applyMessage_frame, afterHeard_eq, setErrorCount_errorCount]
      exact quiet_setErrorCount_of_quiet (s := s.atEnd) (by simpa using hq) _
    · rw [hs.bus] at hq'
      rw [hs.notices_of_sending (by simpa [afterHeard_eq] using hsend), hs.bus]
      obtain ⟨l, hl⟩ := posts_applyMessage false m s.afterHeard
      rw [hl.desk.notices]
      refine postAll_keeps l _ _ hl.noOverrun (by simp) ?_
      have := busResumed_mem_setErrorCount (s := s.atEnd) (n := s.bus.errorCount - 1)
        (by simpa using not_erased_of_takesPart hp) (by simpa using hq)
        (by simpa [afterHeard_eq] using hq') (by simpa using hroom)
      simpa [afterHeard_eq, newNotice] using this
    · have hu := arrived_afterHeard hh.2.1
      rw [applyMessage_of_unusable hj (by rwa [assocDef_eq_of_image hu.image])] at hs
      refine ⟨hs.changesNothing ?_, by rw [hs.counters]; simp [afterHeard_eq], fun hother => ?_⟩
      · simp [ChangesNothing, afterHeard_eq]
      · rw [hs.bus, cancelByMessage_of_other hj, txList_afterHeard]
        rwa [assoc_eq_of_assocs hu.assocs]

end Sys2Proof.Machine
end

section
/-! The coordination bus: this station's own message, not delivered (R29, R30, R33, R34, R38, R40). -/

namespace Sys2Proof.Machine

/-! ## Bits read back (R29, R30) -/

/-- The first bit that differs decides: a recessive bit read dominant inside the arbitration field loses arbitration, any
other is an own bit error. -/
theorem compareBits_of_differ {i n : Nat} {l k : List Bool} {x : Bool} (ht : l.take i = k.take i) (hl : l[i]? = some x)
    (hk : k[i]? = some (!x)) :
    compareBits n l k = if x = true ∧ i < n then .lostArbitration else .ownBitError := by
  induction i generalizing n l k with
  | zero =>
    obtain ⟨_, rfl⟩ : ∃ l', l = x :: l' := by cases l <;> simp_all
    obtain ⟨_, rfl⟩ : ∃ k', k = (!x) :: k' := by cases k <;> simp_all
    rw [compareBits, if_neg (by simp)]
  | succ i ih =>
    cases l with
    | nil => simp at hl
    | cons a l =>
      cases k with
      | nil => simp at hk
      | cons b k =>
        simp only [List.take_succ_cons, List.cons.injEq] at ht
        obtain ⟨rfl, ht⟩ := ht
        have hlt : i < n - 1 ↔ i + 1 < n := by omega
        rw [compareBits, if_pos rfl, ih ht (by simpa using hl) (by simpa using hk)]
        simp only [hlt]

/-! ## The outcomes of an own message (R32, R33) -/

/-- The bus has been seen idle: what every message that ends here leaves behind (R26). -/
def State.seenIdle (s : State) : State := { s with bus := { s.bus with idleSeen := true } }

section
variable {s : State} {o : OwnMessage} {m : BusMessage} {e : BusEnding} (hb : s.bus.onBus = some o)
include hb

theorem messageCompletes_of_sender (hp : busPart (some o) m e.startRead e.crc = .sender) :
    messageCompletes m e s =
      asSender o (decideOutcome e.peersErr e.peersAck m.content.kind s.cfg.singleStation) s.seenIdle := by
  rw [← hb] at hp
  simp only [messageCompletes, hp, slotsDriven, Bool.or_false]
  split
  · rename_i o' ho _
    obtain rfl : o = o' := Option.some.inj (hb.symm.trans ho)
    rfl
  all_goals simp_all

theorem messageCompletes_of_bitError (hp : busPart (some o) m e.startRead e.crc = .ownBitError) :
    messageCompletes m e s = ownVoid s.seenIdle := by
  rw [← hb] at hp
  simp only [messageCompletes, hp]
  split
  · simp_all
  · rfl
  all_goals simp_all

/-- A station that lost arbitration goes on as a receiver (R29). -/
theorem messageCompletes_of_lost (hp : busPart (some o) m e.startRead e.crc = .lostArbitration) :
    messageCompletes m e s = asReceiver m (e.crc == m.crc)
      (decideOutcome (e.peersErr || (slotsDriven .receiver s.bus.quiet (e.crc == m.crc)).2)
        (e.peersAck || (slotsDriven .receiver s.bus.quiet (e.crc == m.crc)).1) m.content.kind s.cfg.singleStation)
      (loseArbitration o s.seenIdle) := by
  rw [← hb] at hp
  simp only [messageCompletes, hp]
  split
  · simp_all
  · simp_all
  · rename_i o' ho _ _
    obtain rfl : o = o' := Option.some.inj (hb.symm.trans ho)
    rfl
  · simp_all

end

/-- A station that owes no back-off wait and lost arbitration has its message taken from the bus, a lost CLAIM counted (R29,
R33). -/
def State.withoutOwn (s : State) (o : OwnMessage) : State :=
  let counts := s.counters.assoc[o.message.target]
  let lost := counts.set AssocCount.claimsLost.index (min (counts[AssocCount.claimsLost.index] + 1) (2 ^ 48 - 1))
  { s with
    bus := { s.bus with onBus := none },
    counters := if o.message.content.kind = .claim then
      { s.counters with assoc := s.counters.assoc.set o.message.target lost } else s.counters }

theorem spendBackoff_of_zero {s : State} (h : s.bus.backoff = 0) : spendBackoff s = s := by
  have hbus : { s.bus with backoff := 0 } = s.bus := by rw [← h]
  rw [spendBackoff, hbus, ite_self]

theorem loseArbitration_seenIdle {s : State} (h : s.bus.backoff = 0) (o : OwnMessage) :
    loseArbitration o s.seenIdle = (s.withoutOwn o).atEnd := by
  rw [State.atEnd, spendBackoff_of_zero (by exact h)]
  unfold loseArbitration State.withoutOwn
  simp only
  split <;> rfl

/-- What an own message void leaves: the entry stays, and the station owes a back-off wait (R33, R34, R38, R48). -/
theorem ownVoid_spec (s : State) :
    (ownVoid s).assocs = s.assocs ∧ (ownVoid s).keys = s.keys ∧
    (ownVoid s).bus = { s.bus with
      onBus := none, backoff := (s.station.toNat + 1) * 16, errorCount := min (s.bus.errorCount + 8) 255,
      quiet := (ownVoid s).bus.quiet } ∧
    (s.bus.quiet = false → ((ownVoid s).bus.quiet = true ↔ 128 ≤ min (s.bus.errorCount + 8) 255)) ∧
    (ownVoid s).counters.bus[BusCount.busVoids.index] =
      min (s.counters.bus[BusCount.busVoids.index] + 1) (2 ^ 48 - 1) := by
  refine ⟨by simp [ownVoid, clearOnBus], by simp [ownVoid, clearOnBus], ?_, fun hq => ?_, ?_⟩
  · unfold ownVoid errorUp
    rw [setErrorCount_bus]
    simp [oweBackoff, clearOnBus]
  · exact quiet_setErrorCount_of_active (s := bumpBus .busVoids (oweBackoff (clearOnBus s)))
      (by simpa [clearOnBus] using hq) _
  · exact busCount_of_bumpBus _ rfl (errorUp_busCounts _ _)

/-- The notice of a station that found itself alone: at the eighth CLAIM without an ack (R40). -/
def State.isolatedNotices (s : State) (a : Fin 64) (epoch : Nat) : List Notice :=
  if s.bus.noAck = 7 then [newNotice .isolated .none a.val epoch 8 1 true] else []

/-- An own CLAIM void for want of an ack (R33, R34, R40). -/
theorem ownNoAck_spec (a : Fin 64) (epoch : Nat) (s : State) :
    (ownNoAck a epoch s).assocs = s.assocs ∧ (ownNoAck a epoch s).keys = s.keys ∧
    (ownNoAck a epoch s).bus = { s.bus with
      onBus := none, backoff := (s.station.toNat + 1) * 16, noAck := min (s.bus.noAck + 1) 8 } ∧
    (ownNoAck a epoch s).counters.bus[BusCount.noAcks.index] =
      min (s.counters.bus[BusCount.noAcks.index] + 1) (2 ^ 48 - 1) ∧
    Posts s (ownNoAck a epoch s) (s.isolatedNotices a epoch) := by
  have hbase : Posts s { bumpBus .noAcks (oweBackoff (clearOnBus s)) with
      bus := { (bumpBus .noAcks (oweBackoff (clearOnBus s))).bus with noAck := min (s.bus.noAck + 1) 8 } } [] :=
    posts_nil rfl rfl rfl rfl
  have hcount : ∀ {t : State}, t.counters.bus = (bumpBus .noAcks (oweBackoff (clearOnBus s))).counters.bus →
      t.counters.bus[BusCount.noAcks.index] = min (s.counters.bus[BusCount.noAcks.index] + 1) (2 ^ 48 - 1) :=
    fun ht => busCount_of_bumpBus .noAcks (u := oweBackoff (clearOnBus s)) rfl ht
  unfold ownNoAck State.isolatedNotices
  simp only
  split
  · refine ⟨by simp [clearOnBus], by simp [clearOnBus], by simp [oweBackoff, clearOnBus],
      hcount (postNotice_busCounts _ _), hbase.trans (posts_postNotice _ _ (by simp [newNotice]))⟩
  · exact ⟨rfl, rfl, rfl, hcount rfl, hbase⟩

/-- Settles O21: an own message that is not delivered. -/
theorem unacknowledgedClaimIsVoid : Obligations.UnacknowledgedClaimIsVoid := by
  refine ⟨fun s m w epoch start count e hm hp hb hc hs he ha hone => ?_, ?_⟩
  · have hrun : messageCompletes m e s = ownNoAck m.target epoch.toNat s.seenIdle := by
      rw [messageCompletes_of_sender hb (by rw [hc, hs]; exact compareBits_self _ _), decideOutcome, he, ha, hone, hm]
      simp only [asSender, hm]
      rfl
    have hset := finishEvent_settled s (ownNoAck m.target epoch.toNat s.seenIdle)
    rw [← hrun, show finishEvent s (messageCompletes m e s) = busMessage m e s from (if_pos hp).symm, hrun] at hset
    obtain ⟨h1, h2, h3, h4, h5⟩ := ownNoAck_spec m.target epoch.toNat s.seenIdle
    have hd := not_erased_of_takesPart hp
    have hpost : Posts s (ownNoAck m.target epoch.toNat s.seenIdle) (s.isolatedNotices m.target epoch.toNat) :=
      (posts_nil rfl rfl rfl rfl : Posts s s.seenIdle []).trans h5
    refine ⟨busMessage m e s, ?_, hset.assocs.trans h1, hset.keys.trans h2, hset.bus.trans h3,
      by rw [hset.counters]; exact h4, fun hn => hset.alert_keeps ?_, ?_⟩
    · obtain ⟨a, i, content⟩ := m
      cases hm
      rfl
    · rw [hpost.desk.alert]
      refine postAll_alert_sets _ s hd (newNotice .isolated .none m.target.val epoch.toNat 8 1 true) ?_ rfl
      simp [State.isolatedNotices, hn]
    · have := notified_of_posts hpost hset (by simp [State.seenIdle]) m.target.val
      refine cast (congrArg _ ?_) this
      unfold State.isolatedNotices
      split <;> simp [namedIn, newNotice]
  · intro s o m e c hcases hp hb sent sampled differ
    have hexec : ∀ u, exec c u = .next (busMessage m e u) := by
      obtain ⟨a, i, content⟩ := m
      cases content <;> (subst hcases; exact fun _ => rfl)
    refine ⟨fun h => ⟨busMessage m e s, hexec s, ?_⟩, fun ⟨i, ⟨hi, hi', ht, hl, hk⟩, hlt⟩ hback => ?_⟩
    · have hrun : messageCompletes m e s = ownVoid s.seenIdle := by
        rcases h with ⟨rfl, hc, hs, he⟩ | ⟨i, x, ⟨hi, hi', ht, hl, hk⟩, hx⟩
        · rw [messageCompletes_of_sender hb (by rw [hc, hs]; exact compareBits_self _ _), decideOutcome, he]
          rfl
        · refine messageCompletes_of_bitError hb ((compareBits_of_differ ht hl hk).trans (if_neg fun ⟨h1, h2⟩ => ?_))
          rcases hx with hx | hx
          · omega
          · simp [h1] at hx
      have hset := finishEvent_settled s (ownVoid s.seenIdle)
      rw [← hrun, show finishEvent s (messageCompletes m e s) = busMessage m e s from (if_pos hp).symm, hrun] at hset
      obtain ⟨h1, h2, h3, h4, h5⟩ := ownVoid_spec s.seenIdle
      rw [hset.assocs, hset.keys, hset.bus, hset.counters]
      exact ⟨h1, h2, h3, h4, h5⟩
    · have hpart : busPart (some o) m e.startRead e.crc = .lostArbitration :=
        (compareBits_of_differ ht hl hk).trans (if_pos ⟨rfl, hlt⟩)
      have hlost : busMessage m e s = busMessage m e (s.withoutOwn o) := by
        rw [busMessage_of_receiver (s := s.withoutOwn o) hp rfl, busMessage, if_pos hp, messageCompletes_of_lost hb hpart,
          loseArbitration_seenIdle hback]
        rfl
      rw [hexec, hexec, hlost]
      rfl

end Sys2Proof.Machine
end

section
/-! The end of settle: what the placement of one association does to its keys, and what it reports (R54 to R56). -/

namespace Sys2Proof.Machine

/-! ## The roles of the PENDING keys (R54, R55) -/

/-- A key after a placement in epoch `e`: a PENDING one is CURRENT, STANDBY or wiped, any other is as it was. -/
def KeySlot.placedIn (e : Nat) (k : KeySlot) : KeySlot :=
  if k.role ≠ .pending then k
  else if k.epoch = e then { k with role := .current }
  else if k.epoch = e + 1 then { k with role := .standby }
  else KeySlot.wiped

/-- One step of `assignRoles`. -/
def assignRole (a : Fin 64) (e : Nat) (s : State) (j : Fin 4) : State :=
  let r : SlotRef := { assoc := a, index := j }
  let k := s.slot r
  if k.epoch = e then s.setSlot r { k with role := .current }
  else if k.epoch = e + 1 then s.setSlot r { k with role := .standby }
  else discardKey r s

theorem mem_pendingKeys {s : State} {a : Fin 64} {j : Fin 4} : j ∈ s.pendingKeys a ↔ (s.slots a)[j].role = .pending := by
  simp [State.pendingKeys]

theorem assignRole_slot {a : Fin 64} {e : Nat} {s : State} {j : Fin 4}
    (h : (s.slot { assoc := a, index := j }).role = .pending) (p : SlotRef) :
    (assignRole a e s j).slot p = if p = { assoc := a, index := j } then (s.slot p).placedIn e else s.slot p := by
  unfold assignRole
  simp only
  split
  · rename_i he
    rw [setSlot_slot]
    split
    · rename_i hp
      simp [KeySlot.placedIn, hp, h, he]
    · rfl
  split
  · rename_i hn he
    rw [setSlot_slot]
    split
    · rename_i hp
      simp [KeySlot.placedIn, hp, h, he]
    · rfl
  · rename_i hn hn'
    rw [discardKey_slot]
    split
    · rename_i hp
      simp [KeySlot.placedIn, hp, h, hn, hn']
    · rfl

theorem posts_assignRole {a : Fin 64} {e : Nat} {s : State} {j : Fin 4}
    (h : (s.slot { assoc := a, index := j }).role = .pending) :
    Posts s (assignRole a e s j) (s.discardsIn a (KeySlot.misplaced e) [j]) := by
  have hd : s.discardsIn a (KeySlot.misplaced e) [j] =
      if (s.slot { assoc := a, index := j }).epoch = e then []
      else if (s.slot { assoc := a, index := j }).epoch = e + 1 then []
      else [newNotice .keyDiscarded .none a.val (s.slot { assoc := a, index := j }).epoch 0 1 false] := by
    have hslot : (s.slots a)[j] = s.slot { assoc := a, index := j } := rfl
    simp only [State.discardsIn, List.filterMap_cons, List.filterMap_nil, hslot, KeySlot.misplaced, h]
    (repeat' split) <;> simp_all
  rw [hd]
  unfold assignRole
  simp only
  split
  · exact posts_nil rfl rfl rfl rfl
  split
  · exact posts_nil rfl rfl rfl rfl
  · exact posts_discardKey _ _

/-- The roles given to the keys of a list of slots, one after another. -/
theorem assignRole_fold {a : Fin 64} {e : Nat} {l : List (Fin 4)} {s : State} (hn : l.Nodup)
    (h : ∀ j ∈ l, (s.slot { assoc := a, index := j }).role = .pending) :
    (∀ p : SlotRef, (l.foldl (assignRole a e) s).slot p =
      if p.assoc = a ∧ p.index ∈ l then (s.slot p).placedIn e else s.slot p) ∧
    Posts s (l.foldl (assignRole a e) s) (s.discardsIn a (KeySlot.misplaced e) l) := by
  induction l generalizing s with
  | nil => exact ⟨by simp, posts_nil rfl rfl rfl rfl⟩
  | cons j l ih =>
    obtain ⟨hj, hn⟩ := List.nodup_cons.1 hn
    have hrole := h j (by simp)
    have hrest : ∀ i ∈ l, (assignRole a e s j).slot { assoc := a, index := i } = s.slot { assoc := a, index := i } := by
      intro i hi
      rw [assignRole_slot hrole, if_neg]
      rintro ⟨⟩
      exact hj hi
    obtain ⟨hslot, hpost⟩ := ih (s := assignRole a e s j) hn (fun i hi => by rw [hrest i hi]; exact h i (by simp [hi]))
    refine ⟨fun p => ?_, ?_⟩
    · rw [List.foldl_cons, hslot, assignRole_slot hrole]
      obtain ⟨b, i⟩ := p
      by_cases hb : b = a <;> by_cases hi : i = j <;> simp [hb, hi, hj]
    · have hsplit : s.discardsIn a (KeySlot.misplaced e) (j :: l) =
          s.discardsIn a (KeySlot.misplaced e) [j] ++ (assignRole a e s j).discardsIn a (KeySlot.misplaced e) l := by
        rw [discardsIn_congr (s := s) _ hrest]
        exact List.filterMap_append (l := [j])
      rw [hsplit]
      exact (posts_assignRole hrole).trans hpost

section
variable (a : Fin 64) (e : Nat) (s : State)

theorem assignRoles_fold :
    (∀ p : SlotRef, (assignRoles a e s).slot p =
      if p.assoc = a ∧ p.index ∈ s.pendingKeys a then (s.slot p).placedIn e else s.slot p) ∧
    Posts s (assignRoles a e s) (s.discardsIn a (KeySlot.misplaced e) (s.pendingKeys a)) :=
  assignRole_fold ((List.nodup_finRange 4).filter _) fun _ hj => mem_pendingKeys.1 hj

theorem assignRoles_slot_self (j : Fin 4) : ((assignRoles a e s).slots a)[j] = ((s.slots a)[j]).placedIn e := by
  have h := (assignRoles_fold a e s).1 { assoc := a, index := j }
  refine h.trans ?_
  by_cases hp : (s.slots a)[j].role = .pending
  · rw [if_pos ⟨rfl, mem_pendingKeys.2 hp⟩]
    rfl
  · rw [if_neg fun h => hp (mem_pendingKeys.1 h.2)]
    exact (if_pos hp).symm

theorem assignRoles_slots_ne {b : Fin 64} (hb : b ≠ a) : (assignRoles a e s).slots b = s.slots b :=
  slots_ext fun j => ((assignRoles_fold a e s).1 { assoc := b, index := j }).trans (if_neg fun h => hb h.1)

theorem posts_assignRoles : Posts s (assignRoles a e s) (s.discardsIn a (KeySlot.misplaced e) (List.finRange 4)) := by
  have h := (assignRoles_fold a e s).2
  have hall : s.discardsIn a (KeySlot.misplaced e) (s.pendingKeys a) =
      s.discardsIn a (KeySlot.misplaced e) (List.finRange 4) := by
    unfold State.discardsIn State.pendingKeys
    rw [List.filterMap_filter]
    refine List.filterMap_congr fun j _ => ?_
    generalize (s.slots a)[j] = k
    by_cases hp : k.role = .pending <;> simp [hp, KeySlot.misplaced]
  rw [← hall]
  exact h

/-- A placement leaves a CURRENT key where one stood, or where a PENDING key has its epoch (R54). -/
theorem current_of_assignRoles : (slotWithRole ((assignRoles a e s).slots a) .current).isSome = true ↔
    ∃ j : Fin 4, (s.slots a)[j].role = .current ∨ ((s.slots a)[j].role = .pending ∧ (s.slots a)[j].epoch = e) := by
  rw [slotWithRole, findSlot_isSome]
  refine exists_congr fun j => ?_
  rw [assignRoles_slot_self, KeySlot.placedIn]
  (repeat' split) <;> simp_all [KeySlot.wiped]

end

/-! ## The keys placed, as reported (R56) -/

/-- The notice of a key that was given a role (R56). -/
def KeySlot.placedNotice (a : Fin 64) (k : KeySlot) : Option Notice :=
  match k.role with
  | .current => some (newNotice .keyPlaced (.role .current) a.val k.epoch 0 1 false)
  | .standby => some (newNotice .keyPlaced (.role .standby) a.val k.epoch 0 1 false)
  | _ => none

/-- The marks of a CURRENT key placed (R56, R125). -/
def KeySlot.placedMarks (a : Fin 64) (k : KeySlot) : List ReleaseMark :=
  if k.role = .current then [{ assoc := a, cls := .noKey }] else []

theorem reportPlaced_spec (a : Fin 64) (placed : Vector KeySlot 4) (l : List (Fin 4)) (s : State) :
    Posts s (reportPlaced a placed l s) (l.filterMap fun j => placed[j].placedNotice a) ∧
    (reportPlaced a placed l s).disp.marks = s.disp.marks ++ l.flatMap fun j => placed[j].placedMarks a := by
  have hcons : ∀ j l s, reportPlaced a placed (j :: l) s = reportPlaced a placed l (reportPlaced a placed [j] s) :=
    fun _ _ _ => rfl
  have hone : ∀ j s, Posts s (reportPlaced a placed [j] s) ([j].filterMap fun j => placed[j].placedNotice a) ∧
      (reportPlaced a placed [j] s).disp.marks = s.disp.marks ++ placed[j].placedMarks a := by
    intro j s
    simp only [reportPlaced, List.foldl_cons, List.foldl_nil, List.filterMap_cons, List.filterMap_nil]
    generalize placed[j] = k
    cases hk : k.role
    case current =>
      simp only [KeySlot.placedNotice, KeySlot.placedMarks, hk]
      exact ⟨(posts_postNotice _ _ (by simp [newNotice])).same ⟨rfl, rfl, rfl, rfl, rfl⟩, by simp [postKeyPlaced]⟩
    case standby =>
      simp only [KeySlot.placedNotice, KeySlot.placedMarks, hk]
      exact ⟨posts_postNotice _ _ (by simp [newNotice]), by simp [postKeyPlaced]⟩
    all_goals
      simp only [KeySlot.placedNotice, KeySlot.placedMarks, hk]
      exact ⟨posts_nil rfl rfl rfl rfl, by simp⟩
  induction l generalizing s with
  | nil => exact ⟨posts_nil rfl rfl rfl rfl, by simp [reportPlaced]⟩
  | cons j l ih =>
    obtain ⟨hp, hm⟩ := hone j s
    obtain ⟨hp', hm'⟩ := ih (reportPlaced a placed [j] s)
    rw [hcons]
    refine ⟨?_, by rw [hm', hm, List.flatMap_cons, List.append_assoc]⟩
    rw [show j :: l = [j] ++ l from rfl, List.filterMap_append]
    exact hp.trans hp'

section
variable (a : Fin 64) (e : Nat) (s : State)

/-- The notices of the keys that a placement in epoch `e` gives a role, in slot order. -/
def State.placedIn : List Notice :=
  (s.pendingKeys a).filterMap fun j => (((assignRoles a e s).slots a)[j]).placedNotice a

/-- The marks of the keys that a placement in epoch `e` gives a role. -/
def State.placedMarksIn : List ReleaseMark :=
  (s.pendingKeys a).flatMap fun j => (((assignRoles a e s).slots a)[j]).placedMarks a

theorem mem_placedMarksIn (x : Fin 64) (c : ExcClass) : (∃ m ∈ s.placedMarksIn a e, x = m.assoc ∧ c = m.cls) ↔
    x = a ∧ c = .noKey ∧ ∃ j : Fin 4, (s.slots a)[j].role = .pending ∧ (s.slots a)[j].epoch = e := by
  have hrole : ∀ j : Fin 4, (s.slots a)[j].role = .pending →
      ((((assignRoles a e s).slots a)[j]).role = .current ↔ (s.slots a)[j].epoch = e) := by
    intro j hj
    rw [assignRoles_slot_self, KeySlot.placedIn]
    (repeat' split) <;> simp_all [KeySlot.wiped]
  constructor
  · rintro ⟨m, hm, rfl, rfl⟩
    obtain ⟨j, hj, hm⟩ := List.mem_flatMap.1 hm
    have hp := mem_pendingKeys.1 hj
    unfold KeySlot.placedMarks at hm
    split at hm
    · rename_i hc
      obtain rfl := List.mem_singleton.1 hm
      exact ⟨rfl, rfl, j, hp, (hrole j hp).1 hc⟩
    · cases hm
  · rintro ⟨rfl, rfl, j, hp, he⟩
    refine ⟨{ assoc := x, cls := .noKey }, List.mem_flatMap.2 ⟨j, mem_pendingKeys.2 hp, ?_⟩, rfl, rfl⟩
    rw [KeySlot.placedMarks, if_pos ((hrole j hp).2 he)]
    exact List.mem_singleton.2 rfl

theorem placedIn_named {n : Notice} (h : n ∈ s.placedIn a e) : n.assoc = a.val ∧ n.kind = .keyPlaced := by
  obtain ⟨j, -, hj⟩ := List.mem_filterMap.1 h
  unfold KeySlot.placedNotice at hj
  split at hj
  · cases hj
    exact ⟨rfl, rfl⟩
  · cases hj
    exact ⟨rfl, rfl⟩
  · cases hj

/-- KEY-PLACED notices as handed over, and as queued. -/
theorem namedIn_placedIn : namedIn (s.placedIn a e) s.time a.val = s.placementNotices a e := by
  have hall : (s.placedIn a e).filter (fun n => n.assoc == a.val && n.kind != .exception) = s.placedIn a e := by
    refine List.filter_eq_self.2 fun n hn => ?_
    obtain ⟨h1, h2⟩ := placedIn_named a e s hn
    simp [h1, h2]
  rw [namedIn, hall, State.placedIn, State.pendingKeys, List.filterMap_filter, List.map_filterMap, State.placementNotices]
  refine List.filterMap_congr fun j _ => ?_
  simp only [assignRoles_slot_self]
  generalize (s.slots a)[j] = k
  by_cases hr : k.role = .pending
  · by_cases h1 : k.epoch = e
    · simp [hr, h1, KeySlot.placedIn, KeySlot.placedNotice, newNotice, State.keyNotice]
    · by_cases h2 : k.epoch = e + 1
      · simp [hr, h2, KeySlot.placedIn, KeySlot.placedNotice, newNotice, State.keyNotice]
      · simp [hr, h1, h2, KeySlot.placedIn, KeySlot.placedNotice, KeySlot.wiped]
  · simp [hr]

end

end Sys2Proof.Machine
end

section
/-! The end of settle: the placement of one association (R54 to R56). -/

namespace Sys2Proof.Machine

/-! ## What concerns one association alone -/

/-- Between `s` and `t` no record and no key slot changed but those of `a`; the notices handed over name `a` or no
association, the marks posted are of `a`, and only ADVANCE entries joined the transmit list. -/
structure Touches (a : Fin 64) (s t : State) : Prop where
  records : ∀ b, b ≠ a → t.assoc b = s.assoc b
  slots : ∀ b, b ≠ a → t.slots b = s.slots b
  posts : ∃ l, Posts s t l ∧ ∀ n ∈ l, n.assoc = a.val ∨ n.assoc = 255
  marks : ∃ m, t.disp.marks = s.disp.marks ++ m ∧ ∀ x ∈ m, x.assoc = a
  entries : ∀ x ∈ t.bus.txList, x ∈ s.bus.txList ∨ x.kind = .advance

theorem Touches.refl (a : Fin 64) (s : State) : Touches a s s :=
  ⟨fun _ _ => rfl, fun _ _ => rfl, ⟨[], posts_nil rfl rfl rfl rfl, by simp⟩, ⟨[], by simp, by simp⟩,
    fun _ => .inl⟩

theorem Touches.trans {a : Fin 64} {s u t : State} (h : Touches a s u) (k : Touches a u t) : Touches a s t := by
  obtain ⟨l, hl, hln⟩ := h.posts
  obtain ⟨l', hl', hln'⟩ := k.posts
  obtain ⟨m, hm, hmn⟩ := h.marks
  obtain ⟨m', hm', hmn'⟩ := k.marks
  exact {
    records := fun b hb => (k.records b hb).trans (h.records b hb)
    slots := fun b hb => (k.slots b hb).trans (h.slots b hb)
    posts := ⟨l ++ l', hl.trans hl', fun n hn => (List.mem_append.1 hn).elim (hln n) (hln' n)⟩
    marks := ⟨m ++ m', by rw [hm', hm, List.append_assoc], fun x hx => (List.mem_append.1 hx).elim (hmn x) (hmn' x)⟩
    entries := fun x hx => (k.entries x hx).elim (h.entries x) .inr }

theorem touches_modAssoc (a : Fin 64) (f : Assoc → Assoc) (s : State) : Touches a s (s.modAssoc a f) where
  records _ hb := modAssoc_assoc_ne s f hb
  slots _ _ := rfl
  posts := ⟨[], posts_nil rfl rfl rfl rfl, by simp⟩
  marks := ⟨[], by simp, by simp⟩
  entries _ hx := .inl hx

theorem touches_postNotice (a : Fin 64) {n : Notice} (hn : n.assoc = a.val) (ho : n.kind ≠ .commandOverrun) (s : State) :
    Touches a s (postNotice n s) where
  records b _ := assoc_eq_of_assocs (by simp) b
  slots b _ := slots_eq_of_keys (by simp) b
  posts := ⟨[n], posts_postNotice n s ho, by simp [hn]⟩
  marks := ⟨[], by simp, by simp⟩
  entries x hx := .inl (by simpa using hx)

theorem touches_assignRoles (a : Fin 64) (e : Nat) (s : State) : Touches a s (assignRoles a e s) where
  records b _ := assoc_eq_of_assocs (by simp) b
  slots _ hb := assignRoles_slots_ne a e s hb
  posts := by
    refine ⟨_, posts_assignRoles a e s, fun n hn => .inl ?_⟩
    obtain ⟨j, -, hj⟩ := List.mem_filterMap.1 hn
    split at hj <;> cases hj
    rfl
  marks := ⟨[], by simp, by simp⟩
  entries x hx := .inl (by simpa using hx)

theorem touches_reportPlaced (a : Fin 64) (v : Vector KeySlot 4) (l : List (Fin 4)) (s : State) :
    Touches a s (reportPlaced a v l s) where
  records b _ := assoc_eq_of_assocs (by simp) b
  slots b _ := slots_eq_of_keys (by simp) b
  posts := by
    refine ⟨_, (reportPlaced_spec a v l s).1, fun n hn => .inl ?_⟩
    obtain ⟨j, -, hj⟩ := List.mem_filterMap.1 hn
    unfold KeySlot.placedNotice at hj
    split at hj <;> cases hj <;> rfl
  marks := by
    refine ⟨_, (reportPlaced_spec a v l s).2, fun x hx => ?_⟩
    obtain ⟨j, -, hj⟩ := List.mem_flatMap.1 hx
    unfold KeySlot.placedMarks at hj
    split at hj <;> simp_all
  entries x hx := .inl (by simpa using hx)

theorem touches_retireCurrent (a : Fin 64) (s : State) : Touches a s (retireCurrent a s) where
  records b _ := assoc_eq_of_assocs (by simp) b
  slots _ hb := retireCurrent_slots_ne hb s
  posts := by
    obtain ⟨l, hl, hq⟩ := posts_retireCurrent a s
    exact ⟨l, hl, fun n hn => .inr (hq n hn).2.1⟩
  marks := ⟨[], by simp, by simp⟩
  entries x hx := .inl (by simpa using hx)

theorem touches_discardKeys (a : Fin 64) (p : KeySlot → Bool) (s : State) : Touches a s (discardKeys a p s) where
  records b _ := assoc_eq_of_assocs (by simp) b
  slots _ hb := discardKeys_slots_ne hb p s
  posts := by
    refine ⟨_, posts_discardKeys a p s, fun n hn => .inl ?_⟩
    obtain ⟨j, -, hj⟩ := List.mem_filterMap.1 hn
    split at hj <;> cases hj
    rfl
  marks := ⟨[], by simp, by simp⟩
  entries x hx := .inl (by simpa using hx)

theorem touches_retireRecord (a : Fin 64) (s : State) : Touches a s (retireRecord a s) where
  records b hb := by simp [hb]
  slots b _ := slots_eq_of_keys (by simp) b
  posts := ⟨[], posts_of_status (hc := retireRecord_frames a s), by simp⟩
  marks := ⟨[], by simp, by simp⟩
  entries x hx := by
    rw [retireRecord_bus, cancelAdvance, mem_removeTx] at hx
    exact .inl (by simpa using (mem_cancelClaim.1 hx.1).1)

theorem touches_postAllMarks (a : Fin 64) (s : State) : Touches a s (postAllMarks a s) where
  records b _ := assoc_eq_of_assocs (by simp) b
  slots b _ := slots_eq_of_keys (by simp) b
  posts := ⟨[], posts_of_status, by simp⟩
  marks := ⟨faultMarks a, by simp [postAllMarks, faultMarks], by simp [faultMarks]⟩
  entries x hx := .inl (by simpa using hx)

theorem touches_retire (a : Fin 64) (s : State) : Touches a s (retire a true s) := by
  simp only [retire, if_true]
  refine Touches.trans ?_ (touches_postAllMarks a _)
  refine Touches.trans ?_ (touches_postNotice a rfl (by simp [newNotice]) _)
  exact ((touches_retireRecord a s).trans (touches_retireCurrent a _)).trans (touches_discardKeys a _ _)

theorem touches_requestAdvance (a : Fin 64) (x : AdvanceReason) (s : State) : Touches a s (requestAdvance a x s) := by
  fun_cases requestAdvance a x s
  case case1 => exact .refl a s
  case case2 => exact touches_retire a s
  case case3 => exact .refl a s
  case case4 => exact (touches_modAssoc a _ s).trans {
      records := fun b _ => assoc_eq_of_assocs (by simp) b
      slots := fun b _ => slots_eq_of_keys (by simp) b
      posts := ⟨[], posts_nil rfl rfl rfl rfl, by simp⟩
      marks := ⟨[], by simp, by simp⟩
      entries := fun x hx => (mem_requestTx.1 hx).elim (fun h => .inr (by rw [h])) .inl }
  case case5 => exact (touches_modAssoc a _ s).trans (touches_postNotice a rfl (by simp [newNotice]) _)

theorem touches_place (a : Fin 64) (s : State) : Touches a s (place a s) := by
  unfold place
  split
  · rename_i v _
    simp only [placeInEpoch]
    refine Touches.trans (Touches.trans ?_ (touches_reportPlaced a _ _ _)) (touches_modAssoc a _ _)
    refine (touches_assignRoles a v.epoch s).trans ?_
    split
    · exact touches_modAssoc a _ _
    · exact (touches_modAssoc a _ _).trans (touches_postNotice a rfl (by simp [newNotice]) _)
  split
  · rename_i f _
    simp only [placeBlind]
    refine Touches.trans (Touches.trans ?_ (touches_reportPlaced a _ _ _)) (touches_modAssoc a _ _)
    exact ((touches_assignRoles a f s).trans (touches_modAssoc a _ _)).trans (touches_requestAdvance a _ _)
  · exact touches_modAssoc a _ s

/-! ## Placement with a settle view (R54) -/

section
variable {a : Fin 64} {s : State}

/-- The notice of a placement without a CURRENT key, or of a HELD advance request (R54, R61). -/
def wantedNotices (a : Fin 64) (e : Nat) (held : Bool) : List Notice :=
  if held then [newNotice .keyWanted .none a.val e 0 1 false] else []

theorem posts_postKeyWanted (a : Fin 64) (e : Nat) (s : State) :
    Posts s (postKeyWanted a e s) (wantedNotices a e true) :=
  posts_postNotice (newNotice .keyWanted .none a.val e 0 1 false) s (by simp [newNotice])

theorem namedIn_wantedNotices (s : State) (a : Fin 64) (e : Nat) (held : Bool) :
    namedIn (wantedNotices a e held) s.time a.val = if held then [s.keyNotice .keyWanted .none a e] else [] := by
  cases held
  · rfl
  · simp [wantedNotices, namedIn, newNotice, State.keyNotice]

theorem placeInEpoch_spec (a : Fin 64) (e v : Nat) (s : State) :
    let live := (slotWithRole ((assignRoles a e s).slots a) .current).isSome
    (placeInEpoch a e v s).assoc a = { s.assoc a with
      state := if live then .live else .keyWait, epoch := some e, hwm := some v, assigned := 0, acc := 0, active := none,
      queued := none, rekeyRequested := false, settleView := none } ∧
    (placeInEpoch a e v s).keys = (assignRoles a e s).keys ∧
    (placeInEpoch a e v s).disp.marks = s.disp.marks ++ s.placedMarksIn a e ∧
    Posts s (placeInEpoch a e v s)
      (s.discardsIn a (KeySlot.misplaced e) (List.finRange 4) ++ wantedNotices a e (!live) ++ s.placedIn a e) := by
  intro live
  have hassoc : (assignRoles a e s).assoc a = s.assoc a := assoc_eq_of_assocs (by simp) a
  obtain ⟨u, hu, hrec, hkeys, hmarks, hpost⟩ : ∃ u,
      placeInEpoch a e v s = (reportPlaced a ((assignRoles a e s).slots a) (s.pendingKeys a) u).modAssoc a
        (fun r => { r with settleView := none }) ∧
      u.assoc a = { s.assoc a with
        state := if live then .live else .keyWait, epoch := some e, hwm := some v, assigned := 0, acc := 0, active := none,
        queued := none, rekeyRequested := false } ∧
      u.keys = (assignRoles a e s).keys ∧ u.disp.marks = s.disp.marks ∧
      Posts (assignRoles a e s) u (wantedNotices a e (!live)) := by
    cases hl : live with
    | true =>
      refine ⟨placeRecord a e (some v) .live (assignRoles a e s), ?_, by simp [placeRecord, hassoc], by simp [placeRecord],
        by simp [placeRecord], posts_nil rfl rfl rfl rfl⟩
      simp only [placeInEpoch]
      rw [if_pos hl]
    | false =>
      refine ⟨postKeyWanted a e (placeRecord a e (some v) .keyWait (assignRoles a e s)), ?_, ?_, by simp [placeRecord],
        by simp [placeRecord], ?_⟩
      · simp only [placeInEpoch]
        rw [if_neg (by rw [show (slotWithRole ((assignRoles a e s).slots a) .current).isSome = false from hl]; simp)]
      · rw [assoc_eq_of_assocs (s := placeRecord a e (some v) .keyWait (assignRoles a e s)) (by simp)]
        simp [placeRecord, hassoc]
      · exact (posts_nil (s := assignRoles a e s) (t := placeRecord a e (some v) .keyWait (assignRoles a e s))
          rfl rfl rfl rfl).trans (posts_postKeyWanted a e _)
  obtain ⟨hrep, hrepm⟩ := reportPlaced_spec a ((assignRoles a e s).slots a) (s.pendingKeys a) u
  rw [hu]
  refine ⟨?_, by simp [hkeys], ?_, ?_⟩
  · rw [modAssoc_assoc_self, assoc_eq_of_assocs (s := u) (by simp), hrec]
  · rw [show ∀ x : State, (x.modAssoc a fun r => { r with settleView := none }).disp = x.disp from fun _ => rfl, hrepm,
      hmarks]
    rfl
  · exact (((posts_assignRoles a e s).trans hpost).trans hrep).same ⟨rfl, rfl, rfl, rfl, rfl⟩

/-! ## Placement without a settle view (R55) -/

/-- The record as placement without a front leaves it, before the advance request (R55). -/
def Assoc.blindIn (r : Assoc) (f : Nat) : Assoc :=
  { r with state := .blind, epoch := some f, hwm := none, assigned := 0, acc := 0, active := none, queued := none,
           rekeyRequested := false }

theorem placeBlind_spec (a : Fin 64) (f : Nat) (s : State) :
    let standby := (slotWithRole ((assignRoles a f s).slots a) .standby).isSome
    (placeBlind a f s).assoc a = { ((s.assoc a).blindIn f).advanceAsked .blind standby with settleView := none } ∧
    (f ≠ 65535 → (placeBlind a f s).keys = (assignRoles a f s).keys) ∧
    (placeBlind a f s).disp.marks = s.disp.marks ++ (endMarks a (decide (f = 65535)) ++ s.placedMarksIn a f) ∧
    (f ≠ 65535 → (s.assoc a).pendingAdvance = none → Posts s (placeBlind a f s)
      (s.discardsIn a (KeySlot.misplaced f) (List.finRange 4) ++ wantedNotices a (f + 1) (!standby) ++ s.placedIn a f)) := by
  intro standby
  obtain ⟨u, hu⟩ : ∃ u, u = placeRecord a f none .blind (assignRoles a f s) := ⟨_, rfl⟩
  have hrec : u.assoc a = (s.assoc a).blindIn f := by
    rw [hu, placeRecord, modAssoc_assoc_self, assoc_eq_of_assocs (s := s) (by simp)]
    rfl
  have hkeys : u.keys = (assignRoles a f s).keys := by simp [hu, placeRecord]
  have hstandby : u.hasStandby a = standby := hasStandby_of_keys hkeys a
  have hends : (u.assoc a).endsAtAdvance = decide (f = 65535) := by
    simp [hrec, Assoc.blindIn, Assoc.endsAtAdvance, AssocState.inEpoch, Assoc.epochOrZero]
  have hrun : placeBlind a f s = (reportPlaced a ((assignRoles a f s).slots a) (s.pendingKeys a)
      (requestAdvance a .blind u)).modAssoc a (fun r => { r with settleView := none }) := by
    rw [hu]
    rfl
  obtain ⟨hrep, hrepm⟩ := reportPlaced_spec a ((assignRoles a f s).slots a) (s.pendingKeys a) (requestAdvance a .blind u)
  rw [hrun]
  refine ⟨?_, fun hf => ?_, ?_, fun hf hp => ?_⟩
  · rw [modAssoc_assoc_self, assoc_eq_of_assocs (s := requestAdvance a .blind u) (by simp), requestAdvance_assoc_self, hrec,
      hstandby]
  · rw [← hkeys, ← requestAdvance_keys (a := a) (s := u) (by simpa [hends] using hf) .blind]
    simp
  · have hm : u.disp.marks = s.disp.marks := by simp [hu, placeRecord]
    rw [show ∀ x : State, (x.modAssoc a fun r => { r with settleView := none }).disp = x.disp from fun _ => rfl, hrepm,
      requestAdvance_endMarks, hends, hm, List.append_assoc]
    rfl
  · have hask : Posts u (requestAdvance a .blind u) (wantedNotices a (f + 1) (!standby)) := by
      rw [← hstandby]
      have he : (u.assoc a).epochOrZero = f := by simp [hrec, Assoc.blindIn, Assoc.epochOrZero]
      have hin : (u.assoc a).state.inEpoch = true := by simp [hrec, Assoc.blindIn, AssocState.inEpoch]
      have hnone : (u.assoc a).pendingAdvance = none := by simp [hrec, Assoc.blindIn, hp]
      unfold requestAdvance
      rw [if_neg (by simp [hin]), if_neg (by rwa [he]), if_neg (by simp [hnone])]
      simp only [he]
      split
      · rename_i hs
        rw [hs]
        exact posts_nil rfl rfl rfl rfl
      · rename_i hs
        rw [Bool.eq_false_iff.2 hs]
        show Posts u (postKeyWanted a (f + 1) (u.modAssoc a _)) ([] ++ wantedNotices a (f + 1) true)
        refine Posts.trans ?_ (posts_postKeyWanted a (f + 1) _)
        exact posts_nil rfl rfl rfl rfl
    have hplace : Posts (assignRoles a f s) u [] := by
      rw [hu]
      exact posts_nil rfl rfl rfl rfl
    have := ((((posts_assignRoles a f s).trans hplace).trans hask).trans hrep).same
      (t := (reportPlaced a ((assignRoles a f s).slots a) (s.pendingKeys a)
        (requestAdvance a .blind u)).modAssoc a (fun r => { r with settleView := none })) ⟨rfl, rfl, rfl, rfl, rfl⟩
    rw [List.append_nil] at this
    exact this

end

end Sys2Proof.Machine
end

section
/-! The end of settle: every association placed, and the device RUNNING (R46, R50, R192). -/

namespace Sys2Proof.Machine

/-! ## What leaves one association alone -/

/-- Between `s` and `t` nothing of `a` changed: not its record nor its slots; no notice names it and no mark is its own. -/
structure Spares (a : Fin 64) (s t : State) : Prop where
  record : t.assoc a = s.assoc a
  slots : t.slots a = s.slots a
  time : t.time = s.time
  posts : ∃ l, Posts s t l ∧ ∀ n ∈ l, n.assoc ≠ a.val
  marks : ∃ m, t.disp.marks = s.disp.marks ++ m ∧ ∀ x ∈ m, x.assoc ≠ a

theorem Spares.refl (a : Fin 64) (s : State) : Spares a s s :=
  ⟨rfl, rfl, rfl, ⟨[], posts_nil rfl rfl rfl rfl, by simp⟩, ⟨[], by simp, by simp⟩⟩

theorem Spares.trans {a : Fin 64} {s u t : State} (h : Spares a s u) (k : Spares a u t) : Spares a s t := by
  obtain ⟨l, hl, hln⟩ := h.posts
  obtain ⟨l', hl', hln'⟩ := k.posts
  obtain ⟨m, hm, hmn⟩ := h.marks
  obtain ⟨m', hm', hmn'⟩ := k.marks
  exact {
    record := k.record.trans h.record
    slots := k.slots.trans h.slots
    time := k.time.trans h.time
    posts := ⟨l ++ l', hl.trans hl', fun n hn => (List.mem_append.1 hn).elim (hln n) (hln' n)⟩
    marks := ⟨m ++ m', by rw [hm', hm, List.append_assoc], fun x hx => (List.mem_append.1 hx).elim (hmn x) (hmn' x)⟩ }

theorem Touches.spares {a b : Fin 64} {s t : State} (h : Touches b s t) (hab : a ≠ b) (ht : t.time = s.time) :
    Spares a s t := by
  obtain ⟨l, hl, hln⟩ := h.posts
  obtain ⟨m, hm, hmn⟩ := h.marks
  refine ⟨h.records a hab, h.slots a hab, ht, ⟨l, hl, fun n hn heq => ?_⟩,
    ⟨m, hm, fun x hx heq => hab (heq.symm.trans (hmn x hx))⟩⟩
  rcases hln n hn with h' | h'
  · exact hab (Fin.ext (heq.symm.trans h'))
  · have := a.isLt
    omega

/-! ## All associations in turn (R50) -/

/-- One step of `placeAll`. -/
def placeIfSettling (s : State) (a : Fin 64) : State := if (s.assoc a).state = .settling then place a s else s

theorem placeAll_eq (s : State) : placeAll s = (List.finRange 64).foldl placeIfSettling s := rfl

theorem touches_placeIfSettling (a : Fin 64) (s : State) : Touches a s (placeIfSettling s a) := by
  unfold placeIfSettling
  split
  · exact touches_place a s
  · exact .refl a s

theorem placeIfSettling_time (a : Fin 64) (s : State) : (placeIfSettling s a).time = s.time := by
  unfold placeIfSettling
  split <;> simp

theorem spares_placeIfSettling {a : Fin 64} {l : List (Fin 64)} (ha : a ∉ l) (s : State) :
    Spares a s (l.foldl placeIfSettling s) := by
  induction l generalizing s with
  | nil => exact .refl a s
  | cons b l ih =>
    obtain ⟨hab, ha⟩ := not_or.1 (mt List.mem_cons.2 ha)
    exact ((touches_placeIfSettling b s).spares hab (placeIfSettling_time b s)).trans (ih ha _)

/-- The placements before and after that of `a` leave it alone. -/
theorem placeAll_around (a : Fin 64) (s : State) :
    ∃ u, Spares a s u ∧ Spares a (placeIfSettling u a) (placeAll s) := by
  obtain ⟨l, k, hl⟩ := List.append_of_mem (List.mem_finRange a)
  have hn := List.nodup_finRange 64
  rw [hl] at hn
  obtain ⟨-, hk, hdis⟩ := List.nodup_append.1 hn
  refine ⟨l.foldl placeIfSettling s, spares_placeIfSettling (fun h => hdis a h a (by simp) rfl) s, ?_⟩
  rw [placeAll_eq, hl, List.foldl_append, List.foldl_cons]
  exact spares_placeIfSettling (List.nodup_cons.1 hk).1 _

/-- Only ADVANCE entries join the transmit list (R61). -/
theorem placeAll_entries {s : State} {x : TxEntry} (h : x ∈ (placeAll s).bus.txList) :
    x ∈ s.bus.txList ∨ x.kind = .advance := by
  have hgo : ∀ (l : List (Fin 64)) (s : State), x ∈ (l.foldl placeIfSettling s).bus.txList →
      x ∈ s.bus.txList ∨ x.kind = .advance := by
    intro l
    induction l with
    | nil => exact fun s h => .inl h
    | cons a l ih => exact fun s h => (ih _ h).elim ((touches_placeIfSettling a s).entries x) .inr
  rw [placeAll_eq] at h
  exact hgo _ s h

/-- The SETTLING marks of the defined associations (R50). -/
def State.settlingMarks (s : State) : List ReleaseMark :=
  ((List.finRange 64).filter fun a => (s.assocDef a).defined).map fun a => { assoc := a, cls := .settling }

theorem postSettlingMarks_marks (s : State) : (postSettlingMarks s).disp.marks = s.disp.marks ++ s.settlingMarks := by
  have hgo : ∀ (l : List (Fin 64)) (u : State), u.image = s.image →
      (l.foldl (fun s a => if (s.assocDef a).defined then postMark a .settling s else s) u).disp.marks = u.disp.marks ++
        (l.filter fun a => (s.assocDef a).defined).map fun a => { assoc := a, cls := .settling } := by
    intro l
    induction l with
    | nil => simp
    | cons a l ih =>
      intro u hu
      rw [List.foldl_cons, assocDef_eq_of_image hu, List.filter_cons]
      split
      · rw [ih (postMark a .settling u) hu, postMark_marks, List.map_cons, List.append_assoc, List.singleton_append]
      · exact ih u hu
  unfold postSettlingMarks State.settlingMarks
  rw [hgo (List.finRange 64) s rfl]

theorem liveCount_eq (s : State) :
    s.liveCount = (List.finRange 64).countP (fun a => (s.assoc a).state == .live) := by
  have h : s.assocs.toList = (List.finRange 64).map s.assoc := by
    refine List.ext_getElem (by simp) fun i _ _ => ?_
    simp [State.assoc]
  rw [State.liveCount, h, List.countP_map]
  rfl

/-! ## The marks of one placement -/

theorem lowestPending_mem {s : State} {a : Fin 64} {f : Nat} (h : s.lowestPending a = some f) :
    ∃ j : Fin 4, (s.slots a)[j].role = .pending ∧ (s.slots a)[j].epoch = f := by
  obtain ⟨j, hj, he⟩ := List.mem_map.1 (List.min?_mem h)
  exact ⟨j, mem_pendingKeys.1 hj, he⟩

/-- The park list entries that the placement of an association releases, of those that name it (R54, R56, R70). -/
def State.placeReleases (s : State) (a : Fin 64) (c : ExcClass) : Bool :=
  match (s.assoc a).settleView, s.lowestPending a with
  | some v, _ => c == .noKey && (s.slots a).any (fun k => k.role == .pending && k.epoch == v.epoch)
  | none, some f => c == .noKey || decide (f = 65535) && c.isFault
  | none, none => false

theorem place_marks (a : Fin 64) (s : State) :
    ∃ m, (place a s).disp.marks = s.disp.marks ++ m ∧
      ∀ c, (∃ x ∈ m, a = x.assoc ∧ c = x.cls) ↔ s.placeReleases a c = true := by
  unfold place State.placeReleases
  cases hv : (s.assoc a).settleView with
  | some v =>
    refine ⟨_, (placeInEpoch_spec a v.epoch v.hwm s).2.2.1, fun c => ?_⟩
    rw [mem_placedMarksIn]
    simp [Vector.any_eq_true, Fin.exists_iff]
  | none =>
    cases hf : s.lowestPending a with
    | some f =>
      refine ⟨_, (placeBlind_spec a f s).2.2.1, fun c => ?_⟩
      have hj := lowestPending_mem hf
      simp only [List.mem_append, or_and_right, exists_or, mem_placedMarksIn, hj, endMarks]
      by_cases h : f = 65535
      · simp [h, mem_faultMarks, or_comm]
      · simp [h]
    | none => exact ⟨[], by simp, by simp⟩

end Sys2Proof.Machine
end

section
/-! The end of settle: what SETTLE_TIMER_EXPIRY comes to (R46, R50, R54 to R56, R192). -/

namespace Sys2Proof.Machine

/-! ## The whole event -/

/-- The state at the end of settle, before the arbiters act (R192). -/
def State.whenSettled (s : State) : State := postSettled (postSettlingMarks (placeAll (enterRunning s)))

theorem exec_settleTimerExpiry {s : State} (hd : s.device = .settling) (ht : s.bus.settleTimer.isSome = true) :
    exec .settleTimerExpiry s = .next (finishEvent s s.whenSettled) :=
  congrArg Host.Outcome.next (if_pos ⟨hd, ht⟩)

@[simp] theorem whenSettled_frame (s : State) :
    s.whenSettled.device = .running ∧ s.whenSettled.time = s.time ∧ s.whenSettled.image = s.image ∧
    s.whenSettled.segMap = s.segMap ∧ s.whenSettled.bus.settleTimer = none ∧ s.whenSettled.buf.queues = s.buf.queues ∧
    s.whenSettled.disp.park = s.disp.park ∧ s.whenSettled.rack = s.rack ∧ s.whenSettled.engine = s.engine ∧
    s.whenSettled.pending = s.pending := by
  simp [State.whenSettled, postSettled]

theorem whenSettled_assocs (s : State) : s.whenSettled.assocs = (placeAll (enterRunning s)).assocs := by
  simp [State.whenSettled, postSettled]

theorem whenSettled_keys (s : State) : s.whenSettled.keys = (placeAll (enterRunning s)).keys := by
  simp [State.whenSettled, postSettled]

/-- The JOIN entry is gone (R46). -/
theorem join_notMem_whenSettled (s : State) : { kind := .join, assoc := 0 } ∉ s.whenSettled.bus.txList := by
  intro h
  have hbus : s.whenSettled.bus = (placeAll (enterRunning s)).bus := by simp [State.whenSettled, postSettled]
  rw [hbus] at h
  rcases placeAll_entries h with h | h
  · exact (mem_removeTx.1 h).2 rfl
  · cases h

theorem posts_whenSettled (s : State) : Posts (placeAll (enterRunning s)) s.whenSettled
    [newNotice .settled .none 255 0 (placeAll (enterRunning s)).liveCount 1 false] := by
  have hmarks : Posts (placeAll (enterRunning s)) (postSettlingMarks (placeAll (enterRunning s))) [] :=
    posts_nil (by simp) (by simp) (by simp) (by simp [State.lost])
  have hlive : (postSettlingMarks (placeAll (enterRunning s))).liveCount = (placeAll (enterRunning s)).liveCount := by
    simp [State.liveCount]
  have hpost := posts_postNotice
    (newNotice .settled .none 255 0 (postSettlingMarks (placeAll (enterRunning s))).liveCount 1 false)
    (postSettlingMarks (placeAll (enterRunning s))) (by simp [newNotice])
  rw [hlive] at hpost
  have := hmarks.trans hpost
  rw [← hlive] at this ⊢
  exact this

/-- The last notice of the event is SETTLED, while there is room (R175, R192). -/
theorem settled_last {s t : State} (hs : Settled s.whenSettled t) (hk : NoticesKept s t) :
    t.status.notices.getLast? = some
      { kind := .settled, detail := .none, assoc := 255, epoch := 0,
        value := (List.finRange 64).countP (fun a => (t.assoc a).state == .live), count := 1, time := s.time,
        alert := false } := by
  obtain ⟨-, hsend, hroom⟩ := hk
  have hcount : (List.finRange 64).countP (fun a => (t.assoc a).state == .live) =
      (placeAll (enterRunning s)).liveCount := by
    have : t.liveCount = (placeAll (enterRunning s)).liveCount := by
      simp [State.liveCount, hs.assocs, whenSettled_assocs]
    rw [← liveCount_eq, this]
  have hposts := posts_whenSettled s
  rw [hcount]
  generalize (placeAll (enterRunning s)).liveCount = n at hposts ⊢
  have hjoin := postNotice_joins (n := newNotice .settled .none 255 0 n 1 false) (s := placeAll (enterRunning s))
    (by simp [newNotice]) (by simp [newNotice]) (by simp [DeviceState.erased])
  rw [hs.notices_of_sending (by simpa using hsend), hposts.desk.notices, postAll_cons, postAll_nil, hjoin] at hroom ⊢
  split at hroom
  · rename_i h
    rw [if_pos h, List.getLast?_concat]
    simp only [newNotice, placeAll_frame, enterRunning_frame]
  · rename_i h
    exact absurd hroom h

/-- What names an association among the notices is what its own placement hands over. -/
theorem notified_of_placement {s u t : State} {a : Fin 64} {l : List Notice} (hs : Settled s.whenSettled t)
    (hu : Spares a (enterRunning s) u) (hl : Posts u (placeIfSettling u a) l)
    (hw : Spares a (placeIfSettling u a) (placeAll (enterRunning s))) :
    Notified s t a.val (namedIn l s.time a.val) := by
  obtain ⟨l0, hl0, h0⟩ := hu.posts
  obtain ⟨l1, hl1, h1⟩ := hw.posts
  have hall := ((hl0.trans hl).trans hl1).trans (posts_whenSettled s)
  have hn := notified_of_posts hall hs (by simp) a.val
  have hlast : namedIn [newNotice .settled .none 255 0 (placeAll (enterRunning s)).liveCount 1 false]
      (enterRunning s).time a.val = [] := by
    refine namedIn_eq_nil (fun n hn => .inl ?_) _
    rw [List.mem_singleton.1 hn]
    have := a.isLt
    simp only [newNotice]
    omega
  rw [namedIn_append, namedIn_append, namedIn_append, namedIn_eq_nil (fun n hn => .inl (h0 n hn)),
    namedIn_eq_nil (fun n hn => .inl (h1 n hn)), hlast] at hn
  intro hk
  have := hn ⟨by simp [DeviceState.erased], by simpa using hk.2.1, hk.2.2⟩
  simpa [State.noticesOf] using this

/-! ## Release marks of the event (R125) -/

theorem placeReleases_congr {s u : State} {a : Fin 64} (hr : u.assoc a = s.assoc a) (hk : u.slots a = s.slots a) :
    u.placeReleases a = s.placeReleases a := by
  funext c
  simp [State.placeReleases, State.lowestPending, State.pendingKeys, hr, hk]

theorem whenSettled_marks (s : State) : ∃ m, s.whenSettled.disp.marks = s.disp.marks ++ m ∧ ∀ b c,
    ((c == .settling && (s.assocDef b).defined) || decide ((s.assoc b).state = .settling) && s.placeReleases b c) = true ↔
      ∃ x ∈ m, b = x.assoc ∧ c = x.cls := by
  have hall : ∀ b, ∃ m, (placeAll (enterRunning s)).disp.marks = s.disp.marks ++ m ∧ ∀ c,
      (∃ x ∈ m, b = x.assoc ∧ c = x.cls) ↔ (s.assoc b).state = .settling ∧ s.placeReleases b c = true := by
    intro b
    obtain ⟨u, hu, hw⟩ := placeAll_around b (enterRunning s)
    obtain ⟨m0, hm0, hn0⟩ := hu.marks
    obtain ⟨m1, hm1, hn1⟩ := hw.marks
    have hrec : u.assoc b = s.assoc b := hu.record.trans (assoc_eq_of_assocs (by simp) b)
    have hslots : u.slots b = s.slots b := hu.slots.trans (slots_eq_of_keys (by simp) b)
    obtain ⟨m, hm, hiff⟩ : ∃ m, (placeIfSettling u b).disp.marks = u.disp.marks ++ m ∧ ∀ c,
        (∃ x ∈ m, b = x.assoc ∧ c = x.cls) ↔ (s.assoc b).state = .settling ∧ s.placeReleases b c = true := by
      unfold placeIfSettling
      rw [hrec]
      split
      · rename_i hs
        obtain ⟨m, hm, hiff⟩ := place_marks b u
        rw [placeReleases_congr hrec hslots] at hiff
        exact ⟨m, hm, fun c => by simp [hiff, hs]⟩
      · rename_i hs
        exact ⟨[], by simp, by simp [hs]⟩
    refine ⟨m0 ++ m ++ m1, by rw [hm1, hm, hm0]; simp, fun c => ?_⟩
    rw [← hiff]
    constructor
    · rintro ⟨x, hx, hb, hc⟩
      rcases List.mem_append.1 hx with hx | hx
      · rcases List.mem_append.1 hx with hx | hx
        · exact absurd hb.symm (hn0 x hx)
        · exact ⟨x, hx, hb, hc⟩
      · exact absurd hb.symm (hn1 x hx)
    · rintro ⟨x, hx, hb, hc⟩
      exact ⟨x, by simp [hx], hb, hc⟩
  obtain ⟨m, hm, -⟩ := hall 0
  have himage : (placeAll (enterRunning s)).image = s.image := by simp
  refine ⟨m ++ (placeAll (enterRunning s)).settlingMarks, ?_, fun b c => ?_⟩
  · have : s.whenSettled.disp.marks = (postSettlingMarks (placeAll (enterRunning s))).disp.marks := by
      simp [State.whenSettled, postSettled]
    rw [this, postSettlingMarks_marks, hm, List.append_assoc]
  · obtain ⟨m', hm', hiff⟩ := hall b
    obtain rfl : m' = m := List.append_cancel_left (hm'.symm.trans hm)
    have hset : (∃ x ∈ (placeAll (enterRunning s)).settlingMarks, b = x.assoc ∧ c = x.cls) ↔
        c = .settling ∧ (s.assocDef b).defined = true := by
      simp only [State.settlingMarks, assocDef_eq_of_image himage]
      constructor
      · rintro ⟨x, hx, rfl, rfl⟩
        obtain ⟨a, ha, rfl⟩ := List.mem_map.1 hx
        exact ⟨rfl, (List.mem_filter.1 ha).2⟩
      · rintro ⟨rfl, hb⟩
        exact ⟨_, List.mem_map.2 ⟨b, List.mem_filter.2 ⟨List.mem_finRange b, hb⟩, rfl⟩, rfl, rfl⟩
    simp only [List.mem_append, or_and_right, exists_or, hset, hiff]
    simp [or_comm]

/-! ## One association at the end of settle -/

section
variable {s u : State} {a : Fin 64} (hk : u.slots a = s.slots a)
include hk

theorem lowestPending_congr : u.lowestPending a = s.lowestPending a := by
  simp [State.lowestPending, State.pendingKeys, hk]

theorem discardNotices_congr (ht : u.time = s.time) (p : KeySlot → Bool) :
    u.discardNotices a p = s.discardNotices a p := by
  simp [State.discardNotices, State.keyNotice, hk, ht]

theorem placementNotices_congr (ht : u.time = s.time) (e : Nat) : u.placementNotices a e = s.placementNotices a e := by
  simp [State.placementNotices, State.keyNotice, hk, ht]

end

theorem keyNotice_congr {s u : State} (ht : u.time = s.time) : u.keyNotice = s.keyNotice := by
  funext k d a e
  simp [State.keyNotice, ht]

/-- Settles O6: the end of settle. -/
theorem settleExpiryPlacesKeys : Obligations.SettleExpiryPlacesKeys := by
  intro s hd hset
  have hs := finishEvent_settled s s.whenSettled
  obtain ⟨m, hm, hiff⟩ := whenSettled_marks s
  refine ⟨finishEvent s s.whenSettled, exec_settleTimerExpiry hd hset, by simp, by simp,
    by rw [hs.bus]; exact join_notMem_whenSettled s, by simp, by simp, by simp, by simp, hs.marks, by simp,
    releases_of_settled hs m _ (by simp) hm hiff, settled_last hs, fun a => ?_⟩
  obtain ⟨u, hu, hw⟩ := placeAll_around a (enterRunning s)
  have hrec : u.assoc a = s.assoc a := hu.record.trans (assoc_eq_of_assocs (by simp) a)
  have hslots : u.slots a = s.slots a := hu.slots.trans (slots_eq_of_keys (by simp) a)
  have htime : u.time = s.time := hu.time.trans (by simp)
  have htrec : (finishEvent s s.whenSettled).assoc a = (placeIfSettling u a).assoc a :=
    (assoc_eq_of_assocs (hs.assocs.trans (whenSettled_assocs s)) a).trans hw.record
  have htslots : (finishEvent s s.whenSettled).slots a = (placeIfSettling u a).slots a :=
    (slots_eq_of_keys (hs.keys.trans (whenSettled_keys s)) a).trans hw.slots
  refine ⟨fun hst => ?_, fun hst => ?_, fun e hst he j => ?_⟩
  · have hstay : placeIfSettling u a = u := if_neg (by rwa [hrec])
    rw [hstay] at htrec htslots
    refine ⟨htrec.trans hrec, htslots.trans hslots, ?_⟩
    exact notified_of_placement hs hu (l := []) (by rw [hstay]; exact posts_nil rfl rfl rfl rfl) hw
  · have hplace : placeIfSettling u a = place a u := if_pos (by rwa [hrec])
    rw [hplace] at htrec htslots
    have hnot : ∀ l, Posts u (place a u) l → Notified s (finishEvent s s.whenSettled) a.val (namedIn l s.time a.val) :=
      fun l hl => notified_of_placement hs hu (by rwa [hplace]) hw
    cases hv : (s.assoc a).settleView with
    | some v =>
      have hrun : place a u = placeInEpoch a v.epoch v.hwm u := by simp [place, hrec, hv]
      obtain ⟨h1, -, -, h4⟩ := placeInEpoch_spec a v.epoch v.hwm u
      have hlive := current_of_assignRoles a v.epoch u
      rw [← hrun] at h1 h4
      rw [hslots] at hlive
      have hn := hnot _ h4
      rw [← htime, namedIn_append, namedIn_append, namedIn_discardsIn, namedIn_wantedNotices, namedIn_placedIn,
        discardNotices_congr hslots htime, placementNotices_congr hslots htime, keyNotice_congr htime] at hn
      by_cases hc : ∃ j : Fin 4, (s.slots a)[j].role = .current ∨
          ((s.slots a)[j].role = .pending ∧ (s.slots a)[j].epoch = v.epoch)
      · rw [hlive.2 hc] at h1 hn
        dsimp only
        rw [htrec, h1, hrec, if_pos hc]
        exact ⟨rfl, hn⟩
      · rw [Bool.eq_false_iff.2 (mt hlive.1 hc)] at h1 hn
        dsimp only
        rw [htrec, h1, hrec, if_neg hc]
        exact ⟨rfl, hn⟩
    | none =>
      cases hf : s.lowestPending a with
      | none =>
        have hrun : place a u = u.modAssoc a (fun r => { r with state := .dormant }) := by
          simp [place, hrec, hv, lowestPending_congr hslots, hf]
        refine ⟨?_, hnot [] (by rw [hrun]; exact posts_nil rfl rfl rfl rfl)⟩
        rw [htrec, hrun, modAssoc_assoc_self, hrec]
      | some f =>
        have hrun : place a u = placeBlind a f u := by simp [place, hrec, hv, lowestPending_congr hslots, hf]
        obtain ⟨h1, h2, -, h4⟩ := placeBlind_spec a f u
        rw [← hrun] at h1 h2 h4
        dsimp only
        rw [htrec, h1, hrec]
        by_cases hend : f = 65535
        · rw [advanceAsked_of_end rfl (by simp [Assoc.blindIn, Assoc.epochOrZero, hend])]
          exact ⟨rfl, rfl, rfl, rfl, rfl, fun hne => absurd hend hne⟩
        · have hstandby : (finishEvent s s.whenSettled).slots a = (assignRoles a f u).slots a :=
            htslots.trans (slots_eq_of_keys (h2 hend) a)
          have hne : ((s.assoc a).blindIn f).epochOrZero ≠ 65535 := hend
          obtain ⟨p, hp⟩ := advanceAsked_of_not_end hne .blind (slotWithRole ((assignRoles a f u).slots a) .standby).isSome
          refine ⟨by rw [hp]; rfl, by rw [hp]; rfl, by rw [hp]; rfl, by rw [hp]; rfl, rfl,
            fun _ => ⟨by rw [hp]; rfl, fun hnone => ?_⟩⟩
          have hn := hnot _ (h4 hend (by rwa [hrec]))
          rw [← htime, namedIn_append, namedIn_append, namedIn_discardsIn, namedIn_wantedNotices, namedIn_placedIn,
            discardNotices_congr hslots htime, placementNotices_congr hslots htime, keyNotice_congr htime] at hn
          rw [advanceAsked_of_none rfl hne hnone, hstandby]
          refine ⟨rfl, ?_⟩
          cases hst : (slotWithRole ((assignRoles a f u).slots a) .standby).isSome <;> rw [hst] at hn <;> exact hn
  · have hplace : placeIfSettling u a = place a u := if_pos (by rwa [hrec])
    rw [hplace] at htslots
    have hkeys : (place a u).keys = (assignRoles a e u).keys := by
      rcases he with he | ⟨hv, hf, hne⟩
      · obtain ⟨v, hv, rfl⟩ := Option.map_eq_some_iff.1 he
        have hrun : place a u = placeInEpoch a v.epoch v.hwm u := by simp [place, hrec, hv]
        rw [hrun, (placeInEpoch_spec a v.epoch v.hwm u).2.1]
      · have hrun : place a u = placeBlind a e u := by simp [place, hrec, hv, lowestPending_congr hslots, hf]
        rw [hrun, (placeBlind_spec a e u).2.1 hne]
    rw [htslots, slots_eq_of_keys hkeys, assignRoles_slot_self, hslots]
    rfl

end Sys2Proof.Machine
end

section
/-! SUPPORT. Where the stored frames stand: each in one place, or in hand while an event moves it (R90, R98, R122, R142). -/

namespace Sys2Proof.Machine

/-! ## Lists that change in one place -/

/-- One list of several gains an element; the others stay. -/
theorem flatMap_perm_cons {α β : Type} [DecidableEq α] {l : List α} (hn : l.Nodup) {p : α} (hp : p ∈ l) {f g : α → List β}
    {x : β} (hne : ∀ q, q ≠ p → f q = g q) (h : (f p).Perm (x :: g p)) : (l.flatMap f).Perm (x :: l.flatMap g) := by
  have hl := List.perm_cons_erase hp
  have herase : (l.erase p).flatMap f = (l.erase p).flatMap g :=
    List.flatMap_congr fun q hq => hne q ((List.Nodup.mem_erase_iff hn).1 hq).1
  calc l.flatMap f
    _ |>.Perm ((p :: l.erase p).flatMap f) := hl.flatMap_right f
    _ |>.Perm (x :: (g p ++ (l.erase p).flatMap g)) := by
      rw [List.flatMap_cons, herase]
      exact h.append_right _
    _ |>.Perm (x :: l.flatMap g) := ((hl.flatMap_right g).symm).cons x

/-- The cells of frames that read alike. -/
theorem cellsOf_congr {s t : State} {l : List Nat} (h : ∀ x ∈ l, t.frame? x = s.frame? x) : t.cellsOf l = s.cellsOf l := by
  unfold State.cellsOf
  exact congrArg List.sum (List.map_congr_left fun x hx => by rw [h x hx])

theorem cellsOf_append (s : State) (l m : List Nat) : s.cellsOf (l ++ m) = s.cellsOf l + s.cellsOf m := by
  simp [State.cellsOf]

theorem cellsOf_perm (s : State) {l m : List Nat} (h : l.Perm m) : s.cellsOf l = s.cellsOf m :=
  (h.map _).sum_eq

/-! ## The places -/

/-- The frames of every queue. -/
def State.inQueues (s : State) : List Nat := (List.finRange 8).flatMap (fun q => s.buf.queues[q])

/-- The frames of the park list. -/
def State.inPark (s : State) : List Nat := s.disp.park.map (·.frame)

/-- The frames of the completion list. -/
def State.inLanes (s : State) : List Nat := s.lanes.completion.map (·.frame)

theorem placed_eq (s : State) : s.placed = s.inQueues ++ s.inPark ++ s.inLanes := rfl

theorem mem_inQueues {s : State} {h : Nat} : h ∈ s.inQueues ↔ ∃ q : Fin 8, h ∈ s.buf.queues[q] := by
  simp [State.inQueues]

/-- Each queue holds frames of its own that wait for dispatch, and counts their cells (R98). -/
structure QueuesKept (s : State) : Prop where
  frames : ∀ (q : Fin 8) (h : Nat) (d : Descriptor), h ∈ s.buf.queues[q] → s.frame? h = some d →
    d.queue = q ∧ d.assigned = none
  cells : ∀ q : Fin 8, s.buf.queueCells[q] = s.cellsOf s.buf.queues[q]

/-- The park list holds frames of the associations and queues its entries name, and counts their cells (R122). -/
structure ParkKept (s : State) : Prop where
  frames : ∀ (e : ParkEntry) (d : Descriptor), e ∈ s.disp.park → s.frame? e.frame = some d →
    d.action = .encrypt e.assoc ∧ d.queue = e.queue ∧ d.assigned = none
  cells : s.disp.parkedCells = s.cellsOf s.inPark

/-- The completion list agrees with its frames, the lanes and the campus transmitter (R132, R142, R143, R146). -/
structure LanesKept (s : State) : Prop where
  frames : ∀ (e : CompletionEntry) (d : Descriptor), e ∈ s.lanes.completion → s.frame? e.frame = some d →
    d.action = e.action ∧ d.queue = e.queue
  inFlight : ∀ q : Fin 8, s.lanes.inFlight[q] = s.lanes.completion.countP (fun e => e.queue == q)
  lanes : ∀ (l : Fin 4) (h : Nat), (s.lane l).frame? = some h →
    (∀ m : Fin 4, (s.lane m).frame? = some h → m = l) ∧
    ∃ e ∈ s.lanes.completion, e.frame = h ∧ ∀ d, s.frame? h = some d → (s.lane l).holds d e
  unfinished : ∀ e ∈ s.lanes.completion, e.finished = false → ∃ l : Fin 4, (s.lane l).frame? = some e.frame
  sending : ∀ f, s.campus.sending = some f → ∃ e rest d, s.lanes.completion = e :: rest ∧ e.finished = true ∧
    s.frame? e.frame = some d ∧ f = withFcs (outputBytes e d.data)

/-- Every stored frame stands in one place, but for those in hand, which stand in none. -/
structure Housed (hand : List Nat) (s : State) : Prop where
  sorted : tableSorted s.buf.pool
  nodup : (hand ++ s.placed).Nodup
  stored : ∀ h, h ∈ hand ++ s.placed ↔ (s.frame? h).isSome = true
  queues : QueuesKept s
  park : ParkKept s
  lanes : LanesKept s

theorem housed_iff {s : State} : Housed [] s ↔ tableSorted s.buf.pool ∧ FramesAccounted s := by
  constructor
  · rintro ⟨hs, hn, hp, ⟨hq, hqc⟩, ⟨hk, hkc⟩, ⟨hf, hi, hl, hu, hc⟩⟩
    exact ⟨hs, hn, hp, hq, hk, hf, hqc, hkc, hi, hl, hu, hc⟩
  · rintro ⟨hs, hn, hp, hq, hk, hf, hqc, hkc, hi, hl, hu, hc⟩
    exact ⟨hs, hn, hp, ⟨hq, hqc⟩, ⟨hk, hkc⟩, ⟨hf, hi, hl, hu, hc⟩⟩

variable {hand : List Nat} {s t : State}

/-! ## What reads alike is kept alike -/

theorem QueuesKept.congr (h : QueuesKept s) (hq : t.buf.queues = s.buf.queues) (hc : t.buf.queueCells = s.buf.queueCells)
    (hf : ∀ x ∈ s.inQueues, t.frame? x = s.frame? x) : QueuesKept t := by
  have hin : ∀ (q : Fin 8), ∀ x ∈ s.buf.queues[q], t.frame? x = s.frame? x :=
    fun q x hx => hf x (mem_inQueues.2 ⟨q, hx⟩)
  refine ⟨fun q x d hx hd => ?_, fun q => ?_⟩
  · rw [hq] at hx
    exact h.frames q x d hx ((hin q x hx).symm.trans hd)
  · rw [hc, hq, cellsOf_congr (hin q)]
    exact h.cells q

/-- What an entry of the park list says of its frame's place. -/
def ParkEntry.place (e : ParkEntry) : Nat × Fin 64 × Fin 8 := (e.frame, e.assoc, e.queue)

theorem inPark_congr (hp : t.disp.park.map ParkEntry.place = s.disp.park.map ParkEntry.place) : t.inPark = s.inPark := by
  have h := congrArg (List.map Prod.fst) hp
  rwa [List.map_map, List.map_map] at h

theorem ParkKept.congr (h : ParkKept s) (hp : t.disp.park.map ParkEntry.place = s.disp.park.map ParkEntry.place)
    (hc : t.disp.parkedCells = s.disp.parkedCells) (hf : ∀ x ∈ s.inPark, t.frame? x = s.frame? x) : ParkKept t := by
  refine ⟨fun e d he hd => ?_, ?_⟩
  · have hm : e.place ∈ s.disp.park.map ParkEntry.place := hp ▸ List.mem_map_of_mem he
    obtain ⟨x, hx, hxe⟩ := List.mem_map.1 hm
    obtain ⟨hxf, hxa, hxq⟩ : x.frame = e.frame ∧ x.assoc = e.assoc ∧ x.queue = e.queue := by
      simpa [ParkEntry.place] using hxe
    have hfx := hf x.frame (List.mem_map_of_mem hx)
    rw [hxf] at hfx
    have hd' : s.frame? x.frame = some d := by rw [hxf, ← hfx, hd]
    rw [← hxa, ← hxq]
    exact h.frames x d hx hd'
  · rw [hc, inPark_congr hp, cellsOf_congr hf]
    exact h.cells

theorem LanesKept.congr (h : LanesKept s) (hl : t.lanes = s.lanes) (hc : t.campus.sending = s.campus.sending)
    (hf : ∀ x ∈ s.inLanes, t.frame? x = s.frame? x) : LanesKept t := by
  have hlane : ∀ l, t.lane l = s.lane l := lane_eq_of_lanes (congrArg Lanes.lanes hl)
  have hin : ∀ e ∈ s.lanes.completion, t.frame? e.frame = s.frame? e.frame := fun e he => hf _ (List.mem_map_of_mem he)
  refine ⟨fun e d he hd => ?_, fun q => ?_, fun l f hlf => ?_, fun e he hu => ?_, fun f hs => ?_⟩
  · rw [hl] at he
    exact h.frames e d he ((hin e he).symm.trans hd)
  · rw [hl]
    exact h.inFlight q
  · rw [hlane] at hlf
    obtain ⟨hone, e, he, hef, hd⟩ := h.lanes l f hlf
    refine ⟨fun m hm => hone m (by rwa [hlane] at hm), e, by rwa [hl], hef, fun d hfd => ?_⟩
    rw [hlane]
    exact hd d (by rw [← hef] at hfd ⊢; rwa [← hin e he])
  · rw [hl] at he
    obtain ⟨l, hlf⟩ := h.unfinished e he hu
    exact ⟨l, by rwa [hlane]⟩
  · rw [hc] at hs
    obtain ⟨e, rest, d, hcomp, hfin, hd, hout⟩ := h.sending f hs
    exact ⟨e, rest, d, by rw [hl, hcomp], hfin, by rw [hin e (by simp [hcomp]), hd], hout⟩

/-- Nothing that the places of frames rest on differs: pool, queues, park list, lanes and campus transmitter. -/
structure SameFrames (s t : State) : Prop where
  pool : t.buf.pool = s.buf.pool
  queues : t.buf.queues = s.buf.queues
  queueCells : t.buf.queueCells = s.buf.queueCells
  park : t.disp.park.map ParkEntry.place = s.disp.park.map ParkEntry.place
  parkedCells : t.disp.parkedCells = s.disp.parkedCells
  lanes : t.lanes = s.lanes
  sending : t.campus.sending = s.campus.sending

theorem sameFrames_of (h : t.buf = s.buf ∧ t.disp.park = s.disp.park ∧ t.disp.parkedCells = s.disp.parkedCells ∧
    t.lanes = s.lanes ∧ t.campus.sending = s.campus.sending) : SameFrames s t := by
  obtain ⟨hb, hp, hc, hl, hs⟩ := h
  exact ⟨by rw [hb], by rw [hb], by rw [hb], by rw [hp], hc, hl, hs⟩

theorem SameFrames.trans {u : State} (h : SameFrames s t) (k : SameFrames t u) : SameFrames s u :=
  ⟨k.pool.trans h.pool, k.queues.trans h.queues, k.queueCells.trans h.queueCells, k.park.trans h.park,
    k.parkedCells.trans h.parkedCells, k.lanes.trans h.lanes, k.sending.trans h.sending⟩

theorem SameFrames.frame? (h : SameFrames s t) (x : Nat) : t.frame? x = s.frame? x := frame?_eq_of_pool h.pool x

theorem SameFrames.placed (h : SameFrames s t) : t.placed = s.placed := by
  rw [placed_eq, placed_eq, inPark_congr h.park, State.inQueues, State.inLanes, h.queues, h.lanes]
  rfl

theorem Housed.same (h : Housed hand s) (k : SameFrames s t) : Housed hand t where
  sorted := by rw [k.pool]; exact h.sorted
  nodup := by rw [k.placed]; exact h.nodup
  stored x := by rw [k.placed, k.frame?]; exact h.stored x
  queues := h.queues.congr k.queues k.queueCells fun x _ => k.frame? x
  park := h.park.congr k.park k.parkedCells fun x _ => k.frame? x
  lanes := h.lanes.congr k.lanes k.sending fun x _ => k.frame? x

theorem Housed.frame?_of_mem (h : Housed hand s) {x : Nat} (hx : x ∈ hand ++ s.placed) : ∃ d, s.frame? x = some d :=
  Option.isSome_iff_exists.1 ((h.stored x).1 hx)

/-- A frame in hand stands in no place. -/
theorem Housed.not_placed {f : Nat} (h : Housed (f :: hand) s) : f ∉ hand ++ s.placed :=
  (List.nodup_cons.1 h.nodup).1

/-- The frames in the places, as two states differ by one frame that changes place. -/
theorem Housed.perm {hand' : List Nat} (h : Housed hand s) (hp : (hand' ++ t.placed).Perm (hand ++ s.placed))
    (hf : ∀ x, (t.frame? x).isSome = (s.frame? x).isSome) :
    (hand' ++ t.placed).Nodup ∧ ∀ x, x ∈ hand' ++ t.placed ↔ (t.frame? x).isSome = true :=
  ⟨hp.nodup_iff.2 h.nodup, fun x => by rw [hp.mem_iff, hf, h.stored x]⟩

/-! ## A frame in hand is released (R90) -/

theorem releaseFrame_sorted (h : Nat) {s : State} (hs : tableSorted s.buf.pool) :
    tableSorted (releaseFrame h s).buf.pool := by
  unfold releaseFrame
  split
  · rw [pauseTest_pool]
    exact tableErase_sorted _ _ hs
  · exact hs

theorem releaseFrame_placed (h : Nat) (s : State) : (releaseFrame h s).placed = s.placed := by
  simp only [State.placed, releaseFrame_frame]

theorem Housed.releaseFrame {f : Nat} (h : Housed (f :: hand) s) : Housed hand (releaseFrame f s) := by
  obtain ⟨hn, hnd⟩ := List.nodup_cons.1 h.nodup
  have hf : ∀ x, x ≠ f → (Machine.releaseFrame f s).frame? x = s.frame? x :=
    fun x hx => (releaseFrame_frame? f s x).trans (if_neg hx)
  have hsame : ∀ x ∈ s.placed, (Machine.releaseFrame f s).frame? x = s.frame? x :=
    fun x hx => hf x fun he => hn (he ▸ List.mem_append_right _ hx)
  rw [placed_eq] at hsame
  refine ⟨releaseFrame_sorted f h.sorted, by rwa [releaseFrame_placed], fun x => ?_,
    h.queues.congr (by simp) (by simp) fun x hx => hsame x (by simp [hx]),
    h.park.congr (by simp) (by simp) fun x hx => hsame x (by simp [hx]),
    h.lanes.congr (by simp) (by simp) fun x hx => hsame x (by simp [hx])⟩
  have hx := h.stored x
  rw [releaseFrame_placed, releaseFrame_frame?]
  by_cases he : x = f
  · subst he
    simpa using hn
  · rw [if_neg he, ← hx]
    simp [he]

end Sys2Proof.Machine
end

section
/-! SUPPORT. Where the stored frames stand while the dispatcher moves them (R98, R115, R122, R132, R146). -/

namespace Sys2Proof.Machine

variable {hand : List Nat} {s t : State}

/-! ## A frame leaves its queue or joins one (R96, R98) -/

theorem inQueues_perm {p : Fin 8} {x : Nat} (hne : ∀ q : Fin 8, q ≠ p → s.buf.queues[q] = t.buf.queues[q])
    (h : (s.buf.queues[p]).Perm (x :: t.buf.queues[p])) : (s.inQueues).Perm (x :: t.inQueues) :=
  flatMap_perm_cons (List.nodup_finRange 8) (List.mem_finRange p) hne h

/-- The frames in the places once one more stands in a queue. -/
theorem placed_perm_of_queue {x : Nat} (h : (s.inQueues).Perm (x :: t.inQueues)) (hp : s.inPark = t.inPark)
    (hl : s.inLanes = t.inLanes) : (s.placed).Perm (x :: t.placed) := by
  rw [placed_eq, placed_eq, hp, hl]
  exact (h.append_right _).append_right _

theorem takeHead_queue (q p : Fin 8) (rest : List Nat) (n : Nat) (s : State) :
    (takeHead q rest n s).buf.queues[p] = if p = q then rest else s.buf.queues[p] := queue_set_get _ _ _ _

theorem takeHead_cells (q p : Fin 8) (rest : List Nat) (n : Nat) (s : State) :
    (takeHead q rest n s).buf.queueCells[p] = if p = q then s.buf.queueCells[q] - n else s.buf.queueCells[p] :=
  queue_set_get _ _ _ _

/-- The head of a queue is in hand once it is taken. -/
theorem Housed.takeHead {q : Fin 8} {f : Nat} {rest : List Nat} {d : Descriptor} (h : Housed [] s)
    (hq : s.buf.queues[q] = f :: rest) (hd : s.frame? f = some d) : Housed [f] (takeHead q rest d.cells s) := by
  have hperm : (s.placed).Perm (f :: (Machine.takeHead q rest d.cells s).placed) := by
    refine placed_perm_of_queue (inQueues_perm (p := q) (fun p hp => ?_) ?_) rfl rfl
    · rw [takeHead_queue, if_neg hp]
    · rw [takeHead_queue, if_pos rfl, hq]
  obtain ⟨hn, hs⟩ := h.perm (hand' := [f]) (t := Machine.takeHead q rest d.cells s) hperm.symm fun _ => rfl
  refine ⟨h.sorted, hn, hs, ⟨fun p x d' hx => h.queues.frames p x d' ?_, fun p => ?_⟩,
    h.park.congr rfl rfl fun _ _ => rfl, h.lanes.congr rfl rfl fun _ _ => rfl⟩
  · rw [takeHead_queue] at hx
    split at hx
    · rename_i hp
      rw [hp, hq]
      exact List.mem_cons_of_mem _ hx
    · exact hx
  · rw [takeHead_queue, takeHead_cells]
    by_cases hp : p = q
    · have hc := h.queues.cells q
      rw [hq, cellsOf_cons hd] at hc
      rw [if_pos hp, if_pos hp, hc]
      exact Nat.add_sub_cancel_left _ _
    · rw [if_neg hp, if_neg hp]
      exact h.queues.cells p

/-! ## A frame leaves the park list or joins it (R122) -/

theorem Housed.inPark_nodup (h : Housed hand s) : s.inPark.Nodup := by
  have hn := (List.nodup_append.1 h.nodup).2.1
  rw [placed_eq] at hn
  exact (List.nodup_append.1 (List.nodup_append.1 hn).1).2.1

/-- An entry is the only one of its frame. -/
theorem Housed.park_unique (h : Housed hand s) {e x : ParkEntry} (he : e ∈ s.disp.park) (hx : x ∈ s.disp.park)
    (hf : x.frame = e.frame) : x = e := by
  exact List.inj_on_of_nodup_map h.inPark_nodup hx he hf

theorem filter_ne_perm {l : List Nat} {x : Nat} (hn : l.Nodup) (hx : x ∈ l) :
    l.Perm (x :: l.filter (fun y => y != x)) := by
  rw [← List.Nodup.erase_eq_filter hn]
  exact List.perm_cons_erase hx

theorem map_filter_frame (l : List ParkEntry) (f : Nat) :
    (l.filter (fun e => e.frame != f)).map (·.frame) = (l.map (·.frame)).filter (fun y => y != f) := by
  rw [List.filter_map]
  rfl

theorem unpark_inPark (f n : Nat) (s : State) : (unpark f n s).inPark = s.inPark.filter (fun y => y != f) :=
  map_filter_frame _ f

/-- The frame of a park entry is in hand once the entry has left. -/
theorem Housed.unpark {e : ParkEntry} {d : Descriptor} (h : Housed [] s) (he : e ∈ s.disp.park)
    (hd : s.frame? e.frame = some d) : Housed [e.frame] (unpark e.frame d.cells s) := by
  have hn := h.inPark_nodup
  have hpark := filter_ne_perm hn (List.mem_map_of_mem he)
  rw [← unpark_inPark e.frame d.cells] at hpark
  have hperm : ((Machine.unpark e.frame d.cells s).placed).Perm (s.inQueues ++ (Machine.unpark e.frame d.cells s).inPark ++
    s.inLanes) := .refl _
  have hall : ([e.frame] ++ (Machine.unpark e.frame d.cells s).placed).Perm ([] ++ s.placed) := by
    rw [List.nil_append, placed_eq s]
    refine (hperm.cons _).trans ?_
    rw [← List.cons_append]
    refine List.Perm.append_right _ ?_
    exact (List.perm_middle.symm).trans (hpark.symm.append_left _)
  obtain ⟨hnd, hs⟩ := h.perm hall fun _ => rfl
  refine ⟨h.sorted, hnd, hs, h.queues.congr rfl rfl fun _ _ => rfl,
    ⟨fun x d' hx => h.park.frames x d' (List.mem_filter.1 hx).1, ?_⟩, h.lanes.congr rfl rfl fun _ _ => rfl⟩
  have hc := h.park.cells
  rw [cellsOf_perm s hpark, cellsOf_cons hd] at hc
  change s.disp.parkedCells - d.cells = s.cellsOf _
  rw [hc]
  exact Nat.add_sub_cancel_left _ _

/-- A frame in hand joins the park list. -/
theorem Housed.joinPark {e : ParkEntry} {d : Descriptor} (h : Housed [e.frame] s) (hd : s.frame? e.frame = some d)
    (ha : d.action = .encrypt e.assoc) (hq : d.queue = e.queue) (hx : d.assigned = none) :
    Housed [] { s with disp := { s.disp with
      park := s.disp.park ++ [e], parkedCells := s.disp.parkedCells + d.cells } } := by
  set u : State := { s with disp := { s.disp with
      park := s.disp.park ++ [e], parkedCells := s.disp.parkedCells + d.cells } } with hu
  have hpark : u.inPark = s.inPark ++ [e.frame] := by simp [State.inPark, hu]
  have hperm : ([] ++ u.placed).Perm ([e.frame] ++ s.placed) := by
    rw [List.nil_append, placed_eq, placed_eq, hpark, ← List.append_assoc]
    exact (List.perm_append_singleton _ _).append_right _
  obtain ⟨hnd, hs⟩ := h.perm hperm fun _ => rfl
  refine ⟨h.sorted, hnd, hs, h.queues.congr rfl rfl fun _ _ => rfl, ⟨fun x d' hx' hd' => ?_, ?_⟩,
    h.lanes.congr rfl rfl fun _ _ => rfl⟩
  · rcases List.mem_append.1 hx' with hx' | hx'
    · exact h.park.frames x d' hx' hd'
    · rw [List.mem_singleton.1 hx'] at hd' ⊢
      obtain rfl : d = d' := Option.some.inj (hd.symm.trans hd')
      exact ⟨ha, hq, hx⟩
  · have hcell : s.cellsOf [e.frame] = d.cells := by rw [cellsOf_cons hd]; rfl
    rw [hpark]
    change s.disp.parkedCells + d.cells = s.cellsOf _
    rw [cellsOf_append, hcell, h.park.cells]

/-- A re-park leaves every entry with its frame, association and queue (R126). -/
theorem map_place_regroup (e : ParkEntry) (c : ExcClass) (l : List ParkEntry) :
    (l.map (e.regroup c)).map ParkEntry.place = l.map ParkEntry.place := by
  rw [List.map_map]
  refine List.map_congr_left fun x _ => ?_
  simp only [Function.comp_apply, ParkEntry.regroup, ParkEntry.place]
  split <;> rfl

theorem sameFrames_repark (e : ParkEntry) (c : ExcClass) (s : State) : SameFrames s (repark e c s) where
  pool := by rw [(repark_buf e c s).1]
  queues := by rw [(repark_buf e c s).1]
  queueCells := by rw [(repark_buf e c s).1]
  park := by rw [repark_park, map_place_regroup]
  parkedCells := (repark_buf e c s).2
  lanes := by simp
  sending := by simp

/-! ## A frame in hand is dropped or parked (R113, R118, R123) -/

theorem Housed.dropFrame {f : Nat} (h : Housed (f :: hand) s) (d : Descriptor) (c : ExcClass) (v : Nat) :
    Housed hand (dropFrame f d c v s) := by
  unfold Machine.dropFrame
  split
  · exact Housed.releaseFrame (h.same (sameFrames_of (by simp)))
  · exact Housed.releaseFrame (h.same (sameFrames_of (by simp)))

theorem Housed.parkFrame {f : Nat} {d : Descriptor} {a : Fin 64} (h : Housed [f] s) (hd : s.frame? f = some d)
    (ha : d.action = .encrypt a) (hx : d.assigned = none) (c : ExcClass) (b : Bool) :
    Housed [] (parkFrame a f d c b s) := by
  unfold Machine.parkFrame
  split
  · exact h.dropFrame d _ _
  · exact (h.joinPark (e := ⟨f, a, d.queue, c, b, s.time, 0⟩) hd ha rfl hx).same (sameFrames_of (by simp))

/-! ## A frame in hand enters a lane (R115, R133, R146) -/

/-- What the dispatcher records with a frame agrees with its action: a slot of its association, and none for a CLEAR frame. -/
def Descriptor.fitsLane (d : Descriptor) (x : Option Assigned) : Prop :=
  match x with
  | some y => d.action = .encrypt y.slot.assoc
  | none => d.action = .clear

/-- The lane that takes a frame at a hand-off (R132, R133). -/
def laneFor (f : Nat) : Option Assigned → Lane
  | some y => .keying f y.slot
  | none => .passing f

theorem laneFor_frame? (f : Nat) (x : Option Assigned) : (laneFor f x).frame? = some f := by
  cases x <;> rfl

/-- What a hand-off with an idle lane comes to. -/
structure HandsOff (s t : State) (f : Nat) (d : Descriptor) (x : Option Assigned) (l : Fin 4) : Prop where
  lane : ∀ m, t.lane m = if m = l then laneFor f x else s.lane m
  completion : t.lanes.completion = s.lanes.completion ++ [completionEntry s f d x]
  inFlight : ∀ q : Fin 8, t.lanes.inFlight[q] = s.lanes.inFlight[q] + if q = d.queue then 1 else 0
  pool : t.buf.pool = tablePut s.buf.pool f { d with assigned := x }

theorem handsOff_handOff {l : Fin 4} (hl : s.idleLane? = some l) (f : Nat) (d : Descriptor) (x : Option Assigned) :
    HandsOff s (handOff f d x s) f d x l := by
  have he : ∀ y : Lane, y = laneFor f x → ∀ m, (s.setLane l y).lane m = if m = l then laneFor f x else s.lane m := by
    rintro y rfl m
    by_cases hm : m = l
    · rw [hm, setLane_lane_self, if_pos rfl]
    · rw [setLane_lane_ne s _ hm, if_neg hm]
  unfold Machine.handOff
  rw [hl]
  refine ⟨?_, rfl, fun q => ?_, rfl⟩
  · cases x with
    | none => exact he _ rfl
    | some y => exact he _ rfl
  · change (s.lanes.inFlight.set d.queue (s.lanes.inFlight[d.queue] + 1))[q] = _
    rw [queue_set_get]
    split
    · rename_i hq; rw [hq]
    · rfl

theorem idleLane?_idle {l : Fin 4} (h : s.idleLane? = some l) : s.lane l = .idle := by
  simpa using List.find?_some h

theorem handOff_sameQueues (f : Nat) (d : Descriptor) (x : Option Assigned) (s : State) :
    (handOff f d x s).buf.queues = s.buf.queues ∧ (handOff f d x s).buf.queueCells = s.buf.queueCells ∧
      (handOff f d x s).disp = s.disp ∧ (handOff f d x s).campus = s.campus := by
  unfold handOff
  split <;> simp

theorem Housed.handOff {f : Nat} {d : Descriptor} {x : Option Assigned} {l : Fin 4} (h : Housed [f] s)
    (hd : s.frame? f = some d) (hx : d.fitsLane x) (hl : s.idleLane? = some l) : Housed [] (handOff f d x s) := by
  obtain ⟨hlane, hcomp, hin, hpool⟩ := handsOff_handOff hl f d x
  obtain ⟨hqs, hqc, hdisp, hcampus⟩ := handOff_sameQueues f d x s
  set t := Machine.handOff f d x s
  have hf : ∀ y, t.frame? y = if y = f then some { d with assigned := x } else s.frame? y := fun y => by
    unfold State.frame?
    rw [hpool, tableGet_tablePut _ _ _ _ h.sorted]
  have hsame : ∀ y ∈ s.placed, t.frame? y = s.frame? y :=
    fun y hy => (hf y).trans (if_neg fun he : y = f => h.not_placed (by simpa [he] using hy))
  have hlanes : t.inLanes = s.inLanes ++ [f] := by
    rw [State.inLanes, hcomp, List.map_append]
    rfl
  have hperm : ([] ++ t.placed).Perm ([f] ++ s.placed) := by
    rw [List.nil_append, placed_eq, placed_eq, hlanes, State.inQueues, hqs, State.inPark, hdisp, ← List.append_assoc]
    exact List.perm_append_singleton _ _
  have hsome : ∀ y, (t.frame? y).isSome = (s.frame? y).isSome := fun y => by
    rw [hf y]
    split
    · rename_i hy; rw [hy, hd]; rfl
    · rfl
  obtain ⟨hnd, hs⟩ := h.perm hperm hsome
  rw [placed_eq] at hsame
  have hnew : (completionEntry s f d x).frame = f := rfl
  have hentry : ∀ e ∈ s.lanes.completion, e.frame ≠ f :=
    fun e he hef => h.not_placed (by rw [placed_eq, ← hef]; simp [State.inLanes, List.mem_map_of_mem he])
  have hlf : ∀ m k, m ≠ l → (t.lane m).frame? = some k → (s.lane m).frame? = some k ∧ k ≠ f := by
    intro m k hm hk
    rw [hlane, if_neg hm] at hk
    obtain ⟨-, e, he, hek, -⟩ := h.lanes.lanes m k hk
    exact ⟨hk, hek ▸ hentry e he⟩
  have hself : (t.lane l).frame? = some f := by rw [hlane, if_pos rfl, laneFor_frame?]
  refine ⟨by rw [hpool]; exact tablePut_sorted _ _ _ h.sorted, hnd, hs,
    h.queues.congr hqs hqc fun y hy => hsame y (by simp [hy]),
    h.park.congr (by rw [hdisp]) (by rw [hdisp]) fun y hy => hsame y (by simp [hy]), ?_⟩
  refine ⟨fun e d' he hd' => ?_, fun q => ?_, fun m k hk => ?_, fun e he hu => ?_, fun w hw => ?_⟩
  · rw [hcomp] at he
    rcases List.mem_append.1 he with he | he
    · rw [hsame e.frame (by simp [State.inLanes, List.mem_map_of_mem he])] at hd'
      exact h.lanes.frames e d' he hd'
    · rw [List.mem_singleton.1 he, hnew, hf, if_pos rfl] at hd'
      rw [List.mem_singleton.1 he]
      cases hd'
      exact ⟨rfl, rfl⟩
  · rw [hin, h.lanes.inFlight, hcomp, List.countP_append]
    simp only [List.countP_singleton, completionEntry, beq_iff_eq, eq_comm (a := q)]
  · by_cases hm : m = l
    · subst hm
      rw [hself] at hk
      cases hk
      refine ⟨fun m' hm' => ?_, completionEntry s f d x, by rw [hcomp]; simp, rfl, fun d' hd' => ?_⟩
      · by_contra hne
        exact (hlf m' f hne hm').2 rfl
      · rw [hf, if_pos rfl] at hd'
        cases hd'
        rw [hlane, if_pos rfl]
        refine ⟨rfl, ?_⟩
        cases x with
        | none => exact hx
        | some y => exact ⟨hx, rfl⟩
    · obtain ⟨hks, hkf⟩ := hlf m k hm hk
      obtain ⟨hone, e, he, hek, hdk⟩ := h.lanes.lanes m k hks
      refine ⟨fun m' hm' => ?_, e, by rw [hcomp]; simp [he], hek, fun d' hd' => ?_⟩
      · by_cases hml : m' = l
        · rw [hml, hself] at hm'
          exact absurd (Option.some.inj hm').symm hkf
        · exact hone m' (hlf m' k hml hm').1
      · rw [hf, if_neg hkf] at hd'
        rw [hlane, if_neg hm]
        exact hdk d' hd'
  · rw [hcomp] at he
    rcases List.mem_append.1 he with he | he
    · obtain ⟨m, hm⟩ := h.lanes.unfinished e he hu
      have hml : m ≠ l := fun hml => by
        rw [hml, idleLane?_idle hl] at hm
        cases hm
      exact ⟨m, by rw [hlane, if_neg hml, hm]⟩
    · rw [List.mem_singleton.1 he]
      exact ⟨l, hself⟩
  · rw [hcampus] at hw
    obtain ⟨e, rest, d', hc, hfin, hd', hout⟩ := h.lanes.sending w hw
    have he : e ∈ s.lanes.completion := by simp [hc]
    refine ⟨e, rest ++ [completionEntry s f d x], d', by rw [hcomp, hc]; rfl, hfin, ?_, hout⟩
    rw [hf, if_neg (hentry e he), hd']

end Sys2Proof.Machine
end

section
/-! SUPPORT. Where the stored frames stand when they leave a lane or the part, and when they arrive (R90, R96, R128, R135, R137,
R143). -/

namespace Sys2Proof.Machine

variable {hand : List Nat} {s t : State}

/-! ## Completion entries and lanes -/

theorem Housed.inLanes_nodup (h : Housed hand s) : s.inLanes.Nodup := by
  have hn := (List.nodup_append.1 h.nodup).2.1
  rw [placed_eq] at hn
  exact (List.nodup_append.1 hn).2.1

/-- An entry is the only one of its frame. -/
theorem Housed.entry_unique (h : Housed hand s) {e x : CompletionEntry} (he : e ∈ s.lanes.completion)
    (hx : x ∈ s.lanes.completion) (hf : x.frame = e.frame) : x = e :=
  List.inj_on_of_nodup_map h.inLanes_nodup hx he hf

/-- What stands in a lane has its completion entry and its descriptor. -/
theorem Housed.lane_frame (h : Housed hand s) {l : Fin 4} {f : Nat} (hf : (s.lane l).frame? = some f) :
    ∃ e ∈ s.lanes.completion, ∃ d, e.frame = f ∧ s.frame? f = some d ∧ d.queue = e.queue ∧ (s.lane l).holds d e := by
  obtain ⟨-, e, he, hef, hd⟩ := h.lanes.lanes l f hf
  have hin : f ∈ hand ++ s.placed := by rw [placed_eq, ← hef]; simp [State.inLanes, List.mem_map_of_mem he]
  obtain ⟨d, hfd⟩ := h.frame?_of_mem hin
  exact ⟨e, he, d, hef, hfd, (h.lanes.frames e d he (hef ▸ hfd)).2, hd d hfd⟩

theorem inLanes_filter (l : List CompletionEntry) (f : Nat) :
    (l.filter (fun e => e.frame != f)).map (·.frame) = (l.map (·.frame)).filter (fun y => y != f) := by
  rw [List.filter_map]
  rfl

/-- Among entries of different frames, one is that of its frame. -/
theorem entries_perm {l : List CompletionEntry} (hn : (l.map (·.frame)).Nodup) {e : CompletionEntry} (he : e ∈ l) :
    l.Perm (e :: l.filter (fun x => x.frame != e.frame)) := by
  have hl : l.Nodup := hn.of_map
  refine (List.perm_ext_iff_of_nodup hl (List.nodup_cons.2 ⟨by simp, hl.filter _⟩)).2 fun x => ?_
  have huniq : x ∈ l → x.frame = e.frame → x = e := fun hx hf => List.inj_on_of_nodup_map hn hx he hf
  by_cases hx : x = e
  · simp [hx, he]
  · simp only [List.mem_cons, hx, false_or, List.mem_filter, bne_iff_ne, iff_self_and]
    exact fun hm hf => hx (huniq hm hf)

/-- The entry of a frame leaves the completion list with its frame, which leaves its lane if it is in one (R137, R143). -/
structure DropsEntry (s t : State) (e : CompletionEntry) : Prop where
  lane : ∀ m, t.lane m = if (s.lane m).frame? = some e.frame then .idle else s.lane m
  completion : t.lanes.completion = s.lanes.completion.filter (fun x => x.frame != e.frame)
  frames : ∀ x, t.frame? x = if x = e.frame then none else s.frame? x
  inFlight : ∀ q : Fin 8, t.lanes.inFlight[q] = if q = e.queue then s.lanes.inFlight[q] - 1 else s.lanes.inFlight[q]
  sorted : tableSorted t.buf.pool
  queues : t.buf.queues = s.buf.queues
  queueCells : t.buf.queueCells = s.buf.queueCells
  park : t.disp.park = s.disp.park
  parkedCells : t.disp.parkedCells = s.disp.parkedCells
  sending : ∀ w, t.campus.sending = some w → s.campus.sending = some w ∧ e.finished = false

/-- The lanes and the completion list agree once an entry has left. -/
theorem LanesKept.dropsEntry {e : CompletionEntry} (h : LanesKept s) (hn : s.inLanes.Nodup)
    (he : e ∈ s.lanes.completion) (k : DropsEntry s t e) : LanesKept t := by
  have hother : ∀ x, x ≠ e.frame → t.frame? x = s.frame? x := fun x hx => (k.frames x).trans (if_neg hx)
  have hsub : ∀ x ∈ t.lanes.completion, x ∈ s.lanes.completion ∧ x.frame ≠ e.frame := fun x hx => by
    rw [k.completion] at hx
    simpa using List.mem_filter.1 hx
  have hentry : ∀ x ∈ s.lanes.completion, x.frame ≠ e.frame → x ∈ t.lanes.completion := fun x hx hne => by
    rw [k.completion]
    exact List.mem_filter.2 ⟨hx, by simpa using hne⟩
  have hlane : ∀ m f, (t.lane m).frame? = some f → t.lane m = s.lane m ∧ f ≠ e.frame := by
    intro m f hf
    rw [k.lane] at hf ⊢
    split at hf
    · cases hf
    · rename_i hm
      exact ⟨if_neg hm, fun hfe => hm (hfe ▸ hf)⟩
  refine ⟨fun x d hx hd => ?_, fun q => ?_, fun m f hf => ?_, fun x hx hu => ?_, fun w hw => ?_⟩
  · obtain ⟨hx, hne⟩ := hsub x hx
    exact h.frames x d hx ((hother _ hne).symm.trans hd)
  · have hcount := (entries_perm hn he).countP_eq (fun x => x.queue == q)
    rw [← k.completion, List.countP_cons, ← h.inFlight q] at hcount
    rw [k.inFlight q, hcount]
    simp only [beq_iff_eq, eq_comm (a := q)]
    split <;> rfl
  · obtain ⟨hm, hfe⟩ := hlane m f hf
    rw [hm] at hf ⊢
    obtain ⟨hone, x, hx, hxf, hd⟩ := h.lanes m f hf
    exact ⟨fun m' hm' => hone m' ((hlane m' f hm').1 ▸ hm'), x, hentry x hx (hxf ▸ hfe), hxf,
      fun d hd' => hd d ((hother f hfe).symm.trans hd')⟩
  · obtain ⟨hx, hne⟩ := hsub x hx
    obtain ⟨m, hm⟩ := h.unfinished x hx hu
    refine ⟨m, ?_⟩
    rw [k.lane, if_neg fun hme => hne (Option.some.inj (hm.symm.trans hme)), hm]
  · obtain ⟨hw, hunf⟩ := k.sending w hw
    obtain ⟨x, rest, d, hcomp, hfin, hd, hout⟩ := h.sending w hw
    have hne : x.frame ≠ e.frame := fun hxe => by
      have hx : x ∈ s.lanes.completion := by simp [hcomp]
      rw [List.inj_on_of_nodup_map hn hx he hxe, hunf] at hfin
      cases hfin
    refine ⟨x, rest.filter (fun y => y.frame != e.frame), d, ?_, hfin, (hother _ hne).trans hd, hout⟩
    rw [k.completion, hcomp, List.filter_cons_of_pos (by simpa using hne)]

theorem Housed.dropsEntry {e : CompletionEntry} (h : Housed hand s) (he : e ∈ s.lanes.completion)
    (k : DropsEntry s t e) : Housed hand t := by
  have hqs : t.inQueues = s.inQueues := by rw [State.inQueues, k.queues]; rfl
  have hps : t.inPark = s.inPark := by rw [State.inPark, k.park]; rfl
  have hlanes : t.inLanes = s.inLanes.filter (fun y => y != e.frame) := by
    rw [State.inLanes, k.completion, inLanes_filter]
    rfl
  have hin : e.frame ∈ s.inLanes := List.mem_map_of_mem he
  have hperm : (hand ++ s.placed).Perm (e.frame :: (hand ++ t.placed)) := by
    rw [placed_eq, placed_eq, hlanes, hqs, hps]
    refine (List.Perm.append_left hand ((filter_ne_perm h.inLanes_nodup hin).append_left _)).trans ?_
    refine (List.Perm.append_left hand List.perm_middle).trans ?_
    exact List.perm_middle
  obtain ⟨hnot, hnd⟩ := List.nodup_cons.1 (hperm.nodup_iff.1 h.nodup)
  have hother : ∀ x, x ≠ e.frame → t.frame? x = s.frame? x := fun x hx => (k.frames x).trans (if_neg hx)
  have hsame : ∀ x ∈ t.placed, t.frame? x = s.frame? x :=
    fun x hx => hother x fun hxe => hnot (hxe ▸ List.mem_append_right _ hx)
  rw [placed_eq, hqs, hps] at hsame
  refine ⟨k.sorted, hnd, fun x => ?_, h.queues.congr k.queues k.queueCells fun x hx => hsame x (by simp [hx]),
    h.park.congr (by rw [k.park]) k.parkedCells fun x hx => hsame x (by simp [hx]),
    h.lanes.dropsEntry h.inLanes_nodup he k⟩
  have hx := (hperm.mem_iff (a := x)).symm.trans (h.stored x)
  by_cases hxe : x = e.frame
  · rw [k.frames, if_pos hxe, hxe]
    simpa using hnot
  · rw [hother x hxe, ← hx, List.mem_cons]
    simp [hxe]

/-! ## A frame leaves its lane unfinished (R137) -/

theorem removeLaneFrame_sorted (l : Fin 4) {s : State} (h : tableSorted s.buf.pool) :
    tableSorted (removeLaneFrame l s).buf.pool := by
  unfold removeLaneFrame
  split
  · refine releaseFrame_sorted _ ?_
    split <;> simpa using h
  · exact h

theorem removeLaneFrame_of_none {l : Fin 4} (h : (s.lane l).frame? = none) : removeLaneFrame l s = s := by
  unfold removeLaneFrame
  rw [h]

theorem Housed.removeLaneFrame (h : Housed hand s) (l : Fin 4) : Housed hand (removeLaneFrame l s) := by
  cases hf : (s.lane l).frame? with
  | none => rwa [removeLaneFrame_of_none hf]
  | some f =>
    obtain ⟨e, he, d, rfl, hfd, hdq, hunf, -⟩ := h.lane_frame hf
    have k := leaves_removeLaneFrame hf
    refine h.dropsEntry he ⟨fun m => ?_, k.completion, k.frames, fun q => ?_, removeLaneFrame_sorted l h.sorted, by simp,
      by simp, by simp, by simp, fun w hw => ⟨by simpa using hw, hunf⟩⟩
    · rw [k.lane]
      by_cases hm : m = l
      · rw [if_pos hm, if_pos (hm ▸ hf)]
      · rw [if_neg hm, if_neg fun hmf => hm ((h.lanes.lanes l e.frame hf).1 m hmf)]
    · rw [k.inFlight d hfd q, hdq]

/-! ## The head of the completion list is sent (R143) -/

theorem Housed.headSent {e : CompletionEntry} {rest : List CompletionEntry} (h : Housed hand s)
    (hc : s.lanes.completion = e :: rest) (hs : s.campus.sending.isSome = true) : Housed hand (headSent e rest s) := by
  have he : e ∈ s.lanes.completion := by simp [hc]
  have hfin : e.finished = true := by
    obtain ⟨w, hw⟩ := Option.isSome_iff_exists.1 hs
    obtain ⟨x, r, -, hx, hfin, -⟩ := h.lanes.sending w hw
    obtain ⟨rfl, -⟩ := List.cons.inj (hc.symm.trans hx)
    exact hfin
  have hn := h.inLanes_nodup
  rw [State.inLanes, hc, List.map_cons, List.nodup_cons] at hn
  set s1 : State := { s with lanes := { s.lanes with completion := rest }, campus := { s.campus with sending := none } }
  set s2 := Machine.releaseFrame e.frame s1
  have hlanes : (Machine.headSent e rest s).lanes = (Machine.loseInFlight e.queue s2).lanes := by
    simp only [Machine.headSent, countSent_frame, s2, s1]
  have hbuf : (Machine.headSent e rest s).buf = s2.buf := by
    simp only [Machine.headSent, countSent_frame, loseInFlight_frame, s2, s1]
  have hs2 : s2.lanes = s1.lanes := by simp [s2]
  refine h.dropsEntry he ⟨fun m => ?_, ?_, fun x => ?_, fun q => ?_, ?_, ?_, ?_, ?_, ?_, fun w hw => ?_⟩
  · rw [if_neg fun hm => ?_]
    · exact lane_eq_of_lanes (by rw [hlanes]; simp [s2, s1]) m
    · obtain ⟨e', he', -, hfe, -, -, hunf, -⟩ := h.lane_frame hm
      rw [h.entry_unique he he' hfe, hfin] at hunf
      cases hunf
  · have hfilter : rest.filter (fun x => x.frame != e.frame) = rest :=
      List.filter_eq_self.2 fun x hx => bne_iff_ne.2 fun hxe => hn.1 (hxe ▸ List.mem_map_of_mem hx)
    rw [hlanes, hc, List.filter_cons_of_neg (by simp), hfilter]
    simp [s2, s1]
  · rw [frame?_of_buf hbuf, releaseFrame_frame?]
    rfl
  · rw [hlanes, loseInFlight_inFlight, hs2]
    split
    · rename_i hq; rw [hq]
    · rfl
  · rw [hbuf]
    exact releaseFrame_sorted _ h.sorted
  · rw [hbuf]; simp [s2, s1]
  · rw [hbuf]; simp [s2, s1]
  · simp only [Machine.headSent, countSent_frame, loseInFlight_frame, releaseFrame_frame]
  · simp only [Machine.headSent, countSent_frame, loseInFlight_frame, releaseFrame_frame]
  · simp only [Machine.headSent, countSent_frame, loseInFlight_frame, releaseFrame_frame] at hw
    cases hw

/-! ## A lane finishes its frame (R135, R136) -/

/-- An entry once the frame of a lane is finished (R135). -/
def CompletionEntry.finish (f : Nat) (tag : List Byte) (e : CompletionEntry) : CompletionEntry :=
  if e.frame = f then { e with finished := true, tag := tag } else e

theorem finish_keeps (f : Nat) (tag : List Byte) (e : CompletionEntry) : (e.finish f tag).frame = e.frame ∧
    (e.finish f tag).action = e.action ∧ (e.finish f tag).queue = e.queue ∧
    (e.frame ≠ f → e.finish f tag = e) ∧ (e.frame = f → (e.finish f tag).finished = true) := by
  unfold CompletionEntry.finish
  split
  · rename_i hf
    exact ⟨rfl, rfl, rfl, fun hne => absurd hf hne, fun _ => rfl⟩
  · rename_i hf
    exact ⟨rfl, rfl, rfl, fun _ => rfl, fun he => absurd he hf⟩

/-- The frame of a lane is finished: the lane is IDLE, the entry FINISHED, and at most the frame's bytes are new. -/
structure Finishes (s t : State) (l : Fin 4) (f : Nat) (tag : List Byte) : Prop where
  lane : ∀ m, t.lane m = if m = l then .idle else s.lane m
  completion : t.lanes.completion = s.lanes.completion.map (CompletionEntry.finish f tag)
  inFlight : t.lanes.inFlight = s.lanes.inFlight
  frames : ∀ x, x ≠ f → t.frame? x = s.frame? x
  own : ∃ data : Descriptor → List Byte, t.frame? f = (s.frame? f).map (fun d => { d with data := data d })
  sorted : tableSorted t.buf.pool
  queues : t.buf.queues = s.buf.queues
  queueCells : t.buf.queueCells = s.buf.queueCells
  disp : t.disp = s.disp
  campus : t.campus = s.campus

theorem LanesKept.finishes {l : Fin 4} {f : Nat} {tag : List Byte} (h : LanesKept s) (hn : s.inLanes.Nodup)
    (hf : (s.lane l).frame? = some f) (k : Finishes s t l f tag) : LanesKept t := by
  obtain ⟨hone, e, he, rfl, hd⟩ := h.lanes l f hf
  have hunf : (s.frame? e.frame).isSome = true → e.finished = false := fun hs => by
    obtain ⟨d, hfd⟩ := Option.isSome_iff_exists.1 hs
    exact (hd d hfd).1
  obtain ⟨data, hown⟩ := k.own
  have hlane : ∀ m g, (t.lane m).frame? = some g → m ≠ l ∧ t.lane m = s.lane m ∧ g ≠ e.frame := by
    intro m g hg
    rw [k.lane] at hg ⊢
    split at hg
    · cases hg
    · rename_i hm
      exact ⟨hm, if_neg hm, fun hge => hm (hone m (hge ▸ hg))⟩
  refine ⟨fun x d hx hxd => ?_, fun q => ?_, fun m g hg => ?_, fun x hx hu => ?_, fun w hw => ?_⟩
  · rw [k.completion] at hx
    obtain ⟨y, hy, rfl⟩ := List.mem_map.1 hx
    obtain ⟨hyf, hya, hyq, -⟩ := finish_keeps e.frame tag y
    rw [hyf] at hxd
    rw [hya, hyq]
    by_cases hye : y.frame = e.frame
    · rw [hye, hown] at hxd
      obtain ⟨d', hd', rfl⟩ := Option.map_eq_some_iff.1 hxd
      exact h.frames y d' hy (hye ▸ hd')
    · exact h.frames y d hy ((k.frames _ hye).symm.trans hxd)
  · rw [k.inFlight, h.inFlight, k.completion, List.countP_map]
    refine List.countP_congr fun x _ => ?_
    rw [Function.comp_apply, (finish_keeps e.frame tag x).2.2.1]
  · obtain ⟨hm, hms, hge⟩ := hlane m g hg
    rw [hms] at hg ⊢
    obtain ⟨hone', x, hx, hxg, hxd⟩ := h.lanes m g hg
    have hx' : x.finish e.frame tag = x := (finish_keeps e.frame tag x).2.2.2.1 (hxg ▸ hge)
    refine ⟨fun m' hm' => hone' m' ((hlane m' g hm').2.1 ▸ hm'), x, ?_, hxg,
      fun d hd' => hxd d ((k.frames g hge).symm.trans hd')⟩
    rw [k.completion]
    exact List.mem_map.2 ⟨x, hx, hx'⟩
  · rw [k.completion] at hx
    obtain ⟨y, hy, rfl⟩ := List.mem_map.1 hx
    obtain ⟨hyf, -, -, hne, heq⟩ := finish_keeps e.frame tag y
    have hye : y.frame ≠ e.frame := fun hye => by rw [heq hye] at hu; cases hu
    rw [hne hye] at hu ⊢
    obtain ⟨m, hm⟩ := h.unfinished y hy hu
    refine ⟨m, ?_⟩
    rw [k.lane, if_neg fun hml => hye ?_, hm]
    rw [hml, hf] at hm
    exact (Option.some.inj hm).symm
  · rw [k.campus] at hw
    obtain ⟨x, rest, d, hcomp, hfin, hxd, hout⟩ := h.sending w hw
    have hx : x ∈ s.lanes.completion := by simp [hcomp]
    have hne : x.frame ≠ e.frame := fun hxe => by
      rw [List.inj_on_of_nodup_map hn hx he hxe, hunf (by rw [← hxe, hxd]; rfl)] at hfin
      cases hfin
    refine ⟨x, rest.map (CompletionEntry.finish e.frame tag), d, ?_, hfin, (k.frames _ hne).trans hxd, hout⟩
    rw [k.completion, hcomp, List.map_cons, (finish_keeps e.frame tag x).2.2.2.1 hne]

theorem Housed.finishes {l : Fin 4} {f : Nat} {tag : List Byte} (h : Housed hand s) (hf : (s.lane l).frame? = some f)
    (k : Finishes s t l f tag) : Housed hand t := by
  obtain ⟨e, he, d, hef, hfd, -⟩ := h.lane_frame hf
  have hlanes : t.inLanes = s.inLanes := by
    rw [State.inLanes, k.completion, List.map_map]
    exact List.map_congr_left fun x _ => (finish_keeps f tag x).1
  have hqs : t.inQueues = s.inQueues := by rw [State.inQueues, k.queues]; rfl
  have hps : t.inPark = s.inPark := by rw [State.inPark, k.disp]; rfl
  have hplaced : t.placed = s.placed := by rw [placed_eq, placed_eq, hlanes, hqs, hps]
  obtain ⟨data, hown⟩ := k.own
  have hsome : ∀ x, (t.frame? x).isSome = (s.frame? x).isSome := fun x => by
    by_cases hx : x = f
    · rw [hx, hown, Option.isSome_map]
    · rw [k.frames x hx]
  have hn := (List.nodup_append.1 h.nodup).2.1
  have hwait : ∀ x ∈ s.inQueues ++ s.inPark, t.frame? x = s.frame? x := fun x hx => k.frames x fun hxf => by
    rw [placed_eq, List.nodup_append] at hn
    exact hn.2.2 x hx f (hef ▸ List.mem_map_of_mem he) hxf
  exact ⟨k.sorted, by rw [hplaced]; exact h.nodup, fun x => by rw [hplaced, hsome]; exact h.stored x,
    h.queues.congr k.queues k.queueCells fun x hx => hwait x (by simp [hx]),
    h.park.congr (by rw [k.disp]) (by rw [k.disp]) fun x hx => hwait x (by simp [hx]),
    h.lanes.finishes h.inLanes_nodup hf k⟩

theorem setLane_lane (s : State) (l m : Fin 4) (x : Lane) : (s.setLane l x).lane m = if m = l then x else s.lane m := by
  by_cases h : m = l
  · rw [h, setLane_lane_self, if_pos rfl]
  · rw [setLane_lane_ne s x h, if_neg h]

theorem finishes_clearPass (h : tableSorted s.buf.pool) (l : Fin 4) (f : Nat) :
    Finishes s ((finishEntry f [] s).setLane l .idle) l f [] :=
  ⟨fun m => setLane_lane _ l m .idle, rfl, rfl, fun _ _ => rfl,
    ⟨Descriptor.data, by cases hd : s.frame? f <;> exact hd⟩, h, rfl, rfl, rfl, rfl⟩

theorem finishes_encrypt (h : tableSorted s.buf.pool) {f : Nat} {d : Descriptor} (hd : s.frame? f = some d) (l : Fin 4)
    (r : SlotRef) (key : BitVec 256) :
    Finishes s (finishEncrypt l f r key s) l f (d.cipherTag key (s.headerOf f)) := by
  set v := writeCipherText f d key s with hv
  set w := finishEntry f (d.cipherTag key (s.headerOf f)) v
  have he : finishEncrypt l f r key s = (releaseUse r w).setLane l .idle := by
    unfold finishEncrypt
    rw [hd]
  have hlanes : (releaseUse r w).lanes = w.lanes := by simp
  have hbuf : ((releaseUse r w).setLane l .idle).buf = v.buf := by simp [w, finishEntry]
  have hframe : ∀ x, v.frame? x = if x = f then some { d with data := d.data.take 12 ++ d.cipherText key } else s.frame? x :=
    fun x => tableGet_tablePut _ _ _ _ h
  rw [he]
  refine ⟨fun m => ?_, ?_, ?_, fun x hx => ?_, ⟨fun d => d.data.take 12 ++ d.cipherText key, ?_⟩, ?_, ?_, ?_, ?_, ?_⟩
  · rw [setLane_lane, lane_eq_of_lanes (s := s) (by rw [hlanes]; rfl)]
  · simp only [setLane_frame, hlanes]
    rfl
  · simp only [setLane_frame, hlanes]
    rfl
  · rw [frame?_of_buf hbuf, hframe, if_neg hx]
  · rw [frame?_of_buf hbuf, hframe, if_pos rfl, hd]
    rfl
  · rw [hbuf]
    exact tablePut_sorted _ _ _ h
  · rw [hbuf]; rfl
  · rw [hbuf]; rfl
  · simp [w, v, finishEntry, writeCipherText]
  · simp [w, v, finishEntry, writeCipherText]

end Sys2Proof.Machine
end

section
/-! SUPPORT. Frames that arrive, the removal of an association's frames, and the discard of all of them (R90, R96, R128, R196). -/

namespace Sys2Proof.Machine

variable {hand : List Nat} {s t : State}

/-! ## A frame arrives (R96) -/

/-- What an appended frame's descriptor holds. -/
def State.arriving (s : State) (action : FrameAction) (q : Fin 8) (data : List Byte) : Descriptor :=
  { length := data.length, action := action, queue := q, arrival := s.time, cells := cellsFor data.length, data := data,
    assigned := none }

/-- What the append of a frame comes to, as far as its place goes. -/
structure Appends (s t : State) (f : Nat) (d : Descriptor) : Prop where
  pool : t.buf.pool = tablePut s.buf.pool f d
  queues : ∀ p : Fin 8, t.buf.queues[p] = if p = d.queue then s.buf.queues[p] ++ [f] else s.buf.queues[p]
  queueCells : ∀ p : Fin 8, t.buf.queueCells[p] = if p = d.queue then s.buf.queueCells[p] + d.cells else s.buf.queueCells[p]
  park : t.disp.park = s.disp.park
  parkedCells : t.disp.parkedCells = s.disp.parkedCells
  lanes : t.lanes = s.lanes
  sending : t.campus.sending = s.campus.sending

theorem appends_appendFrame (f : Nat) (action : FrameAction) (q : Fin 8) (data : List Byte) (s : State) :
    Appends s (appendFrame f action q data s) f (s.arriving action q data) := by
  unfold appendFrame
  refine ⟨by rw [pauseTest_pool]; rfl, fun p => ?_, fun p => ?_, by simp, by simp, by simp, by simp⟩
  · simp only [pauseTest_frame, queue_set_get]
    change _ = if p = q then s.buf.queues[p] ++ [f] else s.buf.queues[p]
    split
    · rename_i hp
      rw [hp]
    · rfl
  · simp only [pauseTest_frame, queue_set_get]
    change _ = if p = q then s.buf.queueCells[p] + cellsFor data.length else s.buf.queueCells[p]
    split
    · rename_i hp
      rw [hp]
    · rfl

theorem Housed.appends {f : Nat} {d : Descriptor} (h : Housed [] s) (hf : s.frame? f = none) (hd : d.assigned = none)
    (k : Appends s t f d) : Housed [] t := by
  have hframe : ∀ x, t.frame? x = if x = f then some d else s.frame? x := fun x => by
    unfold State.frame?
    rw [k.pool, tableGet_tablePut _ _ _ _ h.sorted]
  have hnew : f ∉ s.placed := fun hm => by
    have hs := (h.stored f).1 (by simpa using hm)
    rw [hf] at hs
    cases hs
  have hsame : ∀ x ∈ s.placed, t.frame? x = s.frame? x :=
    fun x hx => (hframe x).trans (if_neg fun hxf : x = f => hnew (hxf ▸ hx))
  have hperm : (t.placed).Perm (f :: s.placed) := by
    refine placed_perm_of_queue (inQueues_perm (p := d.queue) (fun p hp => ?_) ?_) ?_ ?_
    · rw [k.queues, if_neg hp]
    · rw [k.queues, if_pos rfl]
      exact List.perm_append_singleton _ _
    · rw [State.inPark, k.park]; rfl
    · rw [State.inLanes, k.lanes]; rfl
  have hn : s.placed.Nodup := h.nodup
  rw [placed_eq] at hsame
  refine ⟨by rw [k.pool]; exact tablePut_sorted _ _ _ h.sorted,
    hperm.nodup_iff.2 (List.nodup_cons.2 ⟨hnew, hn⟩), fun x => ?_, ⟨fun p x d' hx hd' => ?_, fun p => ?_⟩,
    h.park.congr (by rw [k.park]) k.parkedCells fun x hx => hsame x (by simp [hx]),
    h.lanes.congr k.lanes k.sending fun x hx => hsame x (by simp [hx])⟩
  · rw [List.nil_append, hperm.mem_iff, List.mem_cons, hframe]
    by_cases hx : x = f
    · simp [hx]
    · rw [if_neg hx, ← h.stored x]
      simp [hx]
  · rw [k.queues] at hx
    have hold : x ∈ s.buf.queues[p] → d'.queue = p ∧ d'.assigned = none := fun hx =>
      h.queues.frames p x d' hx ((hsame x (by simp [mem_inQueues.2 ⟨p, hx⟩])).symm.trans hd')
    split at hx
    · rename_i hp
      rcases List.mem_append.1 hx with hx | hx
      · exact hold hx
      · rw [List.mem_singleton.1 hx, hframe, if_pos rfl] at hd'
        cases hd'
        exact ⟨hp.symm, hd⟩
    · exact hold hx
  · have hold : t.cellsOf s.buf.queues[p] = s.cellsOf s.buf.queues[p] :=
      cellsOf_congr fun x hx => hsame x (by simp [mem_inQueues.2 ⟨p, hx⟩])
    have hown : t.cellsOf [f] = d.cells := by
      rw [cellsOf_cons (d := d) (by rw [hframe, if_pos rfl])]
      rfl
    rw [k.queues, k.queueCells]
    split
    · rw [cellsOf_append, hold, hown, h.queues.cells p]
    · rw [hold, h.queues.cells p]

theorem freeHandle?_free {f : Nat} (h : s.freeHandle? = some f) : s.frame? f = none := by
  simpa using List.find?_some h

theorem Housed.roomTest (h : Housed [] s) (action : FrameAction) (q : Fin 8) (r : RackReception) :
    Housed [] (roomTest action q r s) := by
  fun_cases Machine.roomTest action q r s
  case case3 f hf => exact h.appends (freeHandle?_free hf) rfl (appends_appendFrame _ _ _ _ _)
  all_goals exact h.same (sameFrames_of (by simp))

theorem Housed.receiveStages (h : Housed [] s) (r : RackReception) : Housed [] (receiveStages r s) := by
  fun_cases Machine.receiveStages r s
  case case6 =>
    unfold classify
    split
    · exact h.same (sameFrames_of (by simp))
    · exact h.roomTest _ _ r
    · exact h.roomTest _ _ r
  all_goals exact h.same (sameFrames_of (by simp))

/-! ## Frames released one after another (R90) -/

theorem releaseEach_cons (f : Nat) (l : List Nat) (s : State) : releaseEach (f :: l) s = releaseEach l (releaseFrame f s) := rfl

theorem releaseEach_frame? (l : List Nat) (s : State) (x : Nat) :
    (releaseEach l s).frame? x = if x ∈ l then none else s.frame? x := by
  induction l generalizing s with
  | nil => simp [releaseEach]
  | cons f l ih =>
    rw [releaseEach_cons, ih, releaseFrame_frame?]
    by_cases hx : x = f
    · simp [hx]
    · simp [hx]

theorem releaseEach_sorted (l : List Nat) {s : State} (h : tableSorted s.buf.pool) :
    tableSorted (releaseEach l s).buf.pool := by
  induction l generalizing s with
  | nil => exact h
  | cons f l ih => exact ih (releaseFrame_sorted f h)

/-- The cells of different stored frames return to the pool with them. -/
theorem releaseEach_freeCells {l : List Nat} (hl : l.Nodup) (hs : ∀ x ∈ l, (s.frame? x).isSome = true) :
    (releaseEach l s).buf.freeCells = s.buf.freeCells + s.cellsOf l := by
  induction l generalizing s with
  | nil => rfl
  | cons f l ih =>
    obtain ⟨hf, hl⟩ := List.nodup_cons.1 hl
    obtain ⟨d, hd⟩ := Option.isSome_iff_exists.1 (hs f (by simp))
    have hsame : ∀ x ∈ l, (releaseFrame f s).frame? x = s.frame? x :=
      fun x hx => (releaseFrame_frame? f s x).trans (if_neg (ne_of_mem_of_not_mem hx hf))
    rw [releaseEach_cons, ih hl fun x hx => by rw [hsame x hx]; exact hs x (by simp [hx]), (releaseFrame_of_some hd).2,
      cellsOf_congr hsame, cellsOf_cons hd, Nat.add_assoc]

theorem Housed.releaseEach {l : List Nat} (h : Housed (l ++ hand) s) : Housed hand (releaseEach l s) := by
  induction l generalizing s with
  | nil => exact h
  | cons f l ih => exact ih h.releaseFrame

/-! ## The removal of an association's frames (R128) -/

section
variable (a : Fin 64)

theorem removeFromQueues_queue {l : List (Fin 8)} (hl : l.Nodup) (s : State) (p : Fin 8) :
    (l.foldl (removeFromQueue a) s).buf.queues[p] =
        (if p ∈ l then s.buf.queues[p].filter (fun h => !s.frameOf a h) else s.buf.queues[p]) ∧
      (l.foldl (removeFromQueue a) s).buf.queueCells[p] =
        if p ∈ l then s.buf.queueCells[p] - s.cellsOf (s.buf.queues[p].filter (s.frameOf a)) else s.buf.queueCells[p] := by
  induction l generalizing s with
  | nil => simp
  | cons q l ih =>
    obtain ⟨hq, hl⟩ := List.nodup_cons.1 hl
    have hqueue : (removeFromQueue a s q).buf.queues[p] =
        if p = q then s.buf.queues[q].filter (fun h => !s.frameOf a h) else s.buf.queues[p] := queue_set_get _ _ _ _
    have hcells : (removeFromQueue a s q).buf.queueCells[p] =
        if p = q then s.buf.queueCells[q] - s.cellsOf (s.buf.queues[q].filter (s.frameOf a)) else s.buf.queueCells[p] :=
      queue_set_get _ _ _ _
    have hof : (removeFromQueue a s q).frameOf a = s.frameOf a := rfl
    have hcellsOf : (removeFromQueue a s q).cellsOf = s.cellsOf := rfl
    obtain ⟨h1, h2⟩ := ih hl (removeFromQueue a s q)
    rw [List.foldl_cons, h1, h2, hof, hcellsOf, hqueue, hcells]
    by_cases hp : p = q
    · subst hp
      simp [hq]
    · simp [hp]

/-- The state with the association's frames out of the queues and the park list, but not yet released. -/
def State.withoutFrames (s : State) (a : Fin 64) : State :=
  removeFromPark a ((List.finRange 8).foldl (removeFromQueue a) s)

theorem removeFrames_eq (s : State) : removeFrames a s = releaseEach (s.heldFrames a) (s.withoutFrames a) := rfl

theorem withoutFrames_queue (s : State) (p : Fin 8) :
    (s.withoutFrames a).buf.queues[p] = s.buf.queues[p].filter (fun h => !s.frameOf a h) := by
  have h := (removeFromQueues_queue a (List.nodup_finRange 8) s p).1
  rw [if_pos (List.mem_finRange p)] at h
  exact h

theorem withoutFrames_queueCells (s : State) (p : Fin 8) : (s.withoutFrames a).buf.queueCells[p] =
    s.buf.queueCells[p] - s.cellsOf (s.buf.queues[p].filter (s.frameOf a)) := by
  have h := (removeFromQueues_queue a (List.nodup_finRange 8) s p).2
  rw [if_pos (List.mem_finRange p)] at h
  exact h

theorem withoutFrames_park (s : State) : (s.withoutFrames a).disp.park = s.disp.park.filter (fun e => e.assoc != a) ∧
    (s.withoutFrames a).disp.parkedCells =
      s.disp.parkedCells - s.cellsOf ((s.disp.park.filter (fun e => e.assoc == a)).map (·.frame)) := by
  have hd : ((List.finRange 8).foldl (removeFromQueue a) s).disp = s.disp := by simp
  have hc : ((List.finRange 8).foldl (removeFromQueue a) s).cellsOf = s.cellsOf :=
    funext fun l => cellsOf_congr fun x _ => frame?_eq_of_pool (by simp) x
  simp only [State.withoutFrames, removeFromPark, hd, hc, and_self]

theorem withoutFrames_frame? (s : State) (x : Nat) : (s.withoutFrames a).frame? x = s.frame? x :=
  frame?_eq_of_pool (by simp [State.withoutFrames]) x

/-- Frames of a list are those that meet a test and those that do not. -/
theorem flatMap_filter_perm {α β : Type} (l : List α) (f : α → List β) (p : β → Bool) :
    (l.flatMap f).Perm (l.flatMap (fun x => (f x).filter p) ++ l.flatMap (fun x => (f x).filter (fun y => !p y))) := by
  rw [← List.filter_flatMap, ← List.filter_flatMap]
  exact (List.filter_append_perm p _).symm

theorem heldFrames_perm (s : State) : (s.placed).Perm (s.heldFrames a ++ (s.withoutFrames a).placed) := by
  have hq : (s.inQueues).Perm ((List.finRange 8).flatMap (fun q => s.buf.queues[q].filter (s.frameOf a)) ++
      (s.withoutFrames a).inQueues) := by
    have hw : (s.withoutFrames a).inQueues =
        (List.finRange 8).flatMap (fun q => s.buf.queues[q].filter (fun h => !s.frameOf a h)) :=
      List.flatMap_congr fun q _ => withoutFrames_queue a s q
    rw [hw]
    exact flatMap_filter_perm _ _ _
  have hp : (s.inPark).Perm ((s.disp.park.filter (fun e => e.assoc == a)).map (·.frame) ++ (s.withoutFrames a).inPark) := by
    rw [State.inPark, State.inPark, (withoutFrames_park a s).1, ← List.map_append]
    exact (List.filter_append_perm (fun e : ParkEntry => e.assoc == a) _).symm.map _
  have hl : (s.withoutFrames a).inLanes = s.inLanes := by simp [State.inLanes, State.withoutFrames]
  rw [placed_eq, placed_eq, hl, State.heldFrames]
  refine ((hq.append hp).append_right _).trans ?_
  simp only [List.append_assoc]
  refine List.Perm.append_left _ ?_
  rw [← List.append_assoc, ← List.append_assoc, ← List.append_assoc, ← List.append_assoc]
  exact List.perm_append_comm.append_right _ |>.append_right _

/-- Of the cells counted, those of the frames that leave go. -/
theorem cellsOf_filter (s : State) (l : List Nat) (p : Nat → Bool) :
    s.cellsOf l - s.cellsOf (l.filter p) = s.cellsOf (l.filter (fun x => !p x)) := by
  rw [← cellsOf_perm s (List.filter_append_perm p l), cellsOf_append]
  exact Nat.add_sub_cancel_left _ _

theorem Housed.withoutFrames (h : Housed [] s) : Housed (s.heldFrames a) (s.withoutFrames a) := by
  obtain ⟨hn, hs⟩ := h.perm (t := s.withoutFrames a) (heldFrames_perm a s).symm
    fun x => by rw [withoutFrames_frame?]
  obtain ⟨hpark, hparked⟩ := withoutFrames_park a s
  have hcells : (s.withoutFrames a).cellsOf = s.cellsOf :=
    funext fun l => cellsOf_congr fun x _ => withoutFrames_frame? a s x
  refine ⟨by simpa [State.withoutFrames] using h.sorted, hn, hs, ⟨fun q x d hx hd => ?_, fun q => ?_⟩,
    ⟨fun e d he hd => ?_, ?_⟩, h.lanes.congr (by simp [State.withoutFrames]) (by simp [State.withoutFrames])
    fun x _ => withoutFrames_frame? a s x⟩
  · rw [withoutFrames_queue] at hx
    rw [withoutFrames_frame?] at hd
    exact h.queues.frames q x d (List.mem_filter.1 hx).1 hd
  · rw [withoutFrames_queueCells, withoutFrames_queue, hcells, h.queues.cells, cellsOf_filter]
  · rw [hpark] at he
    rw [withoutFrames_frame?] at hd
    exact h.park.frames e d (List.mem_filter.1 he).1 hd
  · have hsplit := cellsOf_perm s ((List.filter_append_perm (fun e : ParkEntry => e.assoc == a) s.disp.park).map (·.frame))
    rw [List.map_append, cellsOf_append] at hsplit
    rw [hparked, hcells, State.inPark, hpark, h.park.cells, State.inPark, ← hsplit]
    exact Nat.add_sub_cancel_left _ _

theorem Housed.removeFrames (h : Housed [] s) : Housed [] (removeFrames a s) := by
  rw [removeFrames_eq]
  exact Housed.releaseEach (by rw [List.append_nil]; exact h.withoutFrames a)

end

/-! ## The end of an event (R106, R116, R143) -/

theorem Housed.finishEvent (h : Housed [] s) (before : State) : Housed [] (finishEvent before s) := by
  have k := finishEvent_settled before s
  set t := Machine.finishEvent before s
  have hframe : ∀ x, t.frame? x = s.frame? x := frame?_eq_of_pool k.pool
  have hpark : t.disp.park.map ParkEntry.place = s.disp.park.map ParkEntry.place := by
    rw [k.park, List.map_map]
    refine List.map_congr_left fun e _ => ?_
    simp only [Function.comp_apply, ParkEntry.afterMarks, ParkEntry.place]
    split <;> rfl
  have hplaced : t.placed = s.placed := by
    rw [placed_eq, placed_eq, inPark_congr hpark, State.inQueues, State.inLanes, k.queues, k.lanes]
    rfl
  refine ⟨by rw [k.pool]; exact h.sorted, by rw [hplaced]; exact h.nodup, fun x => by rw [hplaced, hframe]; exact h.stored x,
    h.queues.congr k.queues k.queueCells fun x _ => hframe x, h.park.congr hpark k.parkedCells fun x _ => hframe x, ?_⟩
  rcases k.campus with hc | ⟨-, -, -, e, rest, d, hcomp, hfin, hd, hc⟩
  · exact h.lanes.congr k.lanes (by rw [hc]) fun x _ => hframe x
  · have hsame : LanesKept { t with campus := s.campus } := h.lanes.congr k.lanes rfl fun x _ => hframe x
    refine ⟨hsame.frames, hsame.inFlight, hsame.lanes, hsame.unfinished, fun w hw => ?_⟩
    rw [hc] at hw
    cases hw
    exact ⟨e, rest, d, by rw [k.lanes, hcomp], hfin, (hframe _).trans hd, rfl⟩

/-! ## No frame is stored (R184, R196) -/

theorem housed_of_empty (hs : tableSorted s.buf.pool) (hf : ∀ x, s.frame? x = none)
    (hq : s.buf.queues = Vector.replicate 8 []) (hqc : s.buf.queueCells = Vector.replicate 8 0) (hp : s.disp.park = [])
    (hpc : s.disp.parkedCells = 0)
    (hl : s.lanes = { lanes := Vector.replicate 4 .idle, completion := [], inFlight := Vector.replicate 8 0 })
    (hc : s.campus.sending = none) : Housed [] s := by
  have hplaced : s.placed = [] := by simp [State.placed, hq, hp, hl]
  refine ⟨hs, by simp [hplaced], fun x => by simp [hplaced, hf], ⟨by simp [hf], fun q => ?_⟩, ⟨by simp [hf], ?_⟩,
    ⟨by simp [hf], fun q => ?_, fun l f h => ?_, by simp [hl], by simp [hc]⟩⟩
  · simp [hq, hqc, State.cellsOf]
  · simp [State.inPark, hp, hpc, State.cellsOf]
  · simp [hl]
  · simp [State.lane, hl, Lane.frame?] at h

theorem zeroizeReceivers_buf (s : State) : (zeroizeReceivers s).buf = s.buf := by
  unfold zeroizeReceivers
  split <;> rfl

theorem housed_zeroizeStep2 (h : tableSorted s.buf.pool) : Housed [] (zeroizeStep2 s) := by
  set u := zeroizeLists (zeroizeLanes (zeroizeEngine s)) with hu
  have hpool : u.buf.pool = s.buf.pool := rfl
  have hstep : zeroizeStep2 s = releaseEach s.discardOrder u := rfl
  rw [hstep]
  refine housed_of_empty (releaseEach_sorted _ h) (fun x => ?_) ?_ ?_ ?_ ?_ ?_ ?_
  · rw [releaseEach_frame?]
    split
    · rfl
    · rename_i hx
      rw [frame?_eq_of_pool hpool]
      by_contra hne
      obtain ⟨d, hd⟩ := Option.ne_none_iff_exists'.1 hne
      exact hx (List.mem_append_right _ (List.mem_map.2 ⟨(x, d), tableGet_mem hd, rfl⟩))
  all_goals simp [hu, zeroizeLists, zeroizeLanes]

theorem sameFrames_zeroizeSteps (s : State) : SameFrames s (zeroizeStep5 (zeroizeStep4 (zeroizeStep3 s))) :=
  sameFrames_of ⟨rfl, rfl, rfl, rfl, rfl⟩

theorem housed_zeroizeSequence (h : tableSorted s.buf.pool) : Housed [] (zeroizeSequence s) := by
  have hbuf : (zeroizeStep1 s).buf = s.buf := zeroizeReceivers_buf s
  have hstep : Housed [] (zeroizeStep2 (zeroizeStep1 s)) := housed_zeroizeStep2 (by rw [hbuf]; exact h)
  exact hstep.same (sameFrames_zeroizeSteps _)

end Sys2Proof.Machine
end

section
/-! SUPPORT. The key slots of an association beside the lanes that use them and the state of its record (R51, R53, R66, R67). -/

namespace Sys2Proof.Machine

/-! ## Counting four -/

/-- Two tests of four that differ in one. -/
theorem countP_change {f g : Fin 4 → Bool} {i : Fin 4} (h : ∀ j, j ≠ i → f j = g j) :
    (List.finRange 4).countP f + (if g i then 1 else 0) = (List.finRange 4).countP g + if f i then 1 else 0 := by
  have hperm : (List.finRange 4).Perm (i :: (List.finRange 4).erase i) := List.perm_cons_erase (List.mem_finRange i)
  have hrest : ((List.finRange 4).erase i).countP f = ((List.finRange 4).erase i).countP g :=
    List.countP_congr fun j hj => by rw [h j (List.Nodup.mem_erase_iff (List.nodup_finRange 4) |>.1 hj).1]
  rw [hperm.countP_eq, hperm.countP_eq, List.countP_cons, List.countP_cons, hrest]
  omega

/-- How many of four slots have a role. -/
def roles (v : Vector KeySlot 4) (r : Role) : Nat := countSlots v (fun k => k.role == r)

section
variable {v w : Vector KeySlot 4} {r : Role}

theorem roles_set (v : Vector KeySlot 4) (j : Fin 4) (k : KeySlot) (r : Role) :
    roles (v.set j k) r + (if v[j].role = r then 1 else 0) = roles v r + if k.role = r then 1 else 0 := by
  have hset : ∀ i : Fin 4, (v.set j k)[i] = if i = j then k else v[i] := fun i => by
    simp only [Fin.getElem_fin, Vector.getElem_set, Fin.ext_iff, eq_comm]
  have h := countP_change (f := fun i => (v.set j k)[i].role == r) (g := fun i => v[i].role == r) (i := j)
    fun i hi => by rw [hset, if_neg hi]
  simp only [beq_iff_eq, hset, if_true] at h
  simpa only [roles, countSlots, hset, if_true] using h

theorem roles_eq_zero : roles v r = 0 ↔ ∀ j : Fin 4, v[j].role ≠ r := by
  simp [roles, countSlots, List.countP_eq_zero]

theorem roles_pos : 0 < roles v r ↔ ∃ j : Fin 4, v[j].role = r := by
  simp [roles, countSlots, List.countP_pos_iff]

theorem roles_le (h : ∀ j : Fin 4, w[j].role = r → v[j].role = r) : roles w r ≤ roles v r := by
  unfold roles countSlots
  exact List.countP_mono_left fun j _ hj => beq_iff_eq.2 (h j (beq_iff_eq.1 hj))

theorem roles_congr (h : ∀ j : Fin 4, w[j].role = r ↔ v[j].role = r) : roles w r = roles v r :=
  Nat.le_antisymm (roles_le fun j => (h j).1) (roles_le fun j => (h j).2)

theorem roles_le_one (h : ∀ i j : Fin 4, v[i].role = r → v[j].role = r → i = j) : roles v r ≤ 1 := by
  unfold roles countSlots
  rw [List.countP_eq_length_filter, ← List.toFinset_card_of_nodup ((List.nodup_finRange 4).filter _)]
  refine Finset.card_le_one.2 fun i hi j hj => h i j ?_ ?_
  · exact beq_iff_eq.1 (List.mem_filter.1 (List.mem_toFinset.1 hi)).2
  · exact beq_iff_eq.1 (List.mem_filter.1 (List.mem_toFinset.1 hj)).2

theorem role_unique (h : roles v r ≤ 1) {i j : Fin 4} (hi : v[i].role = r) (hj : v[j].role = r) : i = j :=
  slot_unique (p := fun k => k.role == r) h (beq_iff_eq.2 hi) (beq_iff_eq.2 hj)

/-- Each of the four slots has one role. -/
theorem roles_sum (v : Vector KeySlot 4) :
    roles v .empty + roles v .pending + roles v .current + roles v .standby + roles v .retiring = 4 := by
  have hgo : ∀ (f : Fin 4 → Role) (l : List (Fin 4)), l.countP (fun j => f j == .empty) + l.countP (fun j => f j == .pending) +
      l.countP (fun j => f j == .current) + l.countP (fun j => f j == .standby) +
      l.countP (fun j => f j == .retiring) = l.length := by
    intro f l
    induction l with
    | nil => rfl
    | cons j l ih =>
      simp only [List.countP_cons, List.length_cons, beq_iff_eq]
      cases f j <;> simp <;> omega
  exact (hgo (fun j => v[j].role) (List.finRange 4)).trans (by simp)

theorem slotWithRole_eq_none : slotWithRole v r = none ↔ roles v r = 0 := by
  rw [roles_eq_zero]
  simp [slotWithRole, findSlot_eq_none]

theorem slotWithRole_isSome : (slotWithRole v r).isSome = true ↔ 0 < roles v r := by
  rw [roles_pos]
  simp [slotWithRole, findSlot_isSome]

end

/-! ## The keys a state allows -/

/-- The keys of four slots are those a state allows (R51, R57, R66, R67). -/
def AssocState.allows (st : AssocState) (v : Vector KeySlot 4) : Prop :=
  match st with
  | .dormant => ∀ j : Fin 4, v[j] = KeySlot.wiped
  | .settling =>
    roles v .current = 0 ∧ roles v .standby = 0 ∧ roles v .retiring = 0 ∧ roles v .pending ≤ 2 ∧
    ∀ i j : Fin 4, v[i].role = .pending → v[j].role = .pending → v[i].epoch = v[j].epoch → i = j
  | .live => roles v .pending = 0 ∧ roles v .current = 1 ∧ roles v .standby ≤ 1 ∧ roles v .retiring ≤ 2
  | .blind => roles v .pending = 0 ∧ roles v .current ≤ 1 ∧ roles v .standby ≤ 1 ∧ roles v .retiring ≤ 2
  | .keyWait => roles v .pending = 0 ∧ roles v .current = 0 ∧ roles v .standby ≤ 1 ∧ roles v .retiring ≤ 2
  | .retired => roles v .pending = 0 ∧ roles v .current = 0 ∧ roles v .standby = 0 ∧ roles v .retiring ≤ 2

theorem keysFitState_iff {s : State} {a : Fin 64} : s.keysFitState a ↔ (s.assoc a).state.allows (s.slots a) := by
  unfold State.keysFitState AssocState.allows
  cases (s.assoc a).state <;> exact Iff.rfl

theorem roles_of_wiped {v : Vector KeySlot 4} (h : ∀ j : Fin 4, v[j] = KeySlot.wiped) {r : Role} (hr : r ≠ .empty) :
    roles v r = 0 :=
  roles_eq_zero.2 fun j hj => hr (by rw [← hj, h]; rfl)

/-- An EMPTY association may settle. -/
theorem settling_allows_of_dormant {v : Vector KeySlot 4} (h : AssocState.dormant.allows v) : AssocState.settling.allows v := by
  have hr := fun r hr => roles_of_wiped h (r := r) hr
  refine ⟨hr _ (by simp), hr _ (by simp), hr _ (by simp), by rw [hr _ (by simp)]; omega, fun i j hi => ?_⟩
  exact absurd hi (roles_eq_zero.1 (hr .pending (by simp)) i)

/-- No state allows a second CURRENT key or a third RETIRING one. -/
theorem AssocState.allows.bounds {st : AssocState} {v : Vector KeySlot 4} (h : st.allows v) :
    roles v .current ≤ 1 ∧ roles v .retiring ≤ 2 := by
  cases st
  case dormant => rw [roles_of_wiped h (by simp), roles_of_wiped h (by simp)]; omega
  all_goals
    obtain ⟨h1, h2, h3, h4⟩ := h
    omega

/-- What holds of the keys of an association in an epoch. -/
theorem AssocState.allows.inEpoch {st : AssocState} {v : Vector KeySlot 4} (h : st.allows v) (he : st.inEpoch = true) :
    roles v .pending = 0 ∧ roles v .current ≤ 1 ∧ roles v .standby ≤ 1 ∧ roles v .retiring ≤ 2 := by
  cases st
  case live | blind | keyWait =>
    obtain ⟨h1, h2, h3, h4⟩ := h
    omega
  all_goals cases he

/-! ## Slots beside the lanes -/

/-- A slot that `n` frames in lanes use: only a CURRENT or RETIRING one is used, a RETIRING one is, and an EMPTY one holds
zeros (R51, R53, R66). -/
def KeySlot.usedBy (k : KeySlot) (n : Nat) : Prop :=
  k.uses = n ∧ (k.uses ≠ 0 → k.role = .current ∨ k.role = .retiring) ∧ (k.role = .retiring → k.uses ≠ 0) ∧
  (k.role = .empty → k = KeySlot.wiped)

theorem usedBy_wiped : KeySlot.wiped.usedBy 0 := ⟨rfl, fun h => absurd rfl h, fun h => Role.noConfusion h, fun _ => rfl⟩

/-- A key not in service is used by no frame. -/
theorem usedBy_unused {k : KeySlot} (hu : k.uses = 0) (hr : k.role ≠ .retiring) (he : k.role ≠ .empty) : k.usedBy 0 :=
  ⟨hu, fun h => absurd hu h, fun h => absurd h hr, fun h => absurd h he⟩

/-- A key in service may be used. -/
theorem KeySlot.usedBy.serving {k : KeySlot} {n : Nat} (h : k.usedBy n) : ({ k with role := .current } : KeySlot).usedBy n :=
  ⟨h.1, fun _ => .inl rfl, fun hr => Role.noConfusion hr, fun hr => Role.noConfusion hr⟩

/-- A key that is used may leave service. -/
theorem KeySlot.usedBy.leaving {k : KeySlot} {n : Nat} (h : k.usedBy n) (hn : k.uses ≠ 0) :
    ({ k with role := .retiring } : KeySlot).usedBy n :=
  ⟨h.1, fun _ => .inr rfl, fun _ => hn, fun hr => Role.noConfusion hr⟩

theorem KeySlot.usedBy.unused {k : KeySlot} {n : Nat} (h : k.usedBy n) (h1 : k.role ≠ .current) (h2 : k.role ≠ .retiring) :
    n = 0 := by
  by_contra hn
  rcases h.2.1 (by rw [h.1]; exact hn) with h | h
  · exact h1 h
  · exact h2 h

/-- How many lanes hold a frame that uses a slot. -/
def State.users (s : State) (a : Fin 64) (j : Fin 4) : Nat := (s.lanesOfSlot { assoc := a, index := j }).length

theorem users_of_lanes {s t : State} (h : t.lanes.lanes = s.lanes.lanes) (a : Fin 64) (j : Fin 4) : t.users a j = s.users a j := by
  unfold State.users State.lanesOfSlot State.lane
  rw [h]

/-- The state of a record beside the device's and the image's: an undefined association is DORMANT, and only while the device
is SETTLING is a defined one SETTLING (R50, R72). -/
def AssocState.suits (st : AssocState) (dev : DeviceState) (defined : Bool) : Prop :=
  (defined = false → st = .dormant) ∧ (dev = .settling → defined = true → st = .settling ∨ st = .retired) ∧
  (dev = .running → st ≠ .settling)

/-- The slots of an association are right beside the lanes, its record and the device state `dev`. -/
structure AssocKept (dev : DeviceState) (s : State) (a : Fin 64) : Prop where
  slots : ∀ j : Fin 4, (s.slots a)[j].usedBy (s.users a j)
  keys : (s.assoc a).state.allows (s.slots a)
  state : (s.assoc a).state.suits dev (s.assocDef a).defined

theorem keysAccounted_iff {s : State} : KeysAccounted s ↔ ∀ a, AssocKept s.device s a := by
  constructor
  · rintro ⟨h1, h2, h3, h4, h5, h6, h7, h8⟩ a
    exact ⟨fun j => ⟨h1 ⟨a, j⟩, h2 ⟨a, j⟩, h3 ⟨a, j⟩, h4 ⟨a, j⟩⟩, keysFitState_iff.1 (h5 a), h6 a, h7 a, h8 a⟩
  · intro h
    exact ⟨fun r => ((h r.assoc).slots r.index).1, fun r => ((h r.assoc).slots r.index).2.1,
      fun r => ((h r.assoc).slots r.index).2.2.1, fun r => ((h r.assoc).slots r.index).2.2.2,
      fun a => keysFitState_iff.2 (h a).keys, fun a => (h a).state.1, fun a => (h a).state.2.1, fun a => (h a).state.2.2⟩

/-- The slots of an association in state `st` are right when those of `s` are and nothing else bears on them. -/
theorem AssocKept.of_state {dev : DeviceState} {s t : State} {a : Fin 64} {st : AssocState}
    (hu : ∀ j : Fin 4, (s.slots a)[j].usedBy (s.users a j)) (hall : st.allows (s.slots a))
    (hsu : st.suits dev (t.assocDef a).defined) (hst : (t.assoc a).state = st) (hk : t.slots a = s.slots a)
    (hl : t.lanes = s.lanes) : AssocKept dev t a :=
  ⟨fun j => by rw [hk, users_of_lanes (s := s) (by rw [hl])]; exact hu j, by rw [hk, hst]; exact hall, by rw [hst]; exact hsu⟩

theorem AssocKept.congr {dev : DeviceState} {s t : State} {a : Fin 64} (h : AssocKept dev s a) (hk : t.slots a = s.slots a)
    (hu : ∀ j, t.users a j = s.users a j) (hs : (t.assoc a).state = (s.assoc a).state)
    (hd : (t.assocDef a).defined = (s.assocDef a).defined) : AssocKept dev t a :=
  ⟨fun j => by rw [hk, hu]; exact h.slots j, by rw [hk, hs]; exact h.keys, by rw [hs, hd]; exact h.state⟩

end Sys2Proof.Machine
end

section
/-! SUPPORT. A key leaves service: the third RETIRING key with its frames, and the CURRENT one (R66, R67, R137). -/

namespace Sys2Proof.Machine

variable {s t : State} {a : Fin 64}

/-! ## The older RETIRING key (R67) -/

/-- The older of a key so far and a slot, if that is RETIRING (R67). -/
def olderRetiring (v : Vector KeySlot 4) (best : Option (Fin 4)) (j : Fin 4) : Option (Fin 4) :=
  if v[j].role = .retiring then
    match best with
    | none => some j
    | some b => if v[j].epoch < v[b].epoch then some j else some b
  else best

theorem oldestRetiring_eq (v : Vector KeySlot 4) : oldestRetiring v = (List.finRange 4).foldl (olderRetiring v) none := rfl

theorem olderRetiring_spec (v : Vector KeySlot 4) (best : Option (Fin 4)) (j : Fin 4) :
    (∀ b, best = some b → ∃ o, olderRetiring v best j = some o ∧ v[o].epoch ≤ v[b].epoch) ∧
      (v[j].role = .retiring → ∃ o, olderRetiring v best j = some o ∧ v[o].epoch ≤ v[j].epoch) := by
  unfold olderRetiring
  split
  · cases best with
    | none => exact ⟨fun b hb => (by cases hb), fun _ => ⟨j, rfl, le_rfl⟩⟩
    | some b =>
      simp only
      split
      · rename_i hlt
        exact ⟨fun c hc => ⟨j, rfl, by cases hc; exact hlt.le⟩, fun _ => ⟨j, rfl, le_rfl⟩⟩
      · rename_i hge
        exact ⟨fun c hc => ⟨b, rfl, by cases hc; exact le_rfl⟩, fun _ => ⟨b, rfl, by omega⟩⟩
  · rename_i hr
    exact ⟨fun b hb => ⟨b, hb, le_rfl⟩, fun h => absurd h hr⟩

/-- Some RETIRING slot is found, and none is of a lower epoch. -/
theorem oldestRetiring_spec {v : Vector KeySlot 4} {i : Fin 4} (hi : v[i].role = .retiring) :
    ∃ o, oldestRetiring v = some o ∧ v[o].epoch ≤ v[i].epoch := by
  have hgo : ∀ (l : List (Fin 4)) (best : Option (Fin 4)),
      (∀ b, best = some b → ∃ o, l.foldl (olderRetiring v) best = some o ∧ v[o].epoch ≤ v[b].epoch) ∧
      (∀ j ∈ l, v[j].role = .retiring → ∃ o, l.foldl (olderRetiring v) best = some o ∧ v[o].epoch ≤ v[j].epoch) := by
    intro l
    induction l with
    | nil => exact fun best => ⟨fun b hb => ⟨b, hb, le_rfl⟩, by simp⟩
    | cons j l ih =>
      intro best
      obtain ⟨hb, hj⟩ := olderRetiring_spec v best j
      obtain ⟨ihb, ihj⟩ := ih (olderRetiring v best j)
      refine ⟨fun b hbest => ?_, fun k hk hr => ?_⟩
      · obtain ⟨o, ho, hle⟩ := hb b hbest
        obtain ⟨o', ho', hle'⟩ := ihb o ho
        exact ⟨o', ho', hle'.trans hle⟩
      · rcases List.mem_cons.1 hk with rfl | hk
        · obtain ⟨o, ho, hle⟩ := hj hr
          obtain ⟨o', ho', hle'⟩ := ihb o ho
          exact ⟨o', ho', hle'.trans hle⟩
        · exact ihj k hk hr
  exact (hgo (List.finRange 4) none).2 i (List.mem_finRange i) hi

/-! ## The slot of the older key is freed (R67, R137) -/

theorem leaves_abandonLane {l : Fin 4} {f : Nat} (h : (s.lane l).frame? = some f) (r : SlotRef) :
    Leaves s (abandonLane r s l) l f := by
  have hb : Posts s (loseUse r (bump r.assoc .retiredInFlight 1 s)) [] := posts_of_status rfl rfl rfl rfl
  obtain ⟨h1, h2, h3, h4, h5, h6, p, hp, hq, hm⟩ :=
    leaves_removeLaneFrame (s := loseUse r (bump r.assoc .retiredInFlight 1 s)) (l := l) (f := f) h
  exact ⟨h1, h2, h3, h4, h5, h6, p, hb.trans hp, hq, hm⟩

/-- The frames of some lanes leave one after another. -/
theorem aborts_foldl {step : State → Fin 4 → State}
    (hstep : ∀ (s : State) (m : Fin 4) (f : Nat), (s.lane m).frame? = some f → Leaves s (step s m) m f)
    {L : List (Fin 4)} (hL : L.Nodup) {s : State} (hf : ∀ m ∈ L, ((s.lane m).frame?).isSome = true) :
    Aborts s (L.foldl step s) L := by
  induction L generalizing s with
  | nil => exact ⟨fun m => by simp, by simp [State.framesIn], fun x => by simp [State.framesIn], [], posts_nil rfl rfl rfl rfl, by simp⟩
  | cons m L ih =>
    obtain ⟨hm, hL⟩ := List.nodup_cons.1 hL
    obtain ⟨f, hmf⟩ := Option.isSome_iff_exists.1 (hf m (by simp))
    have hl := hstep s m f hmf
    obtain ⟨h1, h2, h3, p, hp, hq⟩ := ih hL (s := step s m) fun k hk => by
      rw [hl.lane_ne (ne_of_mem_of_not_mem hk hm)]
      exact hf k (by simp [hk])
    obtain ⟨p', hp', hq', -⟩ := hl.posts
    rw [hl.framesIn hm] at h2 h3
    refine ⟨fun k => ?_, ?_, fun x => ?_, p' ++ p, hp'.trans hp, fun n hn => (List.mem_append.1 hn).elim (hq' n) (hq n)⟩
    · rw [List.foldl_cons, h1 k, hl.lane k]
      by_cases hk : k = m <;> simp [hk]
    · rw [List.foldl_cons, h2, hl.completion, framesIn_cons hmf, List.filter_filter]
      refine List.filter_congr fun y _ => ?_
      rw [List.contains_cons, Bool.not_or, Bool.and_comm]
      rfl
    · rw [List.foldl_cons, h3 x, hl.frames x, framesIn_cons hmf]
      by_cases hx : x = f <;> simp [hx]

theorem mem_lanesOfSlot {r : SlotRef} {m : Fin 4} : m ∈ s.lanesOfSlot r ↔ (s.lane m).slot? = some r := by
  simp [State.lanesOfSlot]

theorem lanesOfSlot_nodup (r : SlotRef) : (s.lanesOfSlot r).Nodup := (List.nodup_finRange 4).filter _

theorem count_abandonLane (r : SlotRef) (s : State) (l : Fin 4) :
    (abandonLane r s l).count r.assoc .retiredInFlight = satAdd48 (s.count r.assoc .retiredInFlight) 1 := by
  rw [abandonLane, count_removeLaneFrame]
  exact count_bump_self s r.assoc .retiredInFlight 1

theorem count_abandonLanes (r : SlotRef) {L : List (Fin 4)} (hL : L ≠ []) (s : State) :
    (L.foldl (abandonLane r) s).count r.assoc .retiredInFlight = satAdd48 (s.count r.assoc .retiredInFlight) L.length := by
  induction L generalizing s with
  | nil => exact absurd rfl hL
  | cons m L ih =>
    by_cases hl : L = []
    · rw [hl]
      exact count_abandonLane r s m
    · rw [List.foldl_cons, ih hl, count_abandonLane, satAdd48_satAdd48, List.length_cons, Nat.add_comm]

/-- A RETIRING slot is freed: it is wiped, and the frames that name it have left their lanes (R67, R137). -/
structure Frees (s t : State) (r : SlotRef) : Prop where
  aborts : Aborts s t (s.lanesOfSlot r)
  slot : ∀ p, t.slot p = if p = r then KeySlot.wiped else s.slot p
  counted : s.lanesOfSlot r ≠ [] →
    t.count r.assoc .retiredInFlight = satAdd48 (s.count r.assoc .retiredInFlight) (s.lanesOfSlot r).length

theorem freeOldestRetiring_eq {j : Fin 4} (h : oldestRetiring (s.slots a) = some j) :
    freeOldestRetiring a s = wipeSlot { assoc := a, index := j }
      ((s.lanesOfSlot { assoc := a, index := j }).foldl (abandonLane { assoc := a, index := j }) s) := by
  simp only [freeOldestRetiring, h]

theorem frees_freeOldestRetiring {j : Fin 4} (h : oldestRetiring (s.slots a) = some j) :
    Frees s (freeOldestRetiring a s) { assoc := a, index := j } := by
  rw [freeOldestRetiring_eq h]
  have hab := aborts_foldl (fun s m f hf => leaves_abandonLane (s := s) hf { assoc := a, index := j })
    (lanesOfSlot_nodup (s := s) { assoc := a, index := j }) (fun m hm => slot?_frame? (mem_lanesOfSlot.1 hm))
  obtain ⟨h1, h2, h3, p, hp, hq⟩ := hab
  refine ⟨⟨h1, h2, h3, p, hp.thenSame (by simp) (by simp) (by simp) (by simp), hq⟩, fun q => ?_, fun hne => count_abandonLanes _ hne s⟩
  rw [wipeSlot_slot]
  split
  · rfl
  · rename_i hne
    exact abandonLanes_slot_ne hne _ s

/-- The lanes that name another slot hold on to their frames. -/
theorem Aborts.lanesOfSlot {r : SlotRef} (h : Aborts s t (s.lanesOfSlot r)) (p : SlotRef) :
    t.lanesOfSlot p = if p = r then [] else s.lanesOfSlot p := by
  have hlane : ∀ l, (t.lane l).slot? = if (s.lane l).slot? = some r then none else (s.lane l).slot? := fun l => by
    rw [h.lane l]
    simp only [mem_lanesOfSlot]
    split <;> rfl
  unfold State.lanesOfSlot
  split
  · rename_i hp
    refine List.filter_eq_nil_iff.2 fun l _ => ?_
    rw [hlane, hp, beq_iff_eq]
    split
    · simp
    · assumption
  · rename_i hp
    refine List.filter_congr fun l _ => ?_
    rw [hlane]
    split
    · rename_i hl
      simp [hl, Ne.symm hp]
    · rfl

theorem Housed.abandonLanes {hand : List Nat} (h : Housed hand s) (r : SlotRef) (L : List (Fin 4)) :
    Housed hand (L.foldl (abandonLane r) s) := by
  induction L generalizing s with
  | nil => exact h
  | cons m L ih =>
    have hu : Housed hand (loseUse r (bump r.assoc .retiredInFlight 1 s)) := h.same (sameFrames_of (by simp))
    exact ih (hu.removeLaneFrame m)

theorem Housed.freeOldestRetiring {hand : List Nat} (h : Housed hand s) (a : Fin 64) :
    Housed hand (freeOldestRetiring a s) := by
  cases hj : oldestRetiring (s.slots a) with
  | none => simpa only [Machine.freeOldestRetiring, hj] using h
  | some j =>
    rw [freeOldestRetiring_eq hj]
    have hu := h.abandonLanes { assoc := a, index := j } (s.lanesOfSlot { assoc := a, index := j })
    exact hu.same (sameFrames_of (by simp))

theorem Housed.retireCurrent {hand : List Nat} (h : Housed hand s) (a : Fin 64) : Housed hand (retireCurrent a s) := by
  fun_cases Machine.retireCurrent a s
  case case1 => exact h.same (sameFrames_of (by simp))
  case case2 j hj r hu s1 =>
    have h1 : Housed hand s1 := by
      unfold s1
      split
      · exact h.freeOldestRetiring a
      · exact h
    exact h1.same (sameFrames_of (by simp))
  case case3 => exact h

/-! ## The slots of the association beside its lanes -/

/-- The slots of an association are those that the lanes use. -/
def SlotsUsed (s : State) (a : Fin 64) : Prop := ∀ j : Fin 4, (s.slots a)[j].usedBy (s.users a j)

theorem setSlot_slots (s : State) (a : Fin 64) (j : Fin 4) (k : KeySlot) :
    (s.setSlot { assoc := a, index := j } k).slots a = (s.slots a).set j k := by
  simp [State.slots, State.setSlot]

theorem slot_set_get {α : Type} (v : Vector α 4) (q p : Fin 4) (x : α) : (v.set q x)[p] = if p = q then x else v[p] := by
  simp only [Fin.getElem_fin, Vector.getElem_set, Fin.ext_iff, eq_comm]

theorem SlotsUsed.congr (h : SlotsUsed s a) (hk : t.slots a = s.slots a) (hl : t.lanes.lanes = s.lanes.lanes) :
    SlotsUsed t a := fun j => by
  rw [hk, users_of_lanes hl]
  exact h j

theorem SlotsUsed.setSlot (h : SlotsUsed s a) {j : Fin 4} {k : KeySlot} (hk : k.usedBy (s.users a j)) :
    SlotsUsed (s.setSlot { assoc := a, index := j } k) a := fun i => by
  rw [setSlot_slots, users_of_lanes (s := s) (by simp), slot_set_get]
  split
  · rename_i hij
    rw [hij]
    exact hk
  · exact h i

theorem Frees.slots {o : Fin 4} (h : Frees s t { assoc := a, index := o }) : t.slots a = (s.slots a).set o KeySlot.wiped :=
  Vector.ext fun i hi => by
    have hget := slot_set_get (s.slots a) o ⟨i, hi⟩ KeySlot.wiped
    refine (h.slot { assoc := a, index := ⟨i, hi⟩ }).trans ?_
    refine Eq.trans ?_ hget.symm
    refine if_congr ?_ rfl rfl
    rw [SlotRef.mk.injEq, and_iff_right rfl]

theorem SlotsUsed.frees {o : Fin 4} (h : SlotsUsed s a) (k : Frees s t { assoc := a, index := o }) : SlotsUsed t a := fun i => by
  rw [k.slots, slot_set_get, State.users, k.aborts.lanesOfSlot]
  by_cases hi : i = o
  · rw [if_pos hi, if_pos (by rw [hi])]
    exact usedBy_wiped
  · rw [if_neg hi, if_neg fun he => hi (SlotRef.mk.inj he).2]
    exact h i

/-! ## The CURRENT key leaves service (R66, R67) -/

theorem retireCurrent_of_none (h : roles (s.slots a) .current = 0) : retireCurrent a s = s := by
  simp only [retireCurrent, slotWithRole_eq_none.2 h]

section
variable {j : Fin 4} (hj : slotWithRole (s.slots a) .current = some j)
include hj

theorem retireCurrent_of_unused (hu : (s.slots a)[j].uses = 0) :
    retireCurrent a s = wipeSlot { assoc := a, index := j } s := by
  simp only [retireCurrent, hj]
  exact if_pos hu

/-- The state once a third RETIRING key has made room. -/
def State.roomForRetiring (s : State) (a : Fin 64) : State :=
  if 2 ≤ roles (s.slots a) .retiring then freeOldestRetiring a s else s

theorem retireCurrent_of_used (hu : (s.slots a)[j].uses ≠ 0) :
    retireCurrent a s = (s.roomForRetiring a).setSlot { assoc := a, index := j } { (s.slots a)[j] with role := .retiring } := by
  have hrole := slotWithRole_role hj
  have hslot : (s.roomForRetiring a).slot { assoc := a, index := j } = (s.slots a)[j] := by
    unfold State.roomForRetiring
    split
    · rcases freeOldestRetiring_slot a s { assoc := a, index := j } with h | ⟨-, h, -⟩
      · exact h
      · exact absurd (h.symm.trans hrole) (by simp)
    · rfl
  rw [← hslot]
  simp only [retireCurrent, hj]
  exact if_neg hu

end

/-- The keys of an association whose CURRENT one has left service. -/
structure KeyGone (s t : State) (a : Fin 64) : Prop where
  used : SlotsUsed t a
  current : roles (t.slots a) .current = 0
  retiring : roles (t.slots a) .retiring ≤ 2
  standby : roles (t.slots a) .standby = roles (s.slots a) .standby
  pending : roles (t.slots a) .pending = roles (s.slots a) .pending
  lanes : ∀ p : SlotRef, p.assoc ≠ a → t.lanesOfSlot p = s.lanesOfSlot p

/-- The room made for a third RETIRING key. -/
theorem roomForRetiring_spec (h : SlotsUsed s a) (hr : roles (s.slots a) .retiring ≤ 2) :
    SlotsUsed (s.roomForRetiring a) a ∧ roles ((s.roomForRetiring a).slots a) .retiring ≤ 1 ∧
      (∀ r : Role, r ≠ .empty → r ≠ .retiring → roles ((s.roomForRetiring a).slots a) r = roles (s.slots a) r) ∧
      (∀ j, (s.slots a)[j].role ≠ .retiring → ((s.roomForRetiring a).slots a)[j] = (s.slots a)[j] ∧
        (s.roomForRetiring a).users a j = s.users a j) ∧
      ∀ p : SlotRef, p.assoc ≠ a → (s.roomForRetiring a).lanesOfSlot p = s.lanesOfSlot p := by
  by_cases hc : 2 ≤ roles (s.slots a) .retiring
  · have hroom : s.roomForRetiring a = freeOldestRetiring a s := if_pos hc
    rw [hroom]
    obtain ⟨i, hi⟩ := roles_pos.1 (show 0 < roles (s.slots a) .retiring by omega)
    obtain ⟨o, ho, -⟩ := oldestRetiring_spec hi
    have k := frees_freeOldestRetiring ho
    have hrole := oldestRetiring_role ho
    have hset := fun r => roles_set (s.slots a) o KeySlot.wiped r
    refine ⟨h.frees k, ?_, fun r hre hrr => ?_, fun j hj => ?_, fun p hp => ?_⟩
    · have := hset .retiring
      rw [if_pos hrole, if_neg (show KeySlot.wiped.role ≠ Role.retiring by simp [KeySlot.wiped])] at this
      rw [k.slots]
      omega
    · have := hset r
      rw [hrole, if_neg hrr.symm, if_neg (show KeySlot.wiped.role ≠ r from hre.symm)] at this
      rw [k.slots]
      omega
    · have hne : j ≠ o := fun he => hj (he ▸ hrole)
      rw [k.slots, slot_set_get, if_neg hne, State.users, k.aborts.lanesOfSlot, if_neg fun he => hne (SlotRef.mk.inj he).2]
      exact ⟨rfl, rfl⟩
    · rw [k.aborts.lanesOfSlot, if_neg fun he => hp (by rw [he])]
  · have hroom : s.roomForRetiring a = s := if_neg hc
    rw [hroom]
    exact ⟨h, by omega, fun _ _ _ => rfl, fun _ _ => ⟨rfl, rfl⟩, fun _ _ => rfl⟩

theorem keyGone_retireCurrent (h : SlotsUsed s a) (hc : roles (s.slots a) .current ≤ 1)
    (hr : roles (s.slots a) .retiring ≤ 2) : KeyGone s (retireCurrent a s) a := by
  cases hj : slotWithRole (s.slots a) .current with
  | none =>
    have h0 := slotWithRole_eq_none.1 hj
    rw [retireCurrent_of_none h0]
    exact ⟨h, h0, hr, rfl, rfl, fun _ _ => rfl⟩
  | some j =>
    have hrole := slotWithRole_role hj
    by_cases hu : (s.slots a)[j].uses = 0
    · have hset := fun r => roles_set (s.slots a) j KeySlot.wiped r
      rw [hrole] at hset
      have hz : s.users a j = 0 := (h j).1.symm.trans hu
      rw [retireCurrent_of_unused hj hu, wipeSlot]
      refine ⟨h.setSlot (by rw [hz]; exact usedBy_wiped), ?_, ?_, ?_, ?_, fun _ _ => rfl⟩
      all_goals rw [setSlot_slots]
      · have := hset .current; simp [KeySlot.wiped] at this ⊢; omega
      · have := hset .retiring; simp [KeySlot.wiped] at this ⊢; omega
      · have := hset .standby; simp [KeySlot.wiped] at this ⊢; omega
      · have := hset .pending; simp [KeySlot.wiped] at this ⊢; omega
    · obtain ⟨hw, hret, hroles, hsame, hlanes⟩ := roomForRetiring_spec h hr
      obtain ⟨hslot, husers⟩ := hsame j (by rw [hrole]; simp)
      rw [retireCurrent_of_used hj hu]
      set u := s.roomForRetiring a
      have hk := (h j).leaving hu
      rw [← husers] at hk
      have hkr : ({ (s.slots a)[j] with role := .retiring } : KeySlot).role = .retiring := rfl
      generalize ({ (s.slots a)[j] with role := .retiring } : KeySlot) = k at hk hkr
      have hset := fun r => roles_set (u.slots a) j k r
      rw [hslot, hrole, hkr] at hset
      refine ⟨hw.setSlot hk, ?_, ?_, ?_, ?_, hlanes⟩
      all_goals rw [setSlot_slots]
      · have := hset .current
        rw [hroles _ (by simp) (by simp)] at this
        simp only [if_true, reduceCtorEq, if_false] at this
        omega
      · have := hset .retiring
        simp only [if_true, reduceCtorEq, if_false] at this
        omega
      · have := hset .standby
        rw [hroles _ (by simp) (by simp)] at this
        simpa using this
      · have := hset .pending
        rw [hroles _ (by simp) (by simp)] at this
        simpa using this

end Sys2Proof.Machine
end

section
/-! SUPPORT. Frames and keys accounted for, under requests, retirement, advances and delivered messages (R14, R17 to R24, R61 to
R70). -/

namespace Sys2Proof.Machine

variable {hand : List Nat} {dev : DeviceState} {s t u : State} {a : Fin 64}

/-! ## Frames and keys together -/

/-- Every frame but those in hand has its place, and the slots of every association fit its state and the lanes, while the device
state is `dev`. -/
structure Accounted (hand : List Nat) (dev : DeviceState) (s : State) : Prop where
  housed : Housed hand s
  kept : ∀ a, AssocKept dev s a

theorem AssocKept.plain (h : AssocKept dev s a) (hk : t.slots a = s.slots a) (hl : t.lanes.lanes = s.lanes.lanes)
    (hs : (t.assoc a).state = (s.assoc a).state) (hi : t.image = s.image) : AssocKept dev t a :=
  h.congr hk (users_of_lanes hl a) hs (by rw [assocDef_eq_of_image hi])

/-- Nothing that is accounted for differs, unless it be a record that keeps its state. -/
theorem Accounted.still (h : Accounted hand dev s) (hf : SameFrames s t) (hk : t.keys = s.keys)
    (hs : ∀ b, (t.assoc b).state = (s.assoc b).state) (hi : t.image = s.image) : Accounted hand dev t :=
  ⟨h.housed.same hf, fun b => (h.kept b).plain (slots_eq_of_keys hk b) (by rw [hf.lanes]) (hs b) hi⟩

theorem Accounted.plain (h : Accounted hand dev s) (hsame : t.buf = s.buf ∧ t.disp.park = s.disp.park ∧
    t.disp.parkedCells = s.disp.parkedCells ∧ t.lanes = s.lanes ∧ t.campus.sending = s.campus.sending ∧ t.keys = s.keys ∧
    t.assocs = s.assocs ∧ t.image = s.image) : Accounted hand dev t := by
  obtain ⟨hb, hp, hc, hl, hs, hk, ha, hi⟩ := hsame
  exact h.still (sameFrames_of ⟨hb, hp, hc, hl, hs⟩) hk (fun b => by rw [assoc_eq_of_assocs ha]) hi

theorem Accounted.foldl {α : Type} {f : State → α → State} (h : Accounted hand dev s)
    (hf : ∀ u x, Accounted hand dev u → Accounted hand dev (f u x)) (l : List α) : Accounted hand dev (l.foldl f s) :=
  List.foldlRecOn (motive := Accounted hand dev) l f h (fun u hu x _ => hf u x hu)

/-- A record is changed but keeps its state. -/
theorem Accounted.modAssoc (h : Accounted hand dev s) (a : Fin 64) {f : Assoc → Assoc}
    (hf : ∀ r, (f r).state = r.state) : Accounted hand dev (s.modAssoc a f) := by
  refine h.still (sameFrames_of (by simp)) rfl (fun b => ?_) rfl
  by_cases hb : b = a
  · rw [hb, modAssoc_assoc_self, hf]
  · rw [modAssoc_assoc_ne s f hb]

/-- One record is changed but keeps its state. -/
theorem Accounted.record (h : Accounted hand dev s) (a : Fin 64)
    (ho : ∀ b, b ≠ a → t.assoc b = s.assoc b) (hsame : (t.assoc a).state = (s.assoc a).state ∧ t.buf = s.buf ∧
    t.disp.park = s.disp.park ∧ t.disp.parkedCells = s.disp.parkedCells ∧ t.lanes = s.lanes ∧
    t.campus.sending = s.campus.sending ∧ t.keys = s.keys ∧ t.image = s.image) : Accounted hand dev t := by
  obtain ⟨hst, hb, hp, hc, hl, hs, hk, hi⟩ := hsame
  refine h.still (sameFrames_of ⟨hb, hp, hc, hl, hs⟩) hk (fun b => ?_) hi
  by_cases hba : b = a
  · rw [hba, hst]
  · rw [ho b hba]

/-- What is accounted of the associations other than `a` does not differ. -/
structure KeepsOthers (a : Fin 64) (s t : State) : Prop where
  slots : ∀ b, b ≠ a → t.slots b = s.slots b
  states : ∀ b, b ≠ a → (t.assoc b).state = (s.assoc b).state
  lanes : ∀ p : SlotRef, p.assoc ≠ a → t.lanesOfSlot p = s.lanesOfSlot p
  image : t.image = s.image

theorem KeepsOthers.trans (h : KeepsOthers a s u) (k : KeepsOthers a u t) : KeepsOthers a s t :=
  ⟨fun b hb => (k.slots b hb).trans (h.slots b hb), fun b hb => (k.states b hb).trans (h.states b hb),
    fun p hp => (k.lanes p hp).trans (h.lanes p hp), k.image.trans h.image⟩

theorem lanesOfSlot_of_lanes (h : t.lanes.lanes = s.lanes.lanes) (p : SlotRef) : t.lanesOfSlot p = s.lanesOfSlot p := by
  unfold State.lanesOfSlot State.lane
  rw [h]

theorem KeepsOthers.of_lanes (hsame : t.lanes = s.lanes ∧ t.image = s.image) (hk : ∀ b, b ≠ a → t.slots b = s.slots b)
    (hs : ∀ b, b ≠ a → (t.assoc b).state = (s.assoc b).state) : KeepsOthers a s t :=
  ⟨hk, hs, fun p _ => lanesOfSlot_of_lanes (by rw [hsame.1]) p, hsame.2⟩

theorem Accounted.change {hand' : List Nat} (h : Accounted hand dev s) (k : KeepsOthers a s t) (hh : Housed hand' t)
    (ha : AssocKept dev t a) : Accounted hand' dev t :=
  ⟨hh, fun b => by
    by_cases hb : b = a
    · rw [hb]; exact ha
    · exact (h.kept b).congr (k.slots b hb) (fun j => congrArg List.length (k.lanes ⟨b, j⟩ hb)) (k.states b hb)
        (by rw [assocDef_eq_of_image k.image])⟩

/-! ## States of records -/

/-- An association in an epoch is defined, and the device is not SETTLING (R50, R72). -/
theorem AssocState.suits.of_inEpoch {st : AssocState} {b : Bool} (h : st.suits dev b) (he : st.inEpoch = true) :
    b = true ∧ dev ≠ .settling := by
  have hb : b = true := by
    by_contra hb
    rw [h.1 (by simpa using hb)] at he
    cases he
  refine ⟨hb, fun hd => ?_⟩
  rcases h.2.1 hd hb with hs | hs
  all_goals
    rw [hs] at he
    cases he

theorem suits_of_defined {st : AssocState} (hd : dev ≠ .settling) (hs : st ≠ .settling) : st.suits dev true :=
  ⟨fun h => (by cases h), fun h => absurd h hd, fun _ => hs⟩

theorem suits_retired : AssocState.retired.suits dev true :=
  ⟨fun h => (by cases h), fun _ _ => .inr rfl, fun _ => by simp⟩

/-! ## Keys discarded -/

theorem discardKeys_get (a : Fin 64) (p : KeySlot → Bool) (s : State) (j : Fin 4) :
    ((discardKeys a p s).slots a)[j] = if p (s.slots a)[j] = true then KeySlot.wiped else (s.slots a)[j] := by
  refine (discardKeys_slot a p s { assoc := a, index := j }).trans ?_
  exact if_congr (and_iff_right rfl) rfl rfl

theorem SlotsUsed.discardKeys (h : SlotsUsed s a) {p : KeySlot → Bool}
    (hp : ∀ k, p k = true → k.role = .standby ∨ k.role = .pending) : SlotsUsed (discardKeys a p s) a := fun j => by
  rw [discardKeys_get, users_of_lanes (s := s) (by simp)]
  split
  · rename_i hj
    have hu : s.users a j = 0 := by
      rcases hp _ hj with hr | hr
      · exact (h j).unused (hr.trans_ne (by simp)) (hr.trans_ne (by simp))
      · exact (h j).unused (hr.trans_ne (by simp)) (hr.trans_ne (by simp))
    rw [hu]
    exact usedBy_wiped
  · exact h j

/-- A role no discarded key has is that of as many slots as before. -/
theorem roles_discardKeys {p : KeySlot → Bool} {r : Role} (hr : r ≠ .empty)
    (hp : ∀ k, p k = true → k.role ≠ r) (s : State) : roles ((discardKeys a p s).slots a) r = roles (s.slots a) r := by
  refine roles_congr fun j => ?_
  rw [discardKeys_get]
  split
  · rename_i hj
    exact ⟨fun h => absurd h.symm hr, fun h => absurd h (hp _ hj)⟩
  · exact Iff.rfl

theorem roles_discardKeys_zero {p : KeySlot → Bool} {r : Role} (hr : r ≠ .empty)
    (hp : ∀ k : KeySlot, k.role = r → p k = true) (s : State) : roles ((discardKeys a p s).slots a) r = 0 := by
  refine roles_eq_zero.2 fun j => ?_
  rw [discardKeys_get]
  split
  · exact hr.symm
  · rename_i hj
    exact fun h => hj (hp _ h)

/-! ## Retirement and requests (R14, R61, R70) -/

theorem Accounted.postNotice (h : Accounted hand dev s) (n : Notice) : Accounted hand dev (postNotice n s) := h.plain (by simp)

theorem Accounted.postMark (h : Accounted hand dev s) (a : Fin 64) (c : ExcClass) : Accounted hand dev (postMark a c s) :=
  h.plain (by simp)

theorem Accounted.postAllMarks (h : Accounted hand dev s) (a : Fin 64) : Accounted hand dev (postAllMarks a s) := h.plain (by simp)

theorem Accounted.report (h : Accounted hand dev s) (c : ExcClass) (a : Option (Fin 64)) (v k : Nat) :
    Accounted hand dev (report c a v k s) := h.plain (by simp)

theorem Accounted.bump (h : Accounted hand dev s) (a : Fin 64) (c : AssocCount) (k : Nat) :
    Accounted hand dev (bump a c k s) := h.plain (by simp)

theorem Accounted.requestTx (h : Accounted hand dev s) (k : MsgKind) (a : Fin 64) : Accounted hand dev (requestTx k a s) :=
  h.plain (by simp)

theorem Accounted.removeTx (h : Accounted hand dev s) (k : MsgKind) (a : Fin 64) : Accounted hand dev (removeTx k a s) :=
  h.plain (by simp)

theorem Accounted.cancelAdvance (h : Accounted hand dev s) (a : Fin 64) : Accounted hand dev (cancelAdvance a s) :=
  h.record a (by intro b hb; simp [hb]) (by simp)

theorem Accounted.cancelClaim (h : Accounted hand dev s) (a : Fin 64) : Accounted hand dev (cancelClaim a s) :=
  h.record a (by intro b hb; simp [hb]) (by simp)

theorem Accounted.discardReservation (h : Accounted hand dev s) (a : Fin 64) (c : AssocCount) :
    Accounted hand dev (discardReservation a c s) :=
  h.record a (by intro b hb; simp [hb]) (by simp)

theorem keepsOthers_retireRecord (a : Fin 64) (s : State) : KeepsOthers a s (retireRecord a s) :=
  .of_lanes (by simp) (fun b _ => slots_eq_of_keys (by simp) b) fun b hb => by simp [hb]

theorem keepsOthers_retireCurrent {a : Fin 64} (k : KeyGone s (retireCurrent a s) a) : KeepsOthers a s (retireCurrent a s) :=
  ⟨fun _ hb => retireCurrent_slots_ne hb s, fun b _ => congrArg Assoc.state (assoc_eq_of_assocs (by simp) b), k.lanes, by simp⟩

theorem keepsOthers_discardKeys (a : Fin 64) (p : KeySlot → Bool) (s : State) : KeepsOthers a s (discardKeys a p s) :=
  .of_lanes (by simp) (fun _ hb => discardKeys_slots_ne hb p s) fun b _ => congrArg Assoc.state (assoc_eq_of_assocs (by simp) b)

/-- The key of a STANDBY or PENDING slot. -/
def KeySlot.waits (k : KeySlot) : Bool := k.role == .standby || k.role == .pending

theorem KeySlot.waits_iff {k : KeySlot} : k.waits = true ↔ k.role = .standby ∨ k.role = .pending := by simp [KeySlot.waits]

/-- The keys of an association whose record is RETIRED leave service (R70). -/
theorem Accounted.retireKeys {s1 : State} (h : Accounted hand dev s) (k : KeepsOthers a s s1) (hf : SameFrames s s1)
    (hk : s1.slots a = s.slots a) (hs : (s1.assoc a).state = .retired) (hd : (s.assocDef a).defined = true) :
    Accounted hand dev (discardKeys a KeySlot.waits (retireCurrent a s1)) := by
  obtain ⟨hcur, hret⟩ := (h.kept a).keys.bounds
  have hused : SlotsUsed s1 a := SlotsUsed.congr (fun j => (h.kept a).slots j) hk (by rw [hf.lanes])
  have hg : KeyGone s1 (retireCurrent a s1) a :=
    keyGone_retireCurrent hused (by rw [hk]; exact hcur) (by rw [hk]; exact hret)
  have hstate : ((discardKeys a KeySlot.waits (retireCurrent a s1)).assoc a).state = .retired := by
    rw [← hs]
    exact congrArg Assoc.state (assoc_eq_of_assocs (by simp) a)
  have hother : ∀ r : Role, r ≠ .standby → r ≠ .pending → ∀ x : KeySlot, x.waits = true → x.role ≠ r := by
    rintro r h1 h2 x hx rfl
    rcases KeySlot.waits_iff.1 hx with hx | hx
    · exact h1 hx
    · exact h2 hx
  refine h.change ((k.trans (keepsOthers_retireCurrent hg)).trans (keepsOthers_discardKeys a _ _))
    (((h.housed.same hf).retireCurrent a).same (sameFrames_of (by simp))) ⟨hg.used.discardKeys fun _ => KeySlot.waits_iff.1, ?_, ?_⟩
  · rw [hstate]
    refine ⟨roles_discardKeys_zero (by simp) (fun x hx => KeySlot.waits_iff.2 (.inr hx)) _, ?_,
      roles_discardKeys_zero (by simp) (fun x hx => KeySlot.waits_iff.2 (.inl hx)) _, ?_⟩
    · rw [roles_discardKeys (by simp) (hother _ (by simp) (by simp))]
      exact hg.current
    · rw [roles_discardKeys (by simp) (hother _ (by simp) (by simp))]
      exact hg.retiring
  · rw [hstate, assocDef_eq_of_image (s := s1) (by simp), assocDef_eq_of_image k.image, hd]
    exact suits_retired

theorem Accounted.retire (h : Accounted hand dev s) (hd : (s.assocDef a).defined = true) (e : Bool) :
    Accounted hand dev (retire a e s) := by
  have hk : Accounted hand dev (discardKeys a KeySlot.waits (Machine.retireCurrent a (retireRecord a s))) :=
    h.retireKeys (keepsOthers_retireRecord a s) (sameFrames_of (by simp)) (slots_eq_of_keys (by simp) a) (by simp [Assoc.whenRetired]) hd
  refine Accounted.postAllMarks ?_ a
  split
  · exact hk.postNotice _
  · exact hk

/-- An association in an epoch is defined. -/
theorem Accounted.defined (h : Accounted hand dev s) (he : (s.assoc a).state.inEpoch = true) :
    (s.assocDef a).defined = true := ((h.kept a).state.of_inEpoch he).1

theorem Accounted.requestAdvance (h : Accounted hand dev s) (a : Fin 64) (x : AdvanceReason) :
    Accounted hand dev (requestAdvance a x s) := by
  fun_cases Machine.requestAdvance a x s
  case case2 he _ => exact h.retire (h.defined (by simpa using he)) true
  case case4 => exact (h.modAssoc a (by intro; rfl)).requestTx .advance a
  case case5 => exact (h.modAssoc a (by intro; rfl)).postNotice _
  all_goals exact h

theorem Accounted.requestClaim (h : Accounted hand dev s) (a : Fin 64) : Accounted hand dev (requestClaim a s) := by
  fun_cases Machine.requestClaim a s
  case case4 => exact h.requestAdvance a _
  case case5 => exact (h.modAssoc a (by intro; rfl)).requestTx .claim a
  all_goals exact h

theorem Accounted.queueHeldAdvance (h : Accounted hand dev s) (a : Fin 64) : Accounted hand dev (queueHeldAdvance a s) := by
  fun_cases Machine.queueHeldAdvance a s
  case case1 => exact (h.modAssoc a (by intro; rfl)).requestTx .advance a
  all_goals exact h

/-! ## An advance applied (R65, R66) -/

/-- The key of the new epoch is taken up, or waited for (R66). -/
theorem AssocKept.takeUpStandby (hu : SlotsUsed s a) (hp : roles (s.slots a) .pending = 0)
    (hc : roles (s.slots a) .current = 0) (hs : roles (s.slots a) .standby ≤ 1) (hr : roles (s.slots a) .retiring ≤ 2)
    (hd : (s.assocDef a).defined = true) (hdev : dev ≠ .settling) (e : Nat) : AssocKept dev (takeUpStandby a e s) a := by
  have hsuits : ∀ (st : AssocState) (t : State), st ≠ .settling → t.image = s.image → st.suits dev (t.assocDef a).defined :=
    fun st t hst ht => by
      rw [assocDef_eq_of_image ht, hd]
      exact suits_of_defined hdev hst
  fun_cases Machine.takeUpStandby a e s
  case case1 j hj r =>
    have hrole : (s.slots a)[j].role = .standby := by
      have := findSlot_some hj
      simp only [Bool.and_eq_true, beq_iff_eq] at this
      exact this.1
    have hk : ({ s.slot r with role := .current } : KeySlot).usedBy (s.users a j) := (hu j).serving
    have hkr : ({ s.slot r with role := .current } : KeySlot).role = .current := rfl
    generalize ({ s.slot r with role := .current } : KeySlot) = k at hk hkr
    have hset := fun x => roles_set (s.slots a) j k x
    rw [hrole, hkr, ← setSlot_slots] at hset
    have h1 := hset .pending
    have h2 := hset .current
    have h3 := hset .standby
    have h4 := hset .retiring
    simp only [if_true, reduceCtorEq, if_false] at h1 h2 h3 h4
    exact .of_state (s := s.setSlot { assoc := a, index := j } k) (st := .live) (hu.setSlot hk)
      ⟨by omega, by omega, by omega, by omega⟩ (hsuits _ _ (by simp) (by simp))
      (by simp [Machine.postMark, State.assoc, State.modAssoc]) (slots_eq_of_keys (by simp [r]) a) (by simp)
  case case2 hn =>
    have hrest : ∀ r, r ≠ .empty → r ≠ .standby →
        roles ((discardKeys a (fun k => k.role == .standby) s).slots a) r = roles (s.slots a) r :=
      fun r hre hrs => roles_discardKeys hre (fun k hk he => hrs (he.symm.trans (beq_iff_eq.1 hk))) s
    have hnone : roles ((discardKeys a (fun k => k.role == .standby) s).slots a) .standby = 0 :=
      roles_discardKeys_zero (by simp) (fun k hk => beq_iff_eq.2 hk) s
    refine .of_state (s := discardKeys a (fun k => k.role == .standby) s) (st := .keyWait)
      (hu.discardKeys fun k hk => .inl (beq_iff_eq.1 hk)) ?_ (hsuits _ _ (by simp) (by simp)) ?_
      (slots_eq_of_keys (by simp) a) (by simp)
    · exact ⟨(hrest _ (by simp) (by simp)).trans hp, (hrest _ (by simp) (by simp)).trans hc, by omega,
        (hrest _ (by simp) (by simp)).le.trans hr⟩
    · rw [assoc_eq_of_assocs (s := (discardKeys a (fun k => k.role == .standby) s).modAssoc a
        (fun x => { x with state := .keyWait })) (by simp), modAssoc_assoc_self]

theorem keepsOthers_takeUpStandby (a : Fin 64) (e : Nat) (s : State) : KeepsOthers a s (takeUpStandby a e s) :=
  .of_lanes (by simp) (fun _ hb => takeUpStandby_slots_ne hb e s) fun b hb => by simp [hb]

theorem keepsOthers_resetRecordForEpoch (a : Fin 64) (e : Nat) (s : State) : KeepsOthers a s (resetRecordForEpoch a e s) :=
  .of_lanes (by simp) (fun b _ => slots_eq_of_keys (by simp) b) fun b hb => by simp [hb]

theorem Accounted.enterEpoch (h : Accounted hand dev s) (he : (s.assoc a).state.inEpoch = true) (e : Nat) (x : AdvanceReason)
    (i : Nat) : Accounted hand dev (enterEpoch a e x i s) := by
  obtain ⟨hp, hc, hs, hr⟩ := (h.kept a).keys.inEpoch he
  have hdev := ((h.kept a).state.of_inEpoch he).2
  have hframes : SameFrames s (Machine.postNotice (newNotice .advanced (.reason x) a.val e i 1 false)
    (resetRecordForEpoch a e s)) := sameFrames_of (by simp)
  have hslots : (Machine.postNotice (newNotice .advanced (.reason x) a.val e i 1 false)
    (resetRecordForEpoch a e s)).slots a = s.slots a := slots_eq_of_keys (by simp) a
  have hbefore : KeepsOthers a s (Machine.postNotice (newNotice .advanced (.reason x) a.val e i 1 false)
    (resetRecordForEpoch a e s)) := .of_lanes (by simp) (fun b _ => slots_eq_of_keys (by simp) b) fun b hb => by
      rw [assoc_eq_of_assocs (postNotice_frame _ _).2.2.2.2.2.2.2.1]
      simp [hb]
  have hg : KeyGone _ (leaveEpoch a e x i s) a := keyGone_retireCurrent
    (SlotsUsed.congr (fun j => (h.kept a).slots j) hslots (by simp)) (by rw [hslots]; exact hc) (by rw [hslots]; exact hr)
  have hleave : KeepsOthers a s (leaveEpoch a e x i s) := hbefore.trans (keepsOthers_retireCurrent hg)
  have hup : Accounted hand dev (Machine.takeUpStandby a e (leaveEpoch a e x i s)) := by
    refine h.change (hleave.trans (keepsOthers_takeUpStandby a e _)) ?_ (.takeUpStandby hg.used (hg.pending.trans ?_) hg.current
      (hg.standby.le.trans ?_) hg.retiring ?_ hdev e)
    · have hhouse : Housed hand (leaveEpoch a e x i s) := (h.housed.same hframes).retireCurrent a
      exact hhouse.same (sameFrames_of (by simp))
    · rw [hslots]; exact hp
    · rw [hslots]; exact hs
    · rw [assocDef_eq_of_image hleave.image]
      exact h.defined he
  rw [enterEpoch_eq]
  exact ((hup.postMark a _).postMark a _).postMark a _

theorem Accounted.advanceReaches (h : Accounted hand dev s) (a : Fin 64) (e : Nat) (x : AdvanceReason) (i : Nat) :
    Accounted hand dev (advanceReaches a e x i s) := by
  unfold Machine.advanceReaches
  split
  · rename_i he
    have hk := h.enterEpoch he.1 e x i
    rw [applyAdvance_eq]
    split
    · exact hk.requestClaim a
    · exact hk
  · exact h

/-! ## Messages on the record (R17 to R24) -/

theorem Accounted.rekeyPointTest (h : Accounted hand dev s) (a : Fin 64) (q : Nat) :
    Accounted hand dev (rekeyPointTest a q s) := by
  unfold Machine.rekeyPointTest
  split
  · exact ((h.modAssoc a (by intro; rfl)).report _ _ _ _).requestAdvance a _
  · exact h

theorem Accounted.activate (h : Accounted hand dev s) (a : Fin 64) (p q : Nat) : Accounted hand dev (activate a p q s) :=
  (h.modAssoc a (by intro; rfl)).postMark a _

theorem Accounted.addRange (h : Accounted hand dev s) (a : Fin 64) (p q : Nat) : Accounted hand dev (addRange a p q s) := by
  fun_cases Machine.addRange a p q s
  case case1 => exact h.activate a p q
  case case2 => exact h.modAssoc a (by intro; rfl)
  case case3 => exact ((h.bump a _ _).report _ _ _ _).modAssoc a (by intro; rfl)

theorem Accounted.winClaim (h : Accounted hand dev s) (a : Fin 64) (p q : Nat) : Accounted hand dev (winClaim a p q s) :=
  ((((h.modAssoc a (by intro; rfl)).modAssoc a (by intro; rfl)).addRange a p q).bump a _ _).rekeyPointTest a q

theorem Accounted.countLate (h : Accounted hand dev s) (a : Fin 64) (e : Nat) : Accounted hand dev (countLate a e s) := h.plain (by simp)

theorem Accounted.ownClaim (h : Accounted hand dev s) (a : Fin 64) (p q e : Nat) (w : Bool) :
    Accounted hand dev (ownClaim a p q e w s) := by
  fun_cases Machine.ownClaim a p q e w s
  case case1 => exact h.winClaim a p q
  case case2 => exact h.modAssoc a (by intro; rfl)
  case case3 => exact h.countLate a e

theorem Accounted.keepFirstPiece (h : Accounted hand dev s) (a : Fin 64) (x : Nat × Nat) :
    Accounted hand dev (keepFirstPiece a x s) := by
  fun_cases Machine.keepFirstPiece a x s
  case case1 => exact h.modAssoc a (by intro; rfl)
  all_goals exact h.activate a _ _

theorem Accounted.overlapRemoval (h : Accounted hand dev s) (a : Fin 64) (p q : Nat) :
    Accounted hand dev (overlapRemoval a p q s) := by
  unfold Machine.overlapRemoval
  simp only
  split
  · exact h
  · refine Accounted.report (Accounted.bump ?_ a _ _) _ _ _ _
    split
    · exact h.modAssoc a (by intro; rfl)
    · exact (h.modAssoc a (by intro; rfl)).keepFirstPiece a _
    · exact (h.modAssoc a (by intro; rfl)).keepFirstPiece a _

theorem Accounted.overlapAdvanceTest (h : Accounted hand dev s) (a : Fin 64) (p : Nat) :
    Accounted hand dev (overlapAdvanceTest a p s) := by
  unfold Machine.overlapAdvanceTest
  split
  · exact h.requestAdvance a _
  · exact h

theorem Accounted.peerClaimInEpoch (h : Accounted hand dev s) (a : Fin 64) (p q : Nat) :
    Accounted hand dev (peerClaimInEpoch a p q s) := by
  have hgrown : Accounted hand dev (accumulate a (q + 1 - p) (raiseFront a q s)) :=
    (h.modAssoc a (by intro; rfl)).modAssoc a (by intro; rfl)
  fun_cases Machine.peerClaimInEpoch a p q s
  case case1 => exact (hgrown.overlapRemoval a p q).overlapAdvanceTest a p
  case case2 => exact hgrown.overlapAdvanceTest a p
  case case3 => exact h

theorem Accounted.peerClaim (h : Accounted hand dev s) (a : Fin 64) (p q e : Nat) (x : BitVec 3) :
    Accounted hand dev (peerClaim a p q e x s) := by
  fun_cases Machine.peerClaim a p q e x s
  case case1 => exact h.modAssoc a (by intro; rfl)
  case case2 => exact (h.advanceReaches a e _ _).peerClaimInEpoch a p q
  case case3 => exact (h.advanceReaches a e _ _).countLate a e

theorem Accounted.beaconDelivered (h : Accounted hand dev s) (a : Fin 64) (e v : Nat) (x : BitVec 3) :
    Accounted hand dev (beaconDelivered a e v x s) := by
  fun_cases Machine.beaconDelivered a e v x s
  case case1 => exact h.modAssoc a (by intro; rfl)
  case case2 => exact (h.advanceReaches a e _ _).modAssoc a (by intro; rfl)
  case case3 => exact h.advanceReaches a e _ _
  case case4 => exact (h.advanceReaches a e _ _).countLate a e

theorem Accounted.advanceDelivered (h : Accounted hand dev s) (a : Fin 64) (e : Nat) (r : AdvanceReason) (x : BitVec 3) :
    Accounted hand dev (advanceDelivered a e r x s) := by
  unfold Machine.advanceDelivered
  split
  · exact h.modAssoc a (by intro; rfl)
  · exact h.advanceReaches a e r _

/-! ## The bus (R35 to R43) -/

theorem Accounted.ownVoid (h : Accounted hand dev s) : Accounted hand dev (ownVoid s) := h.plain (by simp)

theorem Accounted.setErrorCount (h : Accounted hand dev s) (k : Nat) : Accounted hand dev (setErrorCount k s) := h.plain (by simp)

theorem Accounted.ownNoAck (h : Accounted hand dev s) (a : Fin 64) (e : Nat) : Accounted hand dev (ownNoAck a e s) := h.plain (by simp)

theorem Accounted.scheduleBeacons (h : Accounted hand dev s) : Accounted hand dev (scheduleBeacons s) := h.plain (by simp)

theorem Accounted.applyMessage (h : Accounted hand dev s) (own w : Bool) (m : BusMessage) :
    Accounted hand dev (applyMessage own w m s) := by
  have hc : Accounted hand dev (Machine.cancelByMessage own m s) := h.plain (by simp)
  unfold Machine.applyMessage
  generalize Machine.cancelByMessage own m s = u at hc
  fun_cases handMessage own w m u
  case case1 => exact hc.scheduleBeacons
  case case3 => exact hc.advanceDelivered _ _ _ _
  case case5 => exact hc.beaconDelivered _ _ _ _
  case case7 => exact hc.ownClaim _ _ _ _ _
  case case8 => exact hc.peerClaim _ _ _ _ _
  all_goals exact hc

theorem Accounted.ownDelivered (h : Accounted hand dev s) (o : OwnMessage) : Accounted hand dev (ownDelivered o s) := by
  have hout : Accounted hand dev (clearOnBus s) := h.plain (by simp)
  unfold Machine.ownDelivered
  simp only
  refine Accounted.applyMessage (Accounted.setErrorCount ?_ _) _ _ _
  have hleft : Accounted hand dev (if o.withdrawn then clearOnBus s
      else Machine.removeTx o.message.content.kind o.message.target (clearOnBus s)) := by
    split
    · exact hout
    · exact hout.removeTx _ _
  split
  · exact hleft.plain ⟨rfl, rfl, rfl, rfl, rfl, rfl, rfl, rfl⟩
  · exact hleft

theorem Accounted.asReceiver (h : Accounted hand dev s) (m : BusMessage) (crcOk : Bool) (x : BusOutcome) :
    Accounted hand dev (asReceiver m crcOk x s) := by
  have hcounted : Accounted hand dev (if x = .voidByError then bumpBus .busVoids s else s) := by
    split
    · exact h.plain (by simp)
    · exact h
  unfold Machine.asReceiver
  simp only
  split
  · exact hcounted.setErrorCount _
  split
  · exact (hcounted.setErrorCount _).applyMessage _ _ _
  · exact hcounted

theorem Accounted.messageCompletes (h : Accounted hand dev s) (m : BusMessage) (e : BusEnding) :
    Accounted hand dev (messageCompletes m e s) := by
  have h0 : Accounted hand dev { s with bus := { s.bus with idleSeen := true } } := h.plain (by simp)
  unfold Machine.messageCompletes
  simp only
  split
  · unfold asSender
    split
    · exact h0.ownDelivered _
    · exact h0.ownVoid
    · exact h0.ownNoAck _ _
  · exact h0.ownVoid
  · refine Accounted.asReceiver ?_ m _ _
    exact h0.plain (by simp)
  · refine Accounted.asReceiver ?_ m _ _
    exact h0.plain (by simp)

theorem Accounted.attempt (h : Accounted hand dev s) (fuel : Nat) : Accounted hand dev (attempt fuel s) := by
  have hbegin : ∀ {u : State}, Accounted hand dev u → ∀ m, Accounted hand dev (beginMessage m u) := fun hu m => hu.plain (by simp)
  induction fuel generalizing s with
  | zero => exact h
  | succ fuel ih =>
    rw [Machine.attempt]
    split
    · exact h
    split
    · split
      · exact hbegin h _
      · exact ih (h.removeTx _ _)
    · split
      · exact ih ((h.cancelClaim _).requestAdvance _ _)
      · exact hbegin h _
    · split
      · exact hbegin h _
      · exact ih (h.removeTx _ _)
    · exact hbegin h _

end Sys2Proof.Machine
end

section
/-! SUPPORT. Frames and keys accounted for, under placement and installs (R50, R54 to R60). -/

namespace Sys2Proof.Machine

variable {hand : List Nat} {dev : DeviceState} {s t u : State} {a : Fin 64}

/-! ## PENDING keys that take their roles (R54, R55) -/

/-- The slots of an association whose PENDING keys were placed. -/
structure PlacedKeys (s : State) (a : Fin 64) : Prop where
  used : SlotsUsed s a
  pending : roles (s.slots a) .pending = 0
  current : roles (s.slots a) .current ≤ 1
  standby : roles (s.slots a) .standby ≤ 1
  retiring : roles (s.slots a) .retiring = 0

theorem placedIn_cases (e : Nat) (k : KeySlot) : (k.role ≠ .pending ∧ k.placedIn e = k) ∨
    (k.role = .pending ∧ k.epoch = e ∧ k.placedIn e = { k with role := .current }) ∨
    (k.role = .pending ∧ k.epoch = e + 1 ∧ k.placedIn e = { k with role := .standby }) ∨
    (k.role = .pending ∧ k.placedIn e = KeySlot.wiped) := by
  unfold KeySlot.placedIn
  by_cases hp : k.role = .pending
  · by_cases h1 : k.epoch = e
    · simp [hp, h1]
    · by_cases h2 : k.epoch = e + 1
      · simp [hp, h2]
      · simp [hp, h1, h2]
  · simp [hp]

/-- A key that a placement gives a role was there before, or was PENDING. -/
theorem role_placedIn {e : Nat} {k : KeySlot} {r : Role} (hr : r ≠ .empty) (h : (k.placedIn e).role = r) :
    (k.role = r ∧ r ≠ .pending) ∨ (k.role = .pending ∧ ((r = .current ∧ k.epoch = e) ∨ (r = .standby ∧ k.epoch = e + 1))) := by
  rcases placedIn_cases e k with ⟨hp, he⟩ | ⟨hp, h1, he⟩ | ⟨hp, h1, he⟩ | ⟨hp, he⟩
  · rw [he] at h
    exact .inl ⟨h, fun hr => hp (h.trans hr)⟩
  · rw [he] at h
    exact .inr ⟨hp, .inl ⟨h.symm, h1⟩⟩
  · rw [he] at h
    exact .inr ⟨hp, .inr ⟨h.symm, h1⟩⟩
  · rw [he] at h
    exact absurd h.symm hr

theorem usedBy_placedIn {e : Nat} {k : KeySlot} {n : Nat} (h : k.usedBy n) : (k.placedIn e).usedBy n := by
  have hn : k.role = .pending → n = 0 := fun hp => h.unused (by simp [hp]) (by simp [hp])
  rcases placedIn_cases e k with ⟨hp, he⟩ | ⟨hp, h1, he⟩ | ⟨hp, h1, he⟩ | ⟨hp, he⟩
  · rw [he]; exact h
  · rw [he]; exact h.serving
  · rw [he, hn hp]
    exact usedBy_unused (h.1.trans (hn hp)) (by simp) (by simp)
  · rw [he, hn hp]
    exact usedBy_wiped

theorem placedKeys_assignRoles (h : SlotsUsed s a) (hall : AssocState.settling.allows (s.slots a)) (e : Nat) :
    PlacedKeys (assignRoles a e s) a := by
  obtain ⟨hc, hs, hr, -, hinj⟩ := hall
  have hget := assignRoles_slot_self a e s
  have hrole : ∀ {r : Role} {j : Fin 4}, r ≠ .empty → roles (s.slots a) r = 0 →
      (((assignRoles a e s).slots a)[j]).role = r → (s.slots a)[j].role = .pending ∧
        ((r = .current ∧ (s.slots a)[j].epoch = e) ∨ (r = .standby ∧ (s.slots a)[j].epoch = e + 1)) := by
    intro r j hre h0 hj
    rw [hget] at hj
    rcases role_placedIn hre hj with ⟨hk, -⟩ | hk
    · exact absurd hk (roles_eq_zero.1 h0 j)
    · exact hk
  refine ⟨fun j => ?_, roles_eq_zero.2 fun j hj => ?_, roles_le_one fun i j hi hj => ?_, roles_le_one fun i j hi hj => ?_,
    roles_eq_zero.2 fun j hj => ?_⟩
  · rw [hget, users_of_lanes (s := s) (by simp)]
    exact usedBy_placedIn (h j)
  · rw [hget] at hj
    rcases role_placedIn (by simp) hj with ⟨-, hn⟩ | ⟨-, ⟨hn, -⟩ | ⟨hn, -⟩⟩
    · exact hn rfl
    · cases hn
    · cases hn
  · obtain ⟨hpi, hei⟩ := hrole (by simp) hc hi
    obtain ⟨hpj, hej⟩ := hrole (by simp) hc hj
    simp only [true_and, reduceCtorEq, false_and, or_false] at hei hej
    exact hinj i j hpi hpj (hei.trans hej.symm)
  · obtain ⟨hpi, hei⟩ := hrole (by simp) hs hi
    obtain ⟨hpj, hej⟩ := hrole (by simp) hs hj
    simp only [true_and, reduceCtorEq, false_and, false_or] at hei hej
    exact hinj i j hpi hpj (hei.trans hej.symm)
  · obtain ⟨-, ⟨hn, -⟩ | ⟨hn, -⟩⟩ := hrole (by simp) hr hj
    · cases hn
    · cases hn

/-! ## Placement (R54 to R56) -/

theorem Accounted.reportPlaced (h : Accounted hand dev s) (a : Fin 64) (v : Vector KeySlot 4) (l : List (Fin 4)) :
    Accounted hand dev (reportPlaced a v l s) := h.plain (by simp)

/-- An association takes the state `st` of a placement, which allows its keys. -/
theorem Accounted.placeRecord {st : AssocState} (h : Accounted hand dev s) (k : KeepsOthers a s u) (hh : Housed hand u)
    (hu : SlotsUsed u a) (hall : st.allows (u.slots a)) (hd : (s.assocDef a).defined = true) (hdev : dev ≠ .settling)
    (hst : st ≠ .settling) (e : Nat) (w : Option Nat) : Accounted hand dev (placeRecord a e w st u) := by
  have ho : KeepsOthers a u (Machine.placeRecord a e w st u) :=
    .of_lanes (by simp [Machine.placeRecord]) (fun b _ => slots_eq_of_keys (by simp [Machine.placeRecord]) b)
      fun b hb => by simp [Machine.placeRecord, hb]
  refine h.change (k.trans ho) (hh.same (sameFrames_of ⟨rfl, rfl, rfl, rfl, rfl⟩)) (.of_state hu hall ?_ ?_ rfl rfl)
  · rw [assocDef_eq_of_image ho.image, assocDef_eq_of_image k.image, hd]
    exact suits_of_defined hdev hst
  · simp [Machine.placeRecord]

theorem lowestPending_eq_none (h : s.lowestPending a = none) : roles (s.slots a) .pending = 0 := by
  refine roles_eq_zero.2 fun j hj => ?_
  have hm : j ∈ s.pendingKeys a := mem_pendingKeys.2 hj
  unfold State.lowestPending at h
  rw [List.min?_eq_none_iff, List.map_eq_nil_iff] at h
  rw [h] at hm
  cases hm

/-- Placement of an association whose keys are those of a SETTLING one (R54 to R56). -/
theorem Accounted.place (h : Accounted hand dev s) (k : KeepsOthers a s u) (hh : Housed hand u) (hu : SlotsUsed u a)
    (hall : AssocState.settling.allows (u.slots a)) (hd : (s.assocDef a).defined = true) (hdev : dev ≠ .settling) :
    Accounted hand dev (place a u) := by
  have hroles : ∀ e, KeepsOthers a s (assignRoles a e u) := fun e => k.trans
    (.of_lanes (by simp) (fun _ hb => assignRoles_slots_ne a e u hb) fun b _ => congrArg Assoc.state (assoc_eq_of_assocs (by simp) b))
  have hhouse : ∀ e, Housed hand (assignRoles a e u) := fun e => hh.same (sameFrames_of (by simp))
  fun_cases Machine.place a u
  case case1 v _ =>
    have hp := placedKeys_assignRoles hu hall v.epoch
    unfold placeInEpoch
    simp only
    refine Accounted.modAssoc (Accounted.reportPlaced ?_ a _ _) a (by intro; rfl)
    split
    · rename_i hcur
      have hone := slotWithRole_isSome.1 hcur
      have hc := hp.current
      exact h.placeRecord (hroles _) (hhouse _) hp.used (st := .live)
        ⟨hp.pending, by omega, hp.standby, by rw [hp.retiring]; omega⟩ hd hdev (by simp) _ _
    · rename_i hcur
      have hone : ¬ 0 < _ := fun h0 => hcur (slotWithRole_isSome.2 h0)
      exact (h.placeRecord (hroles _) (hhouse _) hp.used (st := .keyWait)
        ⟨hp.pending, by omega, hp.standby, by rw [hp.retiring]; omega⟩ hd hdev (by simp) _ _).postNotice _
  case case2 f _ =>
    have hp := placedKeys_assignRoles hu hall f
    unfold placeBlind
    simp only
    refine Accounted.modAssoc (Accounted.reportPlaced (Accounted.requestAdvance ?_ a .blind) a _ _) a (by intro; rfl)
    exact h.placeRecord (hroles _) (hhouse _) hp.used (st := .blind)
      ⟨hp.pending, hp.current, hp.standby, by rw [hp.retiring]; omega⟩ hd hdev (by simp) _ _
  case case3 hnone =>
    obtain ⟨hc, hs, hr, -, -⟩ := hall
    have hp := lowestPending_eq_none hnone
    have hwiped : AssocState.dormant.allows (u.slots a) := fun j => by
      refine (hu j).2.2.2 ?_
      cases hj : (u.slots a)[j].role
      case empty => rfl
      case pending => exact absurd hj (roles_eq_zero.1 hp j)
      case current => exact absurd hj (roles_eq_zero.1 hc j)
      case standby => exact absurd hj (roles_eq_zero.1 hs j)
      case retiring => exact absurd hj (roles_eq_zero.1 hr j)
    have ho : KeepsOthers a u (u.modAssoc a (fun r => { r with state := .dormant })) :=
      .of_lanes (by simp) (fun b _ => rfl) fun b hb => by simp [hb]
    refine h.change (k.trans ho) (hh.same (sameFrames_of (by simp))) (.of_state hu hwiped ?_ (by simp) rfl rfl)
    rw [assocDef_eq_of_image ho.image, assocDef_eq_of_image k.image, hd]
    exact suits_of_defined hdev (by simp)

theorem advanceAsked_not_settling {r : Assoc} (h : r.state ≠ .settling) (x : AdvanceReason) (b : Bool) :
    (r.advanceAsked x b).state ≠ .settling := by
  unfold Assoc.advanceAsked
  (repeat' split) <;> simp_all [Assoc.whenRetired]

/-- No placement leaves an association SETTLING (R50). -/
theorem place_not_settling (a : Fin 64) (s : State) : ((place a s).assoc a).state ≠ .settling := by
  have hreport : ∀ v l u, (reportPlaced a v l u).assoc a = u.assoc a := fun v l u => assoc_eq_of_assocs (by simp) a
  have hwanted : ∀ e u, (postKeyWanted a e u).assoc a = u.assoc a := fun e u => assoc_eq_of_assocs (by simp) a
  fun_cases Machine.place a s
  case case1 v _ =>
    unfold placeInEpoch
    simp only [modAssoc_assoc_self, hreport]
    split
    · simp [Machine.placeRecord]
    · simp [Machine.placeRecord, hwanted]
  case case2 f _ =>
    unfold placeBlind
    simp only [modAssoc_assoc_self, hreport, requestAdvance_assoc_self]
    exact advanceAsked_not_settling (by simp [Machine.placeRecord]) _ _
  case case3 => simp

theorem placeAll_not_settling (a : Fin 64) (s : State) : ((placeAll s).assoc a).state ≠ .settling := by
  obtain ⟨u, -, hu⟩ := placeAll_around a s
  rw [hu.record]
  unfold placeIfSettling
  split
  · exact place_not_settling a u
  · assumption

/-- A state that suits a device that is SETTLING suits one that neither settles nor runs. -/
theorem AssocState.suits.between {st : AssocState} {b : Bool} (h : st.suits .settling b) : st.suits .loading b :=
  ⟨h.1, fun h => (by cases h), fun h => (by cases h)⟩

theorem AssocKept.running (h : AssocKept .loading s a) (hn : (s.assoc a).state ≠ .settling) : AssocKept .running s a :=
  ⟨h.slots, h.keys, h.state.1, fun h => DeviceState.noConfusion h, fun _ => hn⟩

theorem Accounted.placeAll (h : Accounted hand .settling s) : Accounted hand .running (placeAll s) := by
  have h0 : Accounted hand .loading s := ⟨h.housed, fun a => ⟨(h.kept a).slots, (h.kept a).keys, (h.kept a).state.between⟩⟩
  have hone : ∀ u a, Accounted hand .loading u → Accounted hand .loading (placeIfSettling u a) := fun u a hu => by
    unfold placeIfSettling
    split
    · rename_i hs
      have hk := (hu.kept a).keys
      rw [hs] at hk
      have hd : (u.assocDef a).defined = true := by
        by_contra hd
        have := (hu.kept a).state.1 (by simpa using hd)
        rw [hs] at this
        cases this
      exact hu.place ⟨fun _ _ => rfl, fun _ _ => rfl, fun _ _ => rfl, rfl⟩ hu.housed (hu.kept a).slots hk hd (by simp)
    · exact hu
  have hall : Accounted hand .loading (Machine.placeAll s) := by
    rw [placeAll_eq]
    exact h0.foldl hone _
  exact ⟨hall.housed, fun a => (hall.kept a).running (placeAll_not_settling a s)⟩

/-! ## A key written (R57 to R60) -/

section
variable {v : Vector KeySlot 4} {j : Fin 4} {k : KeySlot}

/-- The roles of four slots when a key is written into an EMPTY one. -/
theorem roles_write (he : v[j].role = .empty) {r : Role} (hr : r ≠ .empty) :
    roles (v.set j k) r = roles v r + if k.role = r then 1 else 0 := by
  have h := roles_set v j k r
  rw [he, if_neg hr.symm] at h
  exact h

theorem allows_write_pending (h : AssocState.settling.allows v) (he : v[j].role = .empty) (hk : k.role = .pending)
    (h1 : roles v .pending ≤ 1) (hne : ∀ i : Fin 4, v[i].role = .pending → v[i].epoch ≠ k.epoch) :
    AssocState.settling.allows (v.set j k) := by
  obtain ⟨hc, hs, hr, -, hinj⟩ := h
  have hw : ∀ r : Role, r ≠ .empty → roles (v.set j k) r = roles v r + if k.role = r then 1 else 0 := fun r hr => roles_write he hr
  refine ⟨?_, ?_, ?_, ?_, fun x y hx hy hxy => ?_⟩
  · rw [hw _ (by simp), hk, hc]; simp
  · rw [hw _ (by simp), hk, hs]; simp
  · rw [hw _ (by simp), hk, hr]; simp
  · rw [hw _ (by simp), hk, if_pos rfl]; omega
  · simp only [slot_set_get] at hx hy hxy
    split at hx <;> split at hy <;> rename_i hxj hyj
    · rw [hxj, hyj]
    · rw [if_pos hxj, if_neg hyj] at hxy
      exact absurd hxy.symm (hne y hy)
    · rw [if_neg hxj, if_pos hyj] at hxy
      exact absurd hxy (hne x hx)
    · rw [if_neg hxj, if_neg hyj] at hxy
      exact hinj x y hx hy hxy

theorem allows_write_standby {st : AssocState} (hst : st.inEpoch = true) (h : st.allows v) (he : v[j].role = .empty)
    (hk : k.role = .standby) (h0 : roles v .standby = 0) : st.allows (v.set j k) := by
  have hw : ∀ r : Role, r ≠ .empty → roles (v.set j k) r = roles v r + if k.role = r then 1 else 0 := fun r hr => roles_write he hr
  cases st
  case live | blind | keyWait =>
    obtain ⟨hp, hc, hs, hr⟩ := h
    simp only [AssocState.allows, hw _ (show Role.pending ≠ .empty by simp), hw _ (show Role.current ≠ .empty by simp),
      hw _ (show Role.standby ≠ .empty by simp), hw _ (show Role.retiring ≠ .empty by simp), hk, h0, reduceCtorEq, eq_self,
      if_false, if_true]
    exact ⟨by omega, by omega, by omega, by omega⟩
  all_goals cases hst

theorem allows_write_current (h : AssocState.keyWait.allows v) (he : v[j].role = .empty) (hk : k.role = .current) :
    AssocState.live.allows (v.set j k) := by
  obtain ⟨hp, hc, hs, hr⟩ := h
  have hw : ∀ r : Role, r ≠ .empty → roles (v.set j k) r = roles v r + if k.role = r then 1 else 0 := fun r hr => roles_write he hr
  simp only [AssocState.allows, hw _ (show Role.pending ≠ .empty by simp), hw _ (show Role.current ≠ .empty by simp),
    hw _ (show Role.standby ≠ .empty by simp), hw _ (show Role.retiring ≠ .empty by simp), hk, hc, reduceCtorEq, eq_self,
    if_false, if_true]
  exact ⟨by omega, trivial, by omega, by omega⟩

/-- A key is wiped, but not the CURRENT one of a LIVE association. -/
theorem allows_wipe {st : AssocState} (h : st.allows v) (hj : v[j].role = .current → st ≠ .live) :
    st.allows (v.set j KeySlot.wiped) := by
  have hw : ∀ r : Role, r ≠ .empty → roles (v.set j KeySlot.wiped) r ≤ roles v r := fun r hr => by
    have := roles_set v j KeySlot.wiped r
    rw [if_neg (show KeySlot.wiped.role ≠ r from hr.symm)] at this
    omega
  have h1 := hw .pending (by simp)
  have h2 := hw .current (by simp)
  have h3 := hw .standby (by simp)
  have h4 := hw .retiring (by simp)
  cases st
  case dormant =>
    intro i
    rw [slot_set_get]
    split
    · rfl
    · exact h i
  case settling =>
    obtain ⟨hc, hs, hr, hp, hinj⟩ := h
    refine ⟨by omega, by omega, by omega, by omega, fun x y hx hy hxy => ?_⟩
    simp only [slot_set_get] at hx hy hxy
    split at hx
    · cases hx
    split at hy
    · cases hy
    rename_i hxj hyj
    rw [if_neg hxj, if_neg hyj] at hxy
    exact hinj x y hx hy hxy
  case live =>
    obtain ⟨h5, h6, h7, h8⟩ := h
    have := roles_set v j KeySlot.wiped .current
    rw [if_neg fun hc => hj hc rfl, if_neg (show KeySlot.wiped.role ≠ Role.current by simp [KeySlot.wiped])] at this
    exact ⟨by omega, by omega, by omega, by omega⟩
  all_goals
    obtain ⟨h5, h6, h7, h8⟩ := h
    exact ⟨by omega, by omega, by omega, by omega⟩

/-- What a state allows rests on roles and epochs, and a DORMANT association holds no key. -/
theorem allows_congr {st : AssocState} {w : Vector KeySlot 4} (h : st.allows v) (hst : st ≠ .dormant)
    (hw : ∀ i : Fin 4, w[i].role = v[i].role ∧ w[i].epoch = v[i].epoch) : st.allows w := by
  have hr : ∀ r, roles w r = roles v r := fun r => roles_congr fun i => by rw [(hw i).1]
  cases st
  case dormant => exact absurd rfl hst
  case settling =>
    simp only [AssocState.allows, hr, hw]
    exact h
  all_goals
    simp only [AssocState.allows, hr]
    exact h

end

theorem keepsOthers_setSlot (a : Fin 64) (j : Fin 4) (k : KeySlot) (s : State) :
    KeepsOthers a s (s.setSlot { assoc := a, index := j } k) :=
  .of_lanes (by simp) (fun _ hb => setSlot_slots_ne s k hb) fun _ _ => rfl

theorem Accounted.setSlot {j : Fin 4} {k : KeySlot} (h : Accounted hand dev s) (hk : k.usedBy (s.users a j))
    (hall : (s.assoc a).state.allows ((s.slots a).set j k)) :
    Accounted hand dev (s.setSlot { assoc := a, index := j } k) := by
  refine h.change (keepsOthers_setSlot a j k s) (h.housed.same (sameFrames_of (by simp))) ⟨SlotsUsed.setSlot (fun i => (h.kept a).slots i) hk,
    ?_, (h.kept a).state⟩
  rw [setSlot_slots]
  exact hall

theorem Accounted.users_eq_zero {j : Fin 4} (h : Accounted hand dev s) (h1 : (s.slots a)[j].role ≠ .current)
    (h2 : (s.slots a)[j].role ≠ .retiring) : s.users a j = 0 := ((h.kept a).slots j).unused h1 h2

theorem Accounted.discardKey {j : Fin 4} (h : Accounted hand dev s) (hj : (s.slots a)[j].waits = true) :
    Accounted hand dev (discardKey { assoc := a, index := j } s) := by
  have hr := KeySlot.waits_iff.1 hj
  have hu : s.users a j = 0 := by
    rcases hr with hr | hr
    · exact h.users_eq_zero (hr.trans_ne (by simp)) (hr.trans_ne (by simp))
    · exact h.users_eq_zero (hr.trans_ne (by simp)) (hr.trans_ne (by simp))
  have hcur : (s.slots a)[j].role = .current → (s.assoc a).state ≠ .live := fun hc => by
    rcases hr with hr | hr <;> exact absurd (hr.symm.trans hc) (by simp)
  have hs : Accounted hand dev (s.setSlot { assoc := a, index := j } KeySlot.wiped) :=
    h.setSlot (by rw [hu]; exact usedBy_wiped) (allows_wipe (h.kept a).keys hcur)
  exact hs.postNotice _

theorem discardKey_slots (a : Fin 64) (j : Fin 4) (s : State) :
    (discardKey { assoc := a, index := j } s).slots a = (s.slots a).set j KeySlot.wiped := by
  rw [← setSlot_slots]
  exact slots_eq_of_keys (by simp [Machine.discardKey, wipeSlot]) a

theorem usedBy_slotFor (i : Install) (a : Fin 64) {r : Role} (h1 : r ≠ .retiring) (h2 : r ≠ .empty) :
    (i.slotFor a r).usedBy 0 := usedBy_unused rfl h1 h2

/-- A key is written into an EMPTY slot. -/
theorem Accounted.write {j : Fin 4} (h : Accounted hand dev s) (he : (s.slots a)[j].role = .empty) {i : Install} {r : Role}
    (h1 : r ≠ .retiring) (h2 : r ≠ .empty) (hall : (s.assoc a).state.allows ((s.slots a).set j (i.slotFor a r))) :
    Accounted hand dev (s.setSlot { assoc := a, index := j } (i.slotFor a r)) := by
  refine h.setSlot ?_ hall
  rw [h.users_eq_zero (he.trans_ne (by simp)) (he.trans_ne (by simp))]
  exact usedBy_slotFor i a h1 h2

theorem writeEmptySlot_cases (a : Fin 64) (r : Role) (i : Install) (s : State) :
    (roles (s.slots a) .empty = 0 ∧ writeEmptySlot a r i s = s) ∨
      ∃ j : Fin 4, (s.slots a)[j].role = .empty ∧
        writeEmptySlot a r i s = s.setSlot { assoc := a, index := j } (i.slotFor a r) := by
  fun_cases writeEmptySlot a r i s
  case case1 j hj => exact .inr ⟨j, slotWithRole_role hj, rfl⟩
  case case2 hj => exact .inl ⟨slotWithRole_eq_none.1 hj, rfl⟩

/-! ## Installs (R57 to R60) -/

theorem findSlot_pending {v : Vector KeySlot 4} {e : Nat} :
    findSlot v (fun k => k.role == .pending && k.epoch == e) = none ↔
      ∀ i : Fin 4, v[i].role = .pending → v[i].epoch ≠ e := by
  rw [findSlot_eq_none]
  simp

theorem Accounted.installSettling (h : Accounted hand .settling s) (hd : (s.assocDef a).defined = true) (i : Install) :
    Accounted hand .settling (installSettling a i s).state := by
  have hstate : (s.assoc a).state ≠ .retired → (s.assoc a).state = .settling :=
    fun hr => ((h.kept a).state.2.1 rfl hd).resolve_right hr
  fun_cases Machine.installSettling a i s
  case case2 hr j hj hw =>
    have hs := hstate hr
    have hp := findSlot_some hj
    simp only [Bool.and_eq_true, beq_iff_eq] at hp
    have hwaits : (s.slots a)[j].waits = true := KeySlot.waits_iff.2 (.inr hp.1)
    have hdis := h.discardKey hwaits
    have hstd : ((Machine.discardKey { assoc := a, index := j } s).assoc a).state = .settling :=
      (congrArg Assoc.state (assoc_eq_of_assocs (by simp) a)).trans hs
    have hall := (hdis.kept a).keys
    have hempty : ((Machine.discardKey { assoc := a, index := j } s).slots a)[j].role = .empty := by
      rw [discardKey_slots, slot_set_get, if_pos rfl]
      rfl
    rw [hstd] at hall
    refine hdis.write hempty (by simp) (by simp) ?_
    rw [hstd]
    refine allows_write_pending hall hempty rfl ?_ fun x hx he => ?_
    · have hall' := (h.kept a).keys
      rw [hs] at hall'
      have := roles_set (s.slots a) j KeySlot.wiped .pending
      rw [if_pos hp.1, if_neg (show KeySlot.wiped.role ≠ Role.pending by simp [KeySlot.wiped])] at this
      rw [discardKey_slots]
      have := hall'.2.2.2.1
      omega
    · rw [discardKey_slots, slot_set_get] at hx he
      split at hx
      · cases hx
      · rename_i hxj
        rw [if_neg hxj] at he
        have hall' := (h.kept a).keys
        rw [hs] at hall'
        exact hxj (hall'.2.2.2.2 x j hx hp.1 (he.trans hp.2.symm))
  case case5 hr hnone hfew hw =>
    have hs := hstate hr
    have hall := (h.kept a).keys
    rcases writeEmptySlot_cases a .pending i s with ⟨-, he⟩ | ⟨j, hj, he⟩
    · rw [he]; exact h
    · rw [he]
      refine h.write hj (by simp) (by simp) ?_
      rw [hs] at hall ⊢
      refine allows_write_pending hall hj rfl ?_ (findSlot_pending.1 hnone)
      have : ¬ 2 ≤ roles (s.slots a) .pending := hfew
      omega
  all_goals exact h

theorem Accounted.installDormant (h : Accounted hand dev s) (hdev : dev ≠ .settling) (hd : (s.assocDef a).defined = true)
    (hs : (s.assoc a).state = .dormant) (i : Install) : Accounted hand dev (installDormant a i s).state := by
  fun_cases Machine.installDormant a i s
  case case3 =>
    have hall := (h.kept a).keys
    rw [hs] at hall
    have hset := settling_allows_of_dormant hall
    have hused : SlotsUsed s a := fun j => (h.kept a).slots j
    simp only
    rcases writeEmptySlot_cases a .pending i s with ⟨h0, he⟩ | ⟨j, hj, he⟩
    · exact absurd (by rw [hall 0]; rfl) (roles_eq_zero.1 h0 0)
    · rw [he]
      refine h.place (keepsOthers_setSlot a j _ s) (h.housed.same (sameFrames_of (by simp))) (hused.setSlot ?_) ?_ hd hdev
      · rw [h.users_eq_zero (hj.trans_ne (by simp)) (hj.trans_ne (by simp))]
        exact usedBy_slotFor i a (by simp) (by simp)
      · rw [setSlot_slots]
        have hp : roles (s.slots a) .pending = 0 := roles_of_wiped hall (by simp)
        exact allows_write_pending hset hj rfl (by omega) fun x hx => absurd hx (roles_eq_zero.1 hp x)
  all_goals exact h

theorem Accounted.installCurrent (h : Accounted hand dev s) (hdev : dev ≠ .settling) (hd : (s.assocDef a).defined = true)
    (hs : (s.assoc a).state = .keyWait) (i : Install) : Accounted hand dev (installCurrent a i s) := by
  have hall := (h.kept a).keys
  rw [hs] at hall
  have hused : SlotsUsed s a := fun j => (h.kept a).slots j
  have hw : Accounted hand dev ((writeEmptySlot a .current i s).modAssoc a (fun r => { r with state := .live })) := by
    rcases writeEmptySlot_cases a .current i s with ⟨h0, -⟩ | ⟨j, hj, he⟩
    · obtain ⟨h1, h2, h3, h4⟩ := hall
      have := roles_sum (s.slots a)
      omega
    · rw [he]
      have ho : KeepsOthers a (s.setSlot { assoc := a, index := j } (i.slotFor a .current))
          ((s.setSlot { assoc := a, index := j } (i.slotFor a .current)).modAssoc a (fun r => { r with state := .live })) :=
        .of_lanes (by simp) (fun _ _ => rfl) fun b hb => by simp [hb]
      refine h.change ((keepsOthers_setSlot a j _ s).trans ho) (h.housed.same (sameFrames_of (by simp)))
        (.of_state (s := s.setSlot { assoc := a, index := j } (i.slotFor a .current)) (st := .live) (hused.setSlot ?_) ?_ ?_
          (by simp) rfl rfl)
      · rw [h.users_eq_zero (hj.trans_ne (by simp)) (hj.trans_ne (by simp))]
        exact usedBy_slotFor i a (by simp) (by simp)
      · rw [setSlot_slots]
        exact allows_write_current hall hj rfl
      · rw [assocDef_eq_of_image ho.image, assocDef_eq_of_image (keepsOthers_setSlot a j _ s).image, hd]
        exact suits_of_defined hdev (by simp)
  exact (hw.postNotice _).postMark a _

theorem Accounted.installStandby (h : Accounted hand dev s) (he : (s.assoc a).state.inEpoch = true) (i : Install) :
    Accounted hand dev (installStandby a i s) := by
  unfold Machine.installStandby
  refine Accounted.queueHeldAdvance (Accounted.postNotice ?_ _) a
  split
  · rename_i j hj
    have hrole := slotWithRole_role hj
    have hdis := h.discardKey (j := j) (KeySlot.waits_iff.2 (.inl hrole))
    have hstd : ((Machine.discardKey { assoc := a, index := j } s).assoc a).state = (s.assoc a).state :=
      congrArg Assoc.state (assoc_eq_of_assocs (by simp) a)
    have hempty : ((Machine.discardKey { assoc := a, index := j } s).slots a)[j].role = .empty := by
      rw [discardKey_slots, slot_set_get, if_pos rfl]
      rfl
    refine hdis.write hempty (by simp) (by simp) (allows_write_standby (by rw [hstd]; exact he) (hdis.kept a).keys hempty rfl ?_)
    have := roles_set (s.slots a) j KeySlot.wiped .standby
    rw [if_pos hrole, if_neg (show KeySlot.wiped.role ≠ Role.standby by simp [KeySlot.wiped])] at this
    have := ((h.kept a).keys.inEpoch he).2.2.1
    rw [discardKey_slots]
    omega
  · rename_i hnone
    rcases writeEmptySlot_cases a .standby i s with ⟨-, hw⟩ | ⟨j, hj, hw⟩
    · rw [hw]; exact h
    · rw [hw]
      exact h.write hj (by simp) (by simp) (allows_write_standby he (h.kept a).keys hj rfl (slotWithRole_eq_none.1 hnone))

theorem Accounted.decideInstall (h : Accounted hand s.device s) (hdev : s.device = .settling ∨ s.device = .running)
    (hd : (s.assocDef a).defined = true) (i : Install) : Accounted hand s.device (decideInstall a i s).state := by
  fun_cases Machine.decideInstall a i s
  case case1 hs =>
    rw [hs] at h ⊢
    exact h.installSettling hd i
  case case2 hs hl =>
    have hrun := hdev.resolve_left hs
    refine h.installDormant hs hd ?_ i
    have := (h.kept a).state.2.2 hrun
    cases hst : (s.assoc a).state <;> simp_all [AssocState.listening]
  case case3 hs hl =>
    have hin : (s.assoc a).state ≠ .retired → (s.assoc a).state.inEpoch = true := by
      cases hst : (s.assoc a).state <;> simp_all [AssocState.listening, AssocState.inEpoch]
    fun_cases installRunning a i s
    case case2 hw _ => exact h.installCurrent hs hd hw.2 i
    case case4 hr _ _ _ => exact h.installStandby (hin hr) i
    all_goals exact h

end Sys2Proof.Machine
end

section
/-! SUPPORT. Frames and keys accounted for, under dispatch, park timeouts, lanes and the campus port (R71, R111 to R137, R143). -/

namespace Sys2Proof.Machine

variable {hand : List Nat} {dev : DeviceState} {s t u : State} {a : Fin 64}

/-! ## Lanes that change -/

section
variable {l : Fin 4} {x : Lane} (h : ∀ m, t.lane m = if m = l then x else s.lane m)
include h

theorem lanesOfSlot_length (p : SlotRef) :
    (t.lanesOfSlot p).length + (if (s.lane l).slot? = some p then 1 else 0) =
      (s.lanesOfSlot p).length + if x.slot? = some p then 1 else 0 := by
  have hc := countP_change (f := fun m => (t.lane m).slot? == some p) (g := fun m => (s.lane m).slot? == some p) (i := l)
    fun m hm => by rw [h, if_neg hm]
  simp only [beq_iff_eq, h l, if_true] at hc
  simpa only [State.lanesOfSlot, ← List.countP_eq_length_filter] using hc

theorem lanesOfSlot_same {p : SlotRef} (h1 : (s.lane l).slot? ≠ some p) (h2 : x.slot? ≠ some p) :
    t.lanesOfSlot p = s.lanesOfSlot p := by
  refine List.filter_congr fun m _ => ?_
  rw [h]
  split
  · rename_i hm
    rw [hm, beq_eq_false_iff_ne.2 h1, beq_eq_false_iff_ne.2 h2]
  · rfl

end

/-- Frames change their places, and no lane gains or loses a use of a slot. -/
theorem Accounted.moves {hand' : List Nat} (h : Accounted hand dev s) (hh : Housed hand' t) (hk : t.keys = s.keys)
    (hl : ∀ p, t.lanesOfSlot p = s.lanesOfSlot p) (ha : t.assocs = s.assocs) (hi : t.image = s.image) : Accounted hand' dev t :=
  ⟨hh, fun b => (h.kept b).congr (slots_eq_of_keys hk b) (fun _ => congrArg List.length (hl _))
    (congrArg Assoc.state (assoc_eq_of_assocs ha b)) (by rw [assocDef_eq_of_image hi])⟩

/-! ## A dispatch (R9 to R13, R111 to R133) -/

theorem Accounted.promote (h : Accounted hand dev s) (a : Fin 64) : Accounted hand dev (promote a s) := by
  fun_cases Machine.promote a s
  case case1 => exact (h.modAssoc a (by intro; rfl)).activate a _ _
  case case2 => exact h.modAssoc a (by intro; rfl)

theorem Accounted.discardStale (h : Accounted hand dev s) (a : Fin 64) : Accounted hand dev (discardStale a s) := by
  fun_cases Machine.discardStale a s
  case case1 => exact (((h.bump a _ _).report _ _ _ _).modAssoc a (by intro; rfl)).promote a
  case case2 => exact h

theorem Accounted.rangeWalk (h : Accounted hand dev s) (a : Fin 64) (k : Nat) : Accounted hand dev (rangeWalk k a s) := by
  induction k generalizing s with
  | zero => exact h
  | succ k ih =>
    rw [Machine.rangeWalk]
    split
    · exact ih (h.discardStale a)
    · exact h

theorem Accounted.checkFrame (h : Accounted hand dev s) (d : Descriptor) : Accounted hand dev (checkFrame d s).1 := by
  fun_cases Machine.checkFrame d s
  case case9 a _ _ _ _ =>
    have hw := h.rangeWalk a 2
    unfold serveCounter
    simp only
    split
    · exact hw
    split
    · exact hw.requestAdvance a _
    · exact hw.requestClaim a
  all_goals exact h

theorem Accounted.takeCounter (h : Accounted hand dev s) (a : Fin 64) : Accounted hand dev (takeCounter a s) := by
  fun_cases Machine.takeCounter a s
  case case1 r hr s1 _ =>
    have h1 : Accounted hand dev s1 := h.modAssoc a (by intro; rfl)
    refine Accounted.promote ?_ a
    unfold ladderTest
    split
    · exact h1.modAssoc a (by intro; rfl)
    · exact h1
  case case2 => exact h.modAssoc a (by intro; rfl)
  case case3 => exact h

theorem Accounted.prefetchTest (h : Accounted hand dev s) (a : Fin 64) : Accounted hand dev (prefetchTest a s) := by
  unfold Machine.prefetchTest
  split
  · exact h.requestClaim a
  · exact h

/-- A stored frame in hand, or whose entry stands, is still the same after the checks. -/
theorem checkFrame_frame? {f : Nat} {d : Descriptor} (hd : s.frame? f = some d) (x : Descriptor)
    (hs : ((checkFrame x s).1.frame? f).isSome = true) : (checkFrame x s).1.frame? f = some d := by
  rcases framesShrink_checkFrame x s f with hn | hn
  · rw [hn] at hs
    cases hs
  · rw [hn, hd]

/-- A counter is assigned only to an ENCRYPT frame of its association. -/
theorem encrypt_of_assign {d : Descriptor} (h : (checkFrame d s).2 = .assign a) : d.action = .encrypt a := by
  revert h
  fun_cases Machine.checkFrame d s
  case case1 =>
    intro h
    simp only at h
    split at h <;> cases h
  case case9 b hb _ _ _ =>
    intro h
    unfold serveCounter at h
    simp only at h
    split at h
    · cases h
      exact hb
    · split at h <;> cases h
  all_goals exact fun h => by cases h

theorem handOff_keys (f : Nat) (d : Descriptor) (x : Option Assigned) (s : State) :
    (handOff f d x s).keys = s.keys ∧ (handOff f d x s).assocs = s.assocs ∧ (handOff f d x s).image = s.image := by
  unfold handOff
  split <;> simp

/-- A CLEAR frame enters its lane. -/
theorem Accounted.passClear {f : Nat} {d : Descriptor} {l : Fin 4} (h : Accounted [f] dev s) (hd : s.frame? f = some d)
    (hc : d.action = .clear) (hl : s.idleLane? = some l) : Accounted [] dev (handOff f d none s) := by
  obtain ⟨hk, ha, hi⟩ := handOff_keys f d none s
  refine h.moves (h.housed.handOff hd hc hl) hk (fun p => ?_) ha hi
  exact lanesOfSlot_same (handsOff_handOff hl f d none).lane (by rw [idleLane?_idle hl]; simp [Lane.slot?])
    (by simp [laneFor, Lane.slot?])

/-- An ENCRYPT frame enters its lane, and the CURRENT slot has one more use (R53, R115). -/
theorem Accounted.enters {f : Nat} {d : Descriptor} {l j : Fin 4} {x : Assigned} {k : KeySlot} (h : Accounted [f] dev s)
    (hd : s.frame? f = some d) (hc : d.action = .encrypt a) (hl : s.idleLane? = some l)
    (hx : x.slot = { assoc := a, index := j }) (hrole : (s.slots a)[j].role = .current) (hkr : k.role = .current)
    (hke : k.epoch = (s.slots a)[j].epoch) (hku : k.uses = (s.slots a)[j].uses + 1) :
    Accounted [] dev (handOff f d (some x) (s.setSlot { assoc := a, index := j } k)) := by
  set v := s.setSlot { assoc := a, index := j } k with hvdef
  have hslots : v.slots a = (s.slots a).set j k := setSlot_slots s a j k
  have hlv : v.idleLane? = some l := hl
  have hho := handsOff_handOff hlv f d (some x)
  obtain ⟨hk, ha, hi⟩ := handOff_keys f d (some x) v
  have hidle : (v.lane l).slot? = none := by rw [idleLane?_idle hlv]; rfl
  have hlane : (laneFor f (some x)).slot? = some { assoc := a, index := j } := by rw [← hx]; rfl
  have hhouse : Housed [f] v := h.housed.same (sameFrames_of ⟨rfl, rfl, rfl, rfl, rfl⟩)
  have hst : (s.assoc a).state ≠ .dormant := fun hst => by
    have hall := (h.kept a).keys
    rw [hst] at hall
    rw [hall j] at hrole
    cases hrole
  refine h.change ((keepsOthers_setSlot a j k s).trans ⟨fun b _ => slots_eq_of_keys hk b,
      fun b _ => congrArg Assoc.state (assoc_eq_of_assocs ha b), fun p hp => lanesOfSlot_same hho.lane (by rw [hidle]; simp) ?_, hi⟩)
    (hhouse.handOff hd (by simp [Descriptor.fitsLane, hc, hx]) hlv) ⟨fun i => ?_, ?_, ?_⟩
  · rw [hlane]
    exact fun he => hp (by rw [← Option.some.inj he])
  · have hu := (h.kept a).slots i
    have hli := lanesOfSlot_length hho.lane { assoc := a, index := i }
    rw [hidle, hlane, if_neg (by simp), Nat.add_zero] at hli
    rw [slots_eq_of_keys hk, hslots, slot_set_get, State.users, hli]
    by_cases hij : i = j
    · subst hij
      rw [if_pos rfl, if_pos rfl]
      exact ⟨hku.trans (congrArg (· + 1) hu.1), fun _ => .inl hkr, fun hr => absurd (hkr.symm.trans hr) (by simp),
        fun hr => absurd (hkr.symm.trans hr) (by simp)⟩
    · rw [if_neg hij, if_neg fun he => hij (SlotRef.mk.inj (Option.some.inj he)).2.symm]
      exact hu
  · rw [slots_eq_of_keys hk, assoc_eq_of_assocs ha, hslots]
    refine allows_congr (h.kept a).keys hst fun i => ?_
    rw [slot_set_get]
    split
    · rename_i hij
      subst hij
      exact ⟨hkr.trans hrole.symm, hke⟩
    · exact ⟨rfl, rfl⟩
  · rw [assoc_eq_of_assocs ha, assocDef_eq_of_image hi]
    exact (h.kept a).state

/-- An ENCRYPT frame of a LIVE association enters its lane with the CURRENT slot (R115). -/
theorem Accounted.sendToLane {f : Nat} {d : Descriptor} {l : Fin 4} (h : Accounted [f] dev s) (hd : s.frame? f = some d)
    (hc : d.action = .encrypt a) (hlive : (s.assoc a).state = .live) (hl : s.idleLane? = some l) :
    Accounted [] dev (sendToLane a f d s) := by
  obtain ⟨-, hcur, -, -⟩ : AssocState.live.allows (s.slots a) := hlive ▸ (h.kept a).keys
  obtain ⟨j, hj⟩ := Option.isSome_iff_exists.1 (slotWithRole_isSome.2 (show 0 < roles (s.slots a) .current by omega))
  have hslot : (s.assignment a).slot = { assoc := a, index := j } := by simp [State.assignment, hj]
  have hk : (Machine.takeCounter a s).slots a = s.slots a := slots_eq_of_keys (by simp) a
  have hget : (Machine.takeCounter a s).slot { assoc := a, index := j } = (s.slots a)[j] := slot_eq_of_keys (by simp) _
  rw [sendToLane_eq]
  refine Accounted.prefetchTest ?_ a
  unfold loaded
  simp only [hslot]
  refine (h.takeCounter a).enters (l := l) ((frame?_of_buf (by simp) f).trans hd) hc ?_ hslot ?_ ?_ ?_ ?_
  · rw [← hl]
    simp [State.idleLane?, State.lane]
  · rw [hk]; exact slotWithRole_role hj
  · rw [hget]; exact slotWithRole_role hj
  · rw [hget, hk]
  · rw [hget, hk]

theorem Accounted.dropFrame {f : Nat} (h : Accounted (f :: hand) dev s) (d : Descriptor) (c : ExcClass) (v : Nat) :
    Accounted hand dev (dropFrame f d c v s) :=
  h.moves (h.housed.dropFrame d c v) (by simp) (fun p => lanesOfSlot_of_lanes (by simp) p) (by simp) (by simp)

theorem Accounted.parkFrame {f : Nat} {d : Descriptor} (h : Accounted [f] dev s) (hd : s.frame? f = some d)
    (ha : d.action = .encrypt a) (hx : d.assigned = none) (c : ExcClass) (b : Bool) :
    Accounted [] dev (parkFrame a f d c b s) :=
  h.moves (h.housed.parkFrame hd ha hx c b) (by simp) (fun p => lanesOfSlot_of_lanes (by simp) p) (by simp) (by simp)

theorem Accounted.takeHead {q : Fin 8} {f : Nat} {rest : List Nat} {d : Descriptor} (h : Accounted [] dev s)
    (hq : s.buf.queues[q] = f :: rest) (hd : s.frame? f = some d) : Accounted [f] dev (takeHead q rest d.cells s) :=
  h.moves (h.housed.takeHead hq hd) rfl (fun _ => rfl) rfl rfl

theorem Accounted.unpark {e : ParkEntry} {d : Descriptor} (h : Accounted [] dev s) (he : e ∈ s.disp.park)
    (hd : s.frame? e.frame = some d) : Accounted [e.frame] dev (unpark e.frame d.cells s) :=
  h.moves (h.housed.unpark he hd) rfl (fun _ => rfl) rfl rfl

theorem Accounted.dispatchQueued {q : Fin 8} {f : Nat} {rest : List Nat} {l : Fin 4} (h : Accounted [] dev s)
    (hq : s.buf.queues[q] = f :: rest) (hl : s.idleLane? = some l) : Accounted [] dev (dispatchQueued q f rest s) := by
  have hin : f ∈ [] ++ s.placed := by
    rw [List.nil_append, placed_eq]
    exact List.mem_append_left _ (List.mem_append_left _ (mem_inQueues.2 ⟨q, by simp [hq]⟩))
  obtain ⟨d, hd⟩ := h.housed.frame?_of_mem hin
  obtain ⟨-, hassigned⟩ := h.housed.queues.frames q f d (by simp [hq]) hd
  have ht := h.takeHead hq hd
  have hc := ht.checkFrame d
  have hcd : (Machine.checkFrame d (Machine.takeHead q rest d.cells s)).1.frame? f = some d :=
    checkFrame_frame? (s := Machine.takeHead q rest d.cells s) hd d ((hc.housed.stored f).1 (by simp))
  unfold Machine.dispatchQueued
  rw [hd]
  simp only
  split
  · rename_i e he
    unfold State.parkGroup? at he
    split at he
    · rename_i b hb
      have hp := List.find?_some he
      simp only [Bool.and_eq_true, beq_iff_eq] at hp
      rw [← hp.1] at hb
      exact ht.parkFrame hd hb hassigned _ _
    · cases he
  · unfold settleQueued
    split
    · rename_i hv
      have hclear := clear_of_passClear hv
      rw [checkFrame_clear hclear]
      exact ht.passClear hd hclear hl
    · rename_i b hv
      obtain ⟨hlive, hw, -⟩ := checkFrame_assign hv
      have hb := encrypt_of_assign hv
      refine hc.sendToLane (l := l) hcd hb ?_ ?_
      · rw [hw, (rangeWalk_keeps 2 b _).1]
        exact hlive
      · rw [hw, ← hl]
        simp [State.idleLane?, State.lane, Machine.takeHead]
    · exact hc.dropFrame d _ _
    · split
      · rename_i b _ hb
        exact hc.parkFrame hcd hb hassigned _ _
      · exact hc.dropFrame d _ _

theorem Accounted.dispatchParked {e : ParkEntry} {l : Fin 4} (h : Accounted [] dev s) (he : e ∈ s.disp.park)
    (hl : s.idleLane? = some l) : Accounted [] dev (dispatchParked e s) := by
  have hin : ∀ u : State, e ∈ u.disp.park → e.frame ∈ [] ++ u.placed := fun u hu => by
    rw [List.nil_append, placed_eq]
    exact List.mem_append_left _ (List.mem_append_right _ (List.mem_map_of_mem hu))
  obtain ⟨d, hd⟩ := h.housed.frame?_of_mem (hin s he)
  have hc := h.checkFrame d
  have hce : e ∈ (Machine.checkFrame d s).1.disp.park := by simpa using he
  have hcd : (Machine.checkFrame d s).1.frame? e.frame = some d :=
    checkFrame_frame? hd d ((hc.housed.stored e.frame).1 (hin _ hce))
  have hu := hc.unpark hce hcd
  unfold Machine.dispatchParked
  rw [hd]
  simp only
  unfold settleParked
  split
  · rename_i hv
    have hclear := clear_of_passClear hv
    rw [checkFrame_clear hclear]
    exact (h.unpark he hd).passClear hd hclear hl
  · rename_i b hv
    obtain ⟨hlive, hw, -⟩ := checkFrame_assign hv
    refine hu.sendToLane (l := l) hcd (encrypt_of_assign hv) ?_ ?_
    · change ((Machine.checkFrame d s).1.assoc b).state = .live
      rw [hw, (rangeWalk_keeps 2 b _).1]
      exact hlive
    · change (Machine.checkFrame d s).1.idleLane? = some l
      rw [hw, ← hl]
      simp [State.idleLane?, State.lane]
  · exact hu.dropFrame d _ _
  · split
    · exact hc.still (sameFrames_repark e _ _) (by simp) (fun b => congrArg Assoc.state (assoc_eq_of_assocs (by simp) b)) (by simp)
    · exact hu.dropFrame d _ _

/-! ## The park timeout (R127) -/

theorem Accounted.timeoutEntry {e : ParkEntry} (h : Accounted [] dev s) (he : e ∈ s.disp.park) :
    Accounted [] dev (timeoutEntry e s) := by
  obtain ⟨d, hd⟩ := h.housed.frame?_of_mem (x := e.frame) (by
    rw [List.nil_append, placed_eq]
    exact List.mem_append_left _ (List.mem_append_right _ (List.mem_map_of_mem he)))
  unfold Machine.timeoutEntry
  rw [hd]
  exact (h.unpark he hd).dropFrame d _ _

/-! ## A key is taken up (R134) -/

/-- A lane's frame goes on with the same slot. -/
theorem Housed.relane {l : Fin 4} {x : Lane} (h : Housed hand s) (hf : x.frame? = (s.lane l).frame?)
    (hs : x.slot? = (s.lane l).slot?) : Housed hand (s.setLane l x) := by
  have hlane : ∀ m, ((s.setLane l x).lane m).frame? = (s.lane m).frame? ∧ ((s.setLane l x).lane m).slot? = (s.lane m).slot? :=
    fun m => by
      rw [setLane_lane]
      split
      · rename_i hm
        rw [hm, hf, hs]
        exact ⟨rfl, rfl⟩
      · exact ⟨rfl, rfl⟩
  obtain ⟨hsorted, hnodup, hstored, hqueues, hpark, hlanes⟩ := h
  refine ⟨hsorted, hnodup, hstored, hqueues.congr rfl rfl fun _ _ => rfl, hpark.congr rfl rfl fun _ _ => rfl, ⟨hlanes.frames, hlanes.inFlight, fun m f hm => ?_, fun e he hu => ?_,
    hlanes.sending⟩⟩
  · rw [(hlane m).1] at hm
    obtain ⟨hone, e, he, hef, hd⟩ := hlanes.lanes m f hm
    refine ⟨fun m' hm' => hone m' ((hlane m').1 ▸ hm'), e, he, hef, fun d hfd => ?_⟩
    have := hd d hfd
    unfold Lane.holds at this ⊢
    rwa [(hlane m).2]
  · obtain ⟨m, hm⟩ := hlanes.unfinished e he hu
    exact ⟨m, (hlane m).1.trans hm⟩

theorem Accounted.relane {l : Fin 4} {x : Lane} (h : Accounted hand dev s) (hf : x.frame? = (s.lane l).frame?)
    (hs : x.slot? = (s.lane l).slot?) : Accounted hand dev (s.setLane l x) := by
  refine h.moves (h.housed.relane hf hs) (by simp) (fun p => ?_) (by simp) (by simp)
  refine List.filter_congr fun m _ => ?_
  rw [setLane_lane]
  split
  · rename_i hm
    rw [hm, hs]
  · rfl

/-- The key of a slot a frame names is in service. -/
theorem Accounted.inService {l : Fin 4} {r : SlotRef} (h : Accounted hand dev s) (hl : (s.lane l).slot? = some r) :
    (s.slot r).uses = (s.lanesOfSlot r).length ∧ (s.slot r).uses ≠ 0 ∧
      ((s.slot r).role = .current ∨ (s.slot r).role = .retiring) ∧ (s.assoc r.assoc).state ≠ .dormant := by
  obtain ⟨hu, hserve, -, -⟩ := (h.kept r.assoc).slots r.index
  have hpos : (s.slot r).uses ≠ 0 := by
    have hm : l ∈ s.lanesOfSlot r := mem_lanesOfSlot.2 hl
    change (s.slot r).uses = (s.lanesOfSlot r).length at hu
    rw [hu]
    exact List.ne_nil_iff_length_pos.1 (List.ne_nil_of_mem hm) |>.ne'
  refine ⟨hu, hpos, hserve hpos, fun hst => hpos ?_⟩
  have hall := (h.kept r.assoc).keys
  rw [hst] at hall
  have := hall r.index
  rw [show s.slot r = (s.slots r.assoc)[r.index] from rfl, this]
  rfl

/-- The bits of a slot in use may change (R134, log 19). -/
theorem Accounted.upset {l : Fin 4} {r : SlotRef} (h : Accounted hand dev s) (hl : (s.lane l).slot? = some r) (x : SlotUpset) :
    Accounted hand dev (s.setSlot r ((s.slot r).upset x)) := by
  obtain ⟨-, hpos, hserve, hst⟩ := h.inService hl
  obtain ⟨b, j⟩ := r
  have hu := (h.kept b).slots j
  refine h.setSlot (j := j) ⟨hu.1, hu.2.1, hu.2.2.1, fun he => ?_⟩ (allows_congr (h.kept b).keys hst fun i => ?_)
  · have he : (s.slot { assoc := b, index := j }).role = .empty := he
    rcases hserve with hr | hr <;> exact absurd (he.symm.trans hr) (by simp)
  · rw [slot_set_get]
    split
    · rename_i hij
      subst hij
      exact ⟨rfl, rfl⟩
    · exact ⟨rfl, rfl⟩

/-! ## A key check failure (R24, R71, R134, R137) -/

theorem Housed.abortLanes (h : Housed hand s) (a : Fin 64) (L : List (Fin 4)) : Housed hand (L.foldl (abortLane a) s) := by
  induction L generalizing s with
  | nil => exact h
  | cons m L ih =>
    have hu : Housed hand (bumpDrop a .keyCheck 1 s) := h.same (sameFrames_of (by simp))
    exact ih (hu.removeLaneFrame m)

theorem Accounted.keyFailed {l : Fin 4} {r : SlotRef} (h : Accounted hand dev s) (hl : (s.lane l).slot? = some r)
    (x : SlotUpset) : Accounted hand dev (keyFailed r x s) := by
  rw [keyFailed_eq]
  refine Accounted.report ?_ _ _ _ _
  obtain ⟨-, hpos, hserve, hst⟩ := h.inService hl
  set k := (s.slot r).upset x
  have hf := fails_failedKeyState r k s
  have hsending : (failedKeyState r.assoc (s.slot r).role (wipeSlot r (s.setSlot r k))).campus.sending = s.campus.sending := by
    simp
  set w := failedKeyState r.assoc (s.slot r).role (wipeSlot r (s.setSlot r k))
  have hlanes : ∀ m, w.lane m = s.lane m := lane_eq_of_lanes (congrArg Lanes.lanes hf.lanes)
  have hfailed : s.failedLanes r = w.lanesOfSlot r := (lanesOfSlot_of_lanes (s := s) (by rw [hf.lanes]) r).symm
  rw [hfailed]
  have hab : Aborts w ((w.lanesOfSlot r).foldl (abortLane r.assoc) w) (w.lanesOfSlot r) :=
    aborts_abortLanes r.assoc (lanesOfSlot_nodup r) fun m hm => slot?_frame? (mem_lanesOfSlot.1 hm)
  have hw : Housed hand w :=
    h.housed.same ⟨by rw [hf.buf], by rw [hf.buf], by rw [hf.buf], by rw [hf.disp], by rw [hf.disp], hf.lanes, hsending⟩
  set v := (w.lanesOfSlot r).foldl (abortLane r.assoc) w with hv
  have hkeys : v.keys = w.keys := by simp [hv]
  have hassocs : v.assocs = w.assocs := by simp [hv]
  have himage : v.image = s.image := (by simp [hv] : v.image = w.image).trans hf.image
  have hlos : ∀ p, v.lanesOfSlot p = if p = r then [] else s.lanesOfSlot p := fun p => by
    rw [hab.lanesOfSlot, lanesOfSlot_of_lanes (s := s) (by rw [hf.lanes])]
  have hrecord : (v.assoc r.assoc).state = if s.losesKey r then .keyWait else (s.assoc r.assoc).state := by
    rw [assoc_eq_of_assocs hassocs, hf.record]
    split <;> rfl
  have hslots : v.slots r.assoc = (s.slots r.assoc).set r.index KeySlot.wiped := Vector.ext fun i hi => by
    refine ((slot_eq_of_keys hkeys ⟨r.assoc, ⟨i, hi⟩⟩ : _)).trans ?_
    refine Eq.trans ?_ (slot_set_get (s.slots r.assoc) r.index ⟨i, hi⟩ KeySlot.wiped).symm
    by_cases he : (⟨i, hi⟩ : Fin 4) = r.index
    · rw [if_pos he, he]
      exact hf.slot
    · rw [if_neg he]
      exact hf.slots _ fun hr => he (by rw [← hr])
  refine h.change (a := r.assoc) ⟨fun b hb => ?_, fun b hb => ?_, fun p hp => ?_, himage⟩ (hw.abortLanes r.assoc _) ⟨fun i => ?_,
    ?_, ?_⟩
  · rw [slots_eq_of_keys hkeys]
    exact slots_ext fun j => hf.slots _ fun hr => hb (by rw [← hr])
  · rw [assoc_eq_of_assocs hassocs, hf.others b hb]
  · rw [hlos, if_neg fun he => hp (by rw [he])]
  · rw [hslots, slot_set_get, State.users, hlos]
    by_cases hi : i = r.index
    · rw [if_pos hi, if_pos (by rw [hi])]
      exact usedBy_wiped
    · rw [if_neg hi, if_neg fun he => hi (by rw [← he])]
      exact (h.kept r.assoc).slots i
  · rw [hslots, hrecord]
    have hall := (h.kept r.assoc).keys
    by_cases hlost : s.losesKey r
    · rw [if_pos hlost]
      rw [hlost.2] at hall
      obtain ⟨h1, h2, h3, h4⟩ := hall
      have hset := fun y => roles_set (s.slots r.assoc) r.index KeySlot.wiped y
      have hrole : (s.slots r.assoc)[r.index].role = .current := hlost.1
      simp only [hrole, show KeySlot.wiped.role = Role.empty from rfl] at hset
      have e1 := hset .pending
      have e2 := hset .current
      have e3 := hset .standby
      have e4 := hset .retiring
      simp only [if_true, reduceCtorEq, if_false] at e1 e2 e3 e4
      exact ⟨by omega, by omega, by omega, by omega⟩
    · rw [if_neg hlost]
      exact allows_wipe hall fun hc hl => hlost ⟨hc, hl⟩
  · rw [hrecord, assocDef_eq_of_image himage]
    split
    · rename_i hlost
      obtain ⟨hd, hdev⟩ := (h.kept r.assoc).state.of_inEpoch (by rw [hlost.2]; rfl)
      rw [hd]
      exact suits_of_defined hdev (by simp)
    · exact (h.kept r.assoc).state

/-! ## A lane finishes (R53, R135, R136) -/

theorem setLane_keys (s : State) (l : Fin 4) (x : Lane) : (s.setLane l x).keys = s.keys ∧ (s.setLane l x).assocs = s.assocs ∧
    (s.setLane l x).image = s.image := by simp

theorem Accounted.clearPass {l : Fin 4} {f : Nat} (h : Accounted hand dev s) (hl : s.lane l = .passing f) :
    Accounted hand dev ((finishEntry f [] s).setLane l .idle) := by
  refine h.moves (h.housed.finishes (by rw [hl]; rfl) (finishes_clearPass h.housed.sorted l f)) rfl (fun p => ?_) rfl rfl
  exact lanesOfSlot_same (finishes_clearPass h.housed.sorted l f).lane (by rw [hl]; simp [Lane.slot?]) (by simp [Lane.slot?])

/-- A slot once a frame that used it is finished (R53, R135). -/
def KeySlot.released (k : KeySlot) : KeySlot :=
  if k.role = .retiring ∧ k.uses - 1 = 0 then KeySlot.wiped else { k with uses := k.uses - 1 }

theorem releaseUse_slot (r p : SlotRef) (s : State) :
    (releaseUse r s).slot p = if p = r then (s.slot r).released else s.slot p := by
  have hself : (loseUse r s).slot r = { s.slot r with uses := (s.slot r).uses - 1 } := setSlot_slot_self s r _
  unfold releaseUse
  simp only [hself]
  by_cases hp : p = r
  · subst hp
    rw [if_pos rfl, KeySlot.released]
    split
    · rw [wipeSlot_slot, if_pos rfl]
    · exact hself
  · rw [if_neg hp]
    split
    · rw [wipeSlot_slot, if_neg hp, loseUse_slot_ne hp]
    · exact loseUse_slot_ne hp s

theorem KeySlot.usedBy.released {k : KeySlot} {n : Nat} (h : k.usedBy (n + 1)) : k.released.usedBy n := by
  obtain ⟨hu, hserve, hret, -⟩ := h
  have hin := hserve (by rw [hu]; omega)
  unfold KeySlot.released
  split
  · rename_i hz
    have hn : n = 0 := by omega
    rw [hn]
    exact usedBy_wiped
  · rename_i hz
    refine ⟨by simp [hu], fun _ => hin, fun hr h0 => hz ⟨hr, h0⟩, fun he => ?_⟩
    have he : k.role = .empty := he
    rcases hin with hr | hr <;> exact absurd (he.symm.trans hr) (by simp)

theorem Accounted.finishEncrypt {l : Fin 4} {f : Nat} {r : SlotRef} {key : BitVec 256} (h : Accounted hand dev s)
    (hl : s.lane l = .enciphering f r key) : Accounted hand dev (finishEncrypt l f r key s) := by
  obtain ⟨e, -, d, -, hd, -⟩ := h.housed.lane_frame (l := l) (f := f) (by rw [hl]; rfl)
  have hfin := finishes_encrypt h.housed.sorted hd l r key
  obtain ⟨-, hpos, hserve, hst⟩ := h.inService (l := l) (r := r) (by rw [hl]; rfl)
  have hassocs : (Machine.finishEncrypt l f r key s).assocs = s.assocs := by simp [Machine.finishEncrypt, hd, finishEntry, writeCipherText]
  have himage : (Machine.finishEncrypt l f r key s).image = s.image := by simp [Machine.finishEncrypt, hd, finishEntry, writeCipherText]
  have hslot : ∀ p, (Machine.finishEncrypt l f r key s).slot p = if p = r then (s.slot r).released else s.slot p := fun p => by
    unfold Machine.finishEncrypt
    rw [hd]
    exact releaseUse_slot r p _
  have hlen : ∀ p, ((Machine.finishEncrypt l f r key s).lanesOfSlot p).length + (if r = p then 1 else 0) =
      (s.lanesOfSlot p).length := fun p => by
    have := lanesOfSlot_length hfin.lane p
    simpa [hl, Lane.slot?] using this
  have hslots : (Machine.finishEncrypt l f r key s).slots r.assoc = (s.slots r.assoc).set r.index (s.slot r).released :=
    Vector.ext fun i hi => by
      refine (hslot ⟨r.assoc, ⟨i, hi⟩⟩).trans ?_
      refine Eq.trans ?_ (slot_set_get (s.slots r.assoc) r.index ⟨i, hi⟩ _).symm
      by_cases he : (⟨i, hi⟩ : Fin 4) = r.index
      · rw [if_pos he, if_pos (by rw [he])]
      · rw [if_neg he, if_neg fun hr => he (by rw [← hr])]
        rfl
  refine h.change (a := r.assoc) ⟨fun b hb => slots_ext fun j => ?_, fun b _ => congrArg Assoc.state (assoc_eq_of_assocs hassocs b),
    fun p hp => ?_, himage⟩ (h.housed.finishes (by rw [hl]; rfl) hfin) ⟨fun i => ?_, ?_, ?_⟩
  · rw [hslot, if_neg fun hr => hb (by rw [← hr])]
  · refine lanesOfSlot_same hfin.lane ?_ (by simp [Lane.slot?])
    rw [hl]
    exact fun he => hp (by rw [← Option.some.inj he])
  · have hu := (h.kept r.assoc).slots i
    have hli := hlen { assoc := r.assoc, index := i }
    rw [hslots, slot_set_get]
    by_cases hi : i = r.index
    · subst hi
      rw [if_pos rfl] at hli
      rw [if_pos rfl]
      refine KeySlot.usedBy.released ?_
      rw [State.users, hli]
      exact hu
    · rw [if_neg fun he => hi (by rw [he]), Nat.add_zero] at hli
      rw [if_neg hi, State.users, hli]
      exact hu
  · rw [assoc_eq_of_assocs hassocs, hslots]
    have hall := (h.kept r.assoc).keys
    unfold KeySlot.released
    split
    · rename_i hz
      exact allows_wipe hall fun hc => absurd (hz.1.symm.trans hc) (by simp)
    · refine allows_congr hall hst fun i => ?_
      rw [slot_set_get]
      split
      · rename_i hi
        rw [hi]
        exact ⟨rfl, rfl⟩
      · exact ⟨rfl, rfl⟩
  · rw [assoc_eq_of_assocs hassocs, assocDef_eq_of_image himage]
    exact (h.kept r.assoc).state

/-! ## The head of the completion list is sent (R143) -/

theorem Accounted.headSent {e : CompletionEntry} {rest : List CompletionEntry} (h : Accounted hand dev s)
    (hc : s.lanes.completion = e :: rest) (hs : s.campus.sending.isSome = true) : Accounted hand dev (headSent e rest s) :=
  h.moves (h.housed.headSent hc hs) (by simp [Machine.headSent]) (fun p => lanesOfSlot_of_lanes (by simp [Machine.headSent]) p)
    (by simp [Machine.headSent]) (by simp [Machine.headSent])

end Sys2Proof.Machine
end

section
/-! SUPPORT. Frames and keys accounted for, under start-up, the end of settle, zeroization, receptions and commands (R50, R90, R96,
R128, R163, R184, R191 to R198). -/

namespace Sys2Proof.Machine

variable {hand : List Nat} {dev : DeviceState} {s t u : State} {a : Fin 64}

/-! ## A device that holds nothing (R184, R186, R198) -/

/-- Every association is DORMANT, every slot wiped, every lane IDLE. -/
structure Bare (s : State) : Prop where
  dormant : ∀ a : Fin 64, (s.assoc a).state = .dormant
  wiped : ∀ a (j : Fin 4), (s.slots a)[j] = KeySlot.wiped
  idle : ∀ l : Fin 4, s.lane l = .idle

theorem bare_of_holdsNothing (h : HoldsNothing s) : Bare s := by
  obtain ⟨hd, hs, -, -, -, -, -, -, -, hl, -⟩ := h
  exact ⟨hd, fun a j => hs ⟨a, j⟩, hl⟩

theorem Bare.users (h : Bare s) (a : Fin 64) (j : Fin 4) : s.users a j = 0 := by
  refine List.length_eq_zero_iff.2 (List.filter_eq_nil_iff.2 fun l _ => ?_)
  rw [h.idle]
  simp [Lane.slot?]

theorem Bare.accounted (h : Bare s) (hh : Housed hand s) (hdev : dev ≠ .settling) : Accounted hand dev s := by
  refine ⟨hh, fun a => ⟨fun j => ?_, ?_, ?_⟩⟩
  · rw [h.wiped, h.users]
    exact usedBy_wiped
  · rw [h.dormant]
    exact h.wiped a
  · rw [h.dormant]
    exact ⟨fun _ => rfl, fun hd => absurd hd hdev, fun _ => by simp⟩

theorem bare_reset : Bare State.reset := by
  refine ⟨fun a => ?_, fun a j => ?_, fun l => ?_⟩
  · simp [State.assoc, State.reset]
    rfl
  · simp [State.slots, State.reset]
  · simp [State.lane, State.reset, Lanes.reset]

theorem Bare.congr (h : Bare s) (ha : t.assocs = s.assocs) (hk : t.keys = s.keys) (hl : t.lanes.lanes = s.lanes.lanes) :
    Bare t :=
  ⟨fun a => by rw [assoc_eq_of_assocs ha]; exact h.dormant a, fun a j => by rw [slots_eq_of_keys hk]; exact h.wiped a j,
    fun l => by unfold State.lane; rw [hl]; exact h.idle l⟩

/-! ## The end of an event -/

/-- The end of an event keeps frames and keys accounted for (R106, R116, R143). -/
theorem Accounted.ends (h : Accounted [] dev u) (hd : u.device = dev) (before : State) :
    Accounted [] (finishEvent before u).device (finishEvent before u) := by
  have hdev : (finishEvent before u).device = dev := by simp [hd]
  rw [hdev]
  exact h.moves (h.housed.finishEvent before) (by simp) (fun p => lanesOfSlot_of_lanes (by simp) p)
    (by simp) (by simp)

/-! ## Reset, load and settle (R50, R184 to R192) -/

theorem accounted_deviceReset (h : execDeviceReset s = .next t) : Accounted [] t.device t := by
  cases h
  refine Bare.accounted (bare_reset.congr rfl rfl rfl) ?_ (by simp [State.reset])
  exact housed_of_empty List.Pairwise.nil (fun _ => rfl) rfl rfl rfl rfl rfl rfl

theorem Bare.loadComplete (h : Bare s) (hh : Housed hand s) (image : List Byte) :
    Accounted hand .settling (loadComplete image s) := by
  have hrec : ∀ a, (Machine.loadComplete image s).assoc a = (s.assoc a).atSettle (parseImage image).defs[a] := fun a => by
    simp [Machine.loadComplete, State.assoc]
  have hdef : ∀ a, (Machine.loadComplete image s).assocDef a = (parseImage image).defs[a] := fun a => by
    simp [Machine.loadComplete, State.assocDef, State.cfg]
  have hkeys : ∀ a, (Machine.loadComplete image s).slots a = s.slots a := fun a => slots_eq_of_keys (by simp [Machine.loadComplete]) a
  have hlanes : (Machine.loadComplete image s).lanes = s.lanes := by simp [Machine.loadComplete]
  have hdormant : ∀ a, AssocState.dormant.allows (s.slots a) := fun a => h.wiped a
  refine ⟨hh.same (sameFrames_of (by simp [Machine.loadComplete])), fun a => ⟨fun j => ?_, ?_, ?_⟩⟩
  · rw [hkeys, h.wiped, users_of_lanes (s := s) (by rw [hlanes]), h.users]
    exact usedBy_wiped
  all_goals
    rw [hrec]
    unfold Assoc.atSettle
    cases hd : (parseImage image).defs[a].defined
  · rw [hkeys]
    simpa [h.dormant a] using hdormant a
  · rw [hkeys]
    simpa using settling_allows_of_dormant (hdormant a)
  all_goals
    rw [hdef, hd]
    simp [h.dormant a, AssocState.suits]

theorem Bare.checkImage (h : Bare s) (hh : Housed hand s) : Accounted hand (checkImage s).device (checkImage s) := by
  unfold Machine.checkImage
  split
  · refine (h.congr (by simp [halt]) (by simp [halt]) (by simp [halt])).accounted (hh.same (sameFrames_of (by simp [halt]))) (by simp [halt])
  · have hdev : (Machine.loadComplete s.readBuffer s).device = .settling := by simp [Machine.loadComplete]
    rw [hdev]
    exact h.loadComplete hh _

/-- The end of settle places every key where the record's new state allows it (R50, R192). -/
theorem Accounted.settleEnds (h : Accounted hand .settling s) :
    Accounted hand .running (s |> Machine.enterRunning |> Machine.placeAll |> postSettlingMarks |> postSettled) := by
  have hrun : Accounted hand .settling (Machine.enterRunning s) :=
    h.plain (by simp [Machine.enterRunning])
  have hmarks : ∀ u, Accounted hand .running u → Accounted hand .running (postSettlingMarks u) := fun u hu => by
    unfold postSettlingMarks
    exact hu.foldl (fun v x hv => by split <;> [exact hv.postMark x .settling; exact hv]) _
  exact (hmarks _ hrun.placeAll).postNotice _

/-! ## Zeroization (R194 to R199) -/

theorem bare_of_erased {l : Vector Assoc 64} (ha : s.assocs = l.map Assoc.toDormant)
    (hk : s.keys = Vector.replicate 64 (Vector.replicate 4 KeySlot.wiped))
    (hl : s.lanes.lanes = Vector.replicate 4 .idle) : Bare s :=
  ⟨fun a => by simp [State.assoc, ha, Assoc.toDormant], fun a j => by simp [State.slots, hk],
    fun j => by simp [State.lane, hl]⟩

theorem zeroizeStep2_lanes (s : State) : (zeroizeStep2 s).lanes.lanes = Vector.replicate 4 .idle := by
  simp [zeroizeStep2, zeroizeLists, zeroizeLanes]

theorem bare_zeroizeSequence (s : State) : Bare (zeroizeSequence s) :=
  bare_of_erased (l := (zeroizeStep2 (zeroizeStep1 s)).assocs) rfl rfl (zeroizeStep2_lanes _)

theorem zeroizeSequence_device (s : State) : (zeroizeSequence s).device = .zeroizing := by
  simp [zeroizeSequence, zeroizeStep1, zeroizeStep2, zeroizeStep3, zeroizeStep4, zeroizeStep5, zeroizeEngine, zeroizeLanes,
    zeroizeLists]

theorem Accounted.zeroizeRequest (h : Accounted [] s.device s) :
    Accounted [] (zeroizeRequest s).device (zeroizeRequest s) := by
  have hl : Accounted [] s.device (setLatch s) := h.plain ⟨rfl, rfl, rfl, rfl, rfl, rfl, rfl, rfl⟩
  fun_cases Machine.zeroizeRequest s
  case case4 =>
    rw [zeroizeSequence_device]
    exact (bare_zeroizeSequence _).accounted (housed_zeroizeSequence hl.housed.sorted) (by decide)
  case case3 => exact hl
  all_goals exact h

end Sys2Proof.Machine
end

section
/-! SUPPORT. Frames and keys accounted for at receptions and commands, and at every step (R92 to R96, R128, R153 to R172). -/

namespace Sys2Proof.Machine

variable {hand : List Nat} {dev : DeviceState} {s t u : State} {a : Fin 64}

/-! ## Receptions (R91 to R105) -/

theorem Housed.receiveRack (h : Housed [] s) (r : RackReception) : Housed [] (receiveRack r s) := by
  have hs : Housed [] (storeBytes r s) := h.same ⟨rfl, rfl, rfl, rfl, rfl, rfl, rfl⟩
  unfold Machine.receiveRack
  split
  · exact hs.receiveStages r
  · exact hs.same (sameFrames_of (by simp))

theorem Accounted.receiveRack (h : Accounted [] dev s) (r : RackReception) : Accounted [] dev (receiveRack r s) :=
  h.moves (h.housed.receiveRack r) (by simp) (fun p => lanesOfSlot_of_lanes (by simp) p) (by simp) (by simp)

/-! ## Dispatch (R108, R109) -/

theorem queueHead?_queued {q p : Fin 8} {f : Nat} {rest : List Nat} (h : s.queueHead? q = some (.queued p f rest)) :
    s.buf.queues[p] = f :: rest := by
  unfold State.queueHead? at h
  split at h
  · rename_i f' rest' _ hq
    cases h
    exact hq
  · cases h

theorem queueHead?_not_parked {q : Fin 8} {e : ParkEntry} : s.queueHead? q ≠ some (.parked e) := by
  unfold State.queueHead?
  split <;> simp

theorem Accounted.dispatchCandidate {c : Candidate} (h : Accounted [] dev s) (hm : s.mayDispatch = true)
    (hc : s.candidate? = some c) : Accounted [] dev (dispatchCandidate c s) := by
  obtain ⟨l, hl, -⟩ := idleLane_of_mayDispatch hm
  unfold State.candidate? at hc
  split at hc
  · rename_i e he
    cases hc
    exact h.dispatchParked (List.mem_of_find?_eq_some he) hl
  · obtain ⟨q, -, hq⟩ := List.exists_of_findSome?_eq_some hc
    cases c with
    | parked e => exact absurd hq queueHead?_not_parked
    | queued p f rest => exact h.dispatchQueued (queueHead?_queued hq) hl

/-! ## Commands (R153 to R172) -/

theorem Accounted.leaveHead (h : Accounted hand dev s) : Accounted hand dev (leaveHead s) := h.plain (by simp)

theorem Accounted.placeReply {o : CommandOutcome} (h : Accounted hand dev o.state) (data : List Byte) :
    Accounted hand dev (placeReply data o) := h.plain (by simp)

/-- What a command comes to keeps frames and keys accounted for, in the device state it found. -/
def CommandOutcome.keeps (s : State) (o : CommandOutcome) : Prop := Accounted [] s.device o.state ∧ o.state.device = s.device

theorem keeps_refuse (h : Accounted [] s.device s) (r : CommandResult) (v : Nat) : (refuseCommand r v s).keeps s := ⟨h, rfl⟩

theorem keeps_answer (h : Accounted [] s.device u) (hd : u.device = s.device) (r : CommandResult) (v : Nat) :
    (answer r v u).keeps s := ⟨h, hd⟩

theorem CommandOutcome.keeps.ends {o : CommandOutcome} (h : o.keeps s) (data : List Byte) (before : State) :
    Accounted [] (finishEvent before (placeReply data o)).device (finishEvent before (placeReply data o)) :=
  Accounted.ends (dev := s.device) (h.1.placeReply data) (by simpa using h.2) before

theorem Accounted.runCommand {code : Byte} {rule : List Byte → State → CommandOutcome} (h : Accounted [] s.device s)
    (hr : (s.executing? code).isSome = true → ∀ body, (rule body s).keeps s) :
    Accounted [] (runCommand code rule s).device (runCommand code rule s) := by
  unfold Machine.runCommand
  split
  · rename_i data hx
    split
    · exact (hr (by rw [hx]; rfl) _).ends data s
    · exact (keeps_refuse h _ _).ends data s
  · exact h

theorem definedAssoc?_defined {b : Byte} (h : s.definedAssoc? b = some a) : (s.assocDef a).defined = true := by
  unfold State.definedAssoc? at h
  split at h
  · split at h
    · rename_i hd
      cases h
      exact hd
    · cases h
  · cases h

theorem keeps_onAssoc {f : Fin 64 → State → CommandOutcome} (h : Accounted [] s.device s)
    (hr : ∀ a, (s.assocDef a).defined = true → (f a s).keeps s) (body : List Byte) : (onAssoc f body s).keeps s := by
  unfold onAssoc
  split
  · rename_i a ha
    exact hr a (definedAssoc?_defined ha)
  · exact keeps_refuse h _ _

/-- A command executes only while the device is SETTLING or RUNNING (R189, R196, R200). -/
theorem working_of_executing {code : Byte} (he : ErasedOutsideWork s) (hx : (s.executing? code).isSome = true) :
    s.device = .settling ∨ s.device = .running := by
  obtain ⟨data, hx⟩ := Option.isSome_iff_exists.1 hx
  obtain ⟨hst, -⟩ := executing?_eq_some.1 hx
  by_contra hw
  obtain ⟨-, -, -, -, -, hidle, -⟩ := he (by cases hd : s.device <;> simp_all [DeviceState.working])
  rw [hst] at hidle
  cases hidle

theorem keeps_installRule (h : Accounted [] s.device s) (hdev : s.device = .settling ∨ s.device = .running)
    (hd : (s.assocDef a).defined = true) (body : List Byte) : (installRule body a s).keeps s := by
  unfold installRule
  simp only
  generalize unwrapInstall s.engine.wrapKey body = i
  split
  · exact keeps_refuse h _ _
  · have hu : Accounted [] s.device (setUnwrapStore i.key s) := h.plain (by simp)
    have ho : Accounted [] s.device (decideInstall a i (setUnwrapStore i.key s)).state :=
      Accounted.decideInstall (s := setUnwrapStore i.key s) hu hdev hd i
    have h0 : Accounted [] s.device (setUnwrapStore 0 (decideInstall a i (setUnwrapStore i.key s)).state) := ho.plain (by simp)
    unfold installDecided
    simp only
    split
    · split
      · exact keeps_answer (h0.plain (by simp)) (by simp) _ _
      · exact keeps_answer h0 (by simp) _ _
    · exact ⟨h0, by simp [refuseCommand]⟩

theorem keeps_moveSegmentsRule (h : Accounted [] s.device s) (body : List Byte) : (moveSegmentsRule body s).keeps s := by
  fun_cases moveSegmentsRule body s
  case case3 =>
    refine keeps_answer ?_ ?_ _ _
    · exact h.plain ⟨rfl, rfl, rfl, rfl, rfl, rfl, rfl, rfl⟩
    · rfl
  all_goals exact keeps_refuse h _ _

theorem keeps_advanceEpochRule (h : Accounted [] s.device s) (a : Fin 64) : (advanceEpochRule a s).keeps s := by
  unfold advanceEpochRule
  split
  · exact keeps_answer (h.requestAdvance a _) (by simp) _ _
  · exact keeps_refuse h _ _

theorem Accounted.removeFrames (h : Accounted [] dev s) (a : Fin 64) : Accounted [] dev (removeFrames a s) :=
  h.moves (h.housed.removeFrames a) (by simp) (fun p => lanesOfSlot_of_lanes (by simp) p) (by simp) (by simp)

theorem keeps_retireSaRule (h : Accounted [] s.device s) (hd : (s.assocDef a).defined = true) : (retireSaRule a s).keeps s := by
  unfold retireSaRule
  split
  · exact keeps_refuse h _ _
  · have hr : Accounted [] s.device (Machine.removeFrames a (Machine.retire a false s)) := (h.retire hd false).removeFrames a
    have hb : Accounted [] s.device (bumpDrop a .retired (s.heldFrames a).length
      (Machine.removeFrames a (Machine.retire a false s))) := hr.plain (by simp)
    exact keeps_answer (hb.report _ _ _ _) (by simp) _ _

theorem keeps_flushSaRule (h : Accounted [] s.device s) (a : Fin 64) : (flushSaRule a s).keeps s :=
  keeps_answer ((h.removeFrames a).bump a _ _) (by simp) _ _

theorem keeps_quiesceRule (h : Accounted [] s.device s) (body : List Byte) : (quiesceRule body s).keeps s := by
  unfold quiesceRule
  simp only
  split
  · exact keeps_refuse h _ _
  · exact keeps_answer (h.plain (by simp)) (by simp) _ _

theorem keeps_resumeRule (h : Accounted [] s.device s) (body : List Byte) : (resumeRule body s).keeps s := by
  unfold resumeRule
  simp only
  split
  · exact keeps_refuse h _ _
  · exact keeps_answer (h.plain (by simp)) (by simp) _ _

theorem keeps_readStatusRule (h : Accounted [] s.device s) (body : List Byte) : (readStatusRule body s).keeps s := by
  unfold readStatusRule
  simp only
  split
  · exact keeps_refuse h _ _
  · exact ⟨h.plain (by simp), rfl⟩

theorem Accounted.writeSegmentsRule (h : Accounted [] s.device s) (data : List Byte) :
    Accounted [] s.device (writeSegmentsRule data s) ∧ (Machine.writeSegmentsRule data s).device = s.device := by
  fun_cases Machine.writeSegmentsRule data s
  case case3 =>
    unfold writeNext
    simp only
    split
    · exact ⟨h.plain (by simp), by simp⟩
    · exact ⟨h.plain (by simp [answer]), by simp [answer]⟩
  all_goals exact ⟨(keeps_refuse h _ _).1.placeReply data, by simp [refuseCommand]⟩

theorem Accounted.zeroizeCommand (h : Accounted [] s.device s) (data : List Byte) :
    Accounted [] (zeroizeCommand data s).device (zeroizeCommand data s) := by
  refine Accounted.zeroizeRequest ?_
  split
  · have hd : (Machine.placeReply data (answer .accepted 0 s)).device = s.device := by simp [answer]
    rw [hd]
    exact Accounted.placeReply (o := answer .accepted 0 s) h data
  · have hd : (Machine.leaveHead s).device = s.device := by simp
    rw [hd]
    exact h.plain (by simp)

/-! ## One command, and the step -/

theorem Accounted.scanOnce (h : Accounted [] dev s) (x : Scan) : Accounted [] dev (scanOnce x s) := h.plain (by simp)

/-- A lane takes up its key, or the key check fails (R134, R137). -/
theorem Accounted.keyTakeUp {l : Fin 4} (h : Accounted [] s.device s) (x : SlotUpset) (ht : execKeyTakeUp l x s = .next t) :
    Accounted [] t.device t := by
  cases hl : s.lane l with
  | keying f r =>
    have hslot : (s.lane l).slot? = some r := by rw [hl]; rfl
    by_cases hc : ((s.slot r).upset x).checkHolds r.assoc = true
    · simp only [execKeyTakeUp, hl, hc, if_true] at ht
      cases ht
      refine Accounted.ends (dev := s.device) ?_ (by simp) s
      refine (h.upset hslot x).relane ?_ ?_
      all_goals
        rw [lane_eq_of_lanes (s := s) (by simp), hl]
        rfl
    · have hf := exec_keyTakeUp_of_failure (u := x) hl (by simpa [KeySlot.checkHolds, KeySlot.upset] using hc)
      cases hf.symm.trans ht
      refine Accounted.ends (dev := s.device) (h.keyFailed hslot x) ?_ s
      exact (keyCheckFailure_frame r _).1
  | idle | passing | enciphering =>
    simp only [execKeyTakeUp, hl] at ht
    cases ht
    exact h

/-- Every command keeps frames and keys accounted for. -/
theorem Accounted.exec (he : ErasedOutsideWork s) (h : Accounted [] s.device s) (i : Instr) (ht : exec i s = .next t) :
    Accounted [] t.device t := by
  have hbare : s.device.working = false → Bare s := fun hw => bare_of_holdsNothing (he hw)
  cases i
  case deviceReset => exact accounted_deviceReset ht
  case keyTakeUp l x => exact h.keyTakeUp x ht
  all_goals
    simp only [Machine.exec] at ht
    cases ht
  case loadingStart straps =>
    split
    · rename_i hd
      have hb := hbare (by simp [hd, DeviceState.working])
      refine Bare.accounted ⟨hb.dormant, fun a j => ?_, hb.idle⟩ (h.housed.same ⟨rfl, rfl, rfl, rfl, rfl, rfl, rfl⟩) (by simp)
      simp [State.slots]
    · exact h
  case imageReadDone memory =>
    split
    · rename_i hd
      have hb : Bare (readImage memory s) := (hbare (by simp [hd, DeviceState.working])).congr rfl rfl rfl
      exact (hb.checkImage (h.housed.same ⟨rfl, rfl, rfl, rfl, rfl, rfl, rfl⟩)).ends rfl s
    · exact h
  case settleTimerExpiry =>
    split
    · rename_i hd
      rw [hd.1] at h
      exact h.settleEnds.ends (by simp [postSettled]) s
    · exact h
  case zeroizePinRequest =>
    split
    · exact h
    · exact h.zeroizeRequest.ends rfl s
  case zeroizeComplete =>
    split
    · rename_i hd
      have hb : Bare (zeroizeStep6 s) := (hbare (by simp [hd, DeviceState.working])).congr (by simp [zeroizeStep6])
        (by simp [zeroizeStep6]) (by simp [zeroizeStep6])
      refine (hb.accounted (dev := .zeroized) (h.housed.same (sameFrames_of ⟨?_, ?_, ?_, ?_, ?_⟩)) (by simp)).ends ?_ s
      all_goals simp [zeroizeStep6]
    · exact h
  case busAttemptStart bits =>
    split
    · exact (h.attempt _).ends (by simp) s
    · exact h
  case claim | beacon | advance | join =>
    unfold busMessage
    split
    · exact (h.messageCompletes _ _).ends (by simp) s
    · exact h
  case rackFrameReceived r =>
    split
    · refine Accounted.ends (dev := s.device) ?_ (by split <;> simp) s
      split
      · exact h.plain (by simp)
      · exact (h.receiveRack r).plain (by simp)
    · exact h
  case inboundFrameReceived r =>
    split
    · refine Accounted.ends (dev := s.device) ?_ (by split <;> simp) s
      split
      · exact h.plain (by simp)
      · exact h.plain (by simp)
    · exact h
  case rackPauseTimerExpiry | campusPauseTimerExpiry =>
    split
    · exact h
    · refine Accounted.ends (dev := s.device) ?_ ?_ s
      · exact h.plain ⟨rfl, rfl, rfl, rfl, rfl, rfl, rfl, rfl⟩
      · rfl
  case pauseRepeatTimerExpiry =>
    split
    · refine Accounted.ends (dev := s.device) ?_ ?_ s
      · exact h.moves (h.housed.same ⟨rfl, rfl, rfl, rfl, rfl, rfl, rfl⟩) rfl (fun _ => rfl) rfl rfl
      · rfl
    · exact h
  case statusFrameDue =>
    split
    · exact h.ends rfl s
    · exact h
  case rackTransmitDone =>
    split
    · exact (h.plain (by simp)).ends (by simp) s
    · exact h
  case dispatch =>
    split
    · rename_i hm
      split
      · rename_i c hc
        exact (h.dispatchCandidate hm hc).ends (by simp) s
      · exact h
    · exact h
  case parkTimeout frame =>
    split
    · rename_i e hx
      exact (h.timeoutEntry (List.mem_of_find?_eq_some hx)).ends (by simp) s
    · exact h
  case laneFinish l =>
    split
    · rename_i f r key hl
      exact (h.finishEncrypt hl).ends (by simp) s
    · exact h
  case clearPassDone l =>
    split
    · rename_i f hl
      exact (h.clearPass hl).ends (by simp) s
    · exact h
  case campusFrameSent =>
    split
    · rename_i f e rest hs hc
      exact (h.headSent hc (by rw [hs]; rfl)).ends (by simp) s
    · exact h
  case scanStep =>
    split
    · exact (h.scanOnce _).ends (by simp) s
    · exact h
  case commandFrameCheck =>
    split
    · refine Accounted.ends (dev := s.device) ?_ (by split <;> simp [admitCommand, dropUnauthentic]) s
      split
      · exact h.plain ⟨rfl, rfl, rfl, rfl, rfl, rfl, rfl, rfl⟩
      · have hb : Accounted [] s.device (bumpFrames .commandAuth s) := h.plain (by simp)
        exact hb.leaveHead
    · exact h
  case unknownCommand =>
    split
    · split
      · exact h
      · exact (keeps_refuse h _ _).ends _ s
    · exact h
  case installKey =>
    exact h.runCommand fun hx body =>
      keeps_onAssoc h (fun a hd => keeps_installRule h (working_of_executing he hx) hd body) body
  case writeSegments =>
    split
    · rename_i data _
      obtain ⟨hk, hd⟩ := h.writeSegmentsRule data
      exact hk.ends hd s
    · exact h
  case moveSegments => exact h.runCommand fun _ => keeps_moveSegmentsRule h
  case advanceEpoch => exact h.runCommand fun _ => keeps_onAssoc h fun a _ => keeps_advanceEpochRule h a
  case retireSa => exact h.runCommand fun _ => keeps_onAssoc h fun a hd => keeps_retireSaRule h hd
  case flushSa => exact h.runCommand fun _ => keeps_onAssoc h fun a _ => keeps_flushSaRule h a
  case quiesceQueue => exact h.runCommand fun _ => keeps_quiesceRule h
  case resumeQueue => exact h.runCommand fun _ => keeps_resumeRule h
  case readStatus => exact h.runCommand fun _ => keeps_readStatusRule h
  case zeroize =>
    split
    · rename_i data hx
      split
      · exact (h.zeroizeCommand data).ends rfl s
      · exact (keeps_refuse h _ _).ends data s
    · exact h

/-- Settles O60, command by command: the frames in hand during an event have left their place and come to another, and the slots
of the association an event reaches fit its new state. -/
theorem stepKeepsCountsAndPlaces : Obligations.StepKeepsCountsAndPlaces := by
  intro s t he hc hf hk ht
  have h : Accounted [] s.device s := ⟨housed_iff.2 ⟨hc.1, hf⟩, keysAccounted_iff.1 hk⟩
  have hnext : Accounted [] t.device t := by
    unfold step at ht
    split at ht
    · cases ht
      unfold tick
      split <;> exact h.plain ⟨rfl, rfl, rfl, rfl, rfl, rfl, rfl, rfl⟩
    · rename_i c rest _
      exact Accounted.exec (s := { s with pending := rest }) he (h.plain ⟨rfl, rfl, rfl, rfl, rfl, rfl, rfl, rfl⟩) c ht
  exact ⟨(housed_iff.1 hnext.housed).2, keysAccounted_iff.2 hnext.kept⟩

end Sys2Proof.Machine
end

section
/-! ADVANCE-EPOCH, and how a command with its reply ends (R63, R153, R158, R166). -/

namespace Sys2Proof.Machine

variable {s : State} {a : Fin 64}

/-! ## A command and its reply (R153, R158) -/

section
variable {code : Byte} {data : List Byte} {rest : List (List Byte)}

theorem runCommand_of_runs (h : s.runs code data rest) (f : List Byte → State → CommandOutcome) :
    runCommand code f s = finishEvent s (placeReply data (f (commandBody data) s)) := by
  obtain ⟨hst, hin, hcode, hfits⟩ := h
  have hx : s.executing? code = some data := executing?_eq_some.2 ⟨hst, by simp [hin], hcode⟩
  simp [runCommand, hx, hfits]

theorem onAssoc_of_defined {f : Fin 64 → State → CommandOutcome} {body : List Byte}
    (h : s.definedAssoc? (byteAt body 0) = some a) : onAssoc f body s = f a s := by
  simp [onAssoc, h]

theorem placeReply_eq_answered {o : CommandOutcome} (h : o.state.engine.input = data :: rest) :
    placeReply data o = o.state.answered data rest o.result o.value o.counters := by
  simp [placeReply, leaveHead, h, State.answered]

/-- A command of an association ends with its reply at the tail of the reply list. -/
theorem settled_onAssoc (f : Fin 64 → State → CommandOutcome) (h : s.runs code data rest)
    (ha : s.definedAssoc? (byteAt (commandBody data) 0) = some a)
    (hin : (f a s).state.engine.input = s.engine.input) :
    Settled ((f a s).state.answered data rest (f a s).result (f a s).value (f a s).counters)
      (runCommand code (onAssoc f) s) := by
  rw [runCommand_of_runs h, onAssoc_of_defined ha, placeReply_eq_answered (hin.trans h.2.1)]
  exact finishEvent_settled _ _

end

/-! ## ADVANCE-EPOCH (R63, R166) -/

theorem hasStandby_iff : s.hasStandby a = true ↔ ∃ j : Fin 4, (s.slots a)[j].role = .standby :=
  slotWithRole_isSome.trans roles_pos

/-- An advance asked with none pending, below the last epoch and with a STANDBY at hand, is QUEUED (R61). -/
theorem requestAdvance_queued (he : (s.assoc a).state.inEpoch = true) (hl : (s.assoc a).epochOrZero < 65535)
    (hp : (s.assoc a).pendingAdvance = none) (hs : s.hasStandby a = true) (x : AdvanceReason) :
    requestAdvance a x s = requestTx .advance a (s.modAssoc a (fun r => { r with
      pendingAdvance := some { target := (s.assoc a).epochOrZero + 1, reason := x, condition := .queued } })) := by
  simp [requestAdvance, he, hl.ne, hp, hs]

/-- An advance asked while one is pending merges into it (R61). -/
theorem requestAdvance_merged (hl : (s.assoc a).epochOrZero < 65535) (hp : (s.assoc a).pendingAdvance.isSome = true)
    (x : AdvanceReason) : requestAdvance a x s = s := by
  simp [requestAdvance, hl.ne, hp]

theorem advanceEpochRule_queued (hst : (s.assoc a).state = .live ∨ (s.assoc a).state = .blind) (hs : s.hasStandby a = true)
    (hl : (s.assoc a).epochOrZero < 65535) (hp : (s.assoc a).pendingAdvance = none) :
    advanceEpochRule a s = answer .accepted ((s.assoc a).epochOrZero + 1)
      (requestTx .advance a (s.modAssoc a (fun r => { r with
        pendingAdvance := some { target := (s.assoc a).epochOrZero + 1, reason := .command, condition := .queued } }))) := by
  have he : (s.assoc a).state.inEpoch = true := by
    rcases hst with h | h
    all_goals
      rw [h]
      rfl
  rw [advanceEpochRule, if_pos ⟨hst, hs⟩, requestAdvance_queued he hl hp hs]
  simp

/-- Settles O48: the three outcomes of the rule, each behind its reply. -/
theorem advanceEpochRequests : Obligations.AdvanceEpochRequests := by
  intro s data rest a hr ha taken
  have hset := settled_onAssoc advanceEpochRule hr ha (by unfold advanceEpochRule; split <;> simp [answer, refuseCommand])
  have htaken : taken ↔ ((s.assoc a).state = .live ∨ (s.assoc a).state = .blind) ∧ s.hasStandby a = true :=
    and_congr_right fun _ => hasStandby_iff.symm
  refine ⟨_, rfl, fun ht hl hp => ?_, fun p ht hl hp => ?_, fun ht => ?_⟩
  · have ht := htaken.1 ht
    rw [advanceEpochRule_queued ht.1 ht.2 hl hp] at hset
    have hbus := hset.bus
    refine ⟨?_, fun x => ?_⟩
    · rw [hbus]
      exact hset
    · rw [hbus]
      exact mem_requestTx
  · have ht := htaken.1 ht
    rw [advanceEpochRule, if_pos ht, requestAdvance_merged hl (by rw [hp]; rfl)] at hset
    simpa [answer, hp] using hset
  · rw [advanceEpochRule, if_neg fun h => ht (htaken.2 h)] at hset
    exact hset

end Sys2Proof.Machine
end

section
/-! LANE_FINISH (R53, R135, R140). -/

namespace Sys2Proof.Machine

variable {s : State}

theorem finishEncrypt_of_frame {f : Nat} {d : Descriptor} (hd : s.frame? f = some d) (l : Fin 4) (r : SlotRef)
    (key : BitVec 256) : finishEncrypt l f r key s =
      (releaseUse r (finishEntry f (d.cipherTag key (s.headerOf f)) (writeCipherText f d key s))).setLane l .idle := by
  unfold finishEncrypt
  rw [hd]

theorem finishEncrypt_frame? {f : Nat} {d : Descriptor} (h : tableSorted s.buf.pool) (hd : s.frame? f = some d) (l : Fin 4)
    (r : SlotRef) (key : BitVec 256) (x : Nat) : (finishEncrypt l f r key s).frame? x =
      if x = f then some { d with data := d.data.take 12 ++ d.cipherText key } else s.frame? x := by
  rw [finishEncrypt_of_frame hd]
  have hpool : ((releaseUse r (finishEntry f (d.cipherTag key (s.headerOf f)) (writeCipherText f d key s))).setLane
      l .idle).buf.pool = tablePut s.buf.pool f { d with data := d.data.take 12 ++ d.cipherText key } := by
    simp [finishEntry, writeCipherText]
  unfold State.frame?
  rw [hpool]
  exact tableGet_tablePut _ _ _ _ h

theorem finishEncrypt_slot {f : Nat} {d : Descriptor} (hd : s.frame? f = some d) (l : Fin 4) (r p : SlotRef)
    (key : BitVec 256) : (finishEncrypt l f r key s).slot p = if p = r then (s.slot r).released else s.slot p := by
  rw [finishEncrypt_of_frame hd]
  exact releaseUse_slot r p _

/-- Settles O40: the lane's finish seen part by part, the event's end leaving each as it is. -/
theorem laneFinishEnciphers : Obligations.LaneFinishEnciphers := by
  intro s l f r key d x e hl hd hx he hsorted nonce cipher used
  set u := finishEncrypt l f r key s with hu
  have hstep : exec (.laneFinish l) s = .next (finishEvent s u) := by
    change execLaneFinish l s = _
    simp only [execLaneFinish, hl]
    rfl
  have hset := finishEvent_settled s u
  have hfin := finishes_encrypt hsorted hd l r key
  rw [← hu] at hfin
  have hnonce : d.nonce = nonce := by simp [Descriptor.nonce, hx, frameNonce, nonce]
  have hcipher : d.cipherText key = cipher := by rw [Descriptor.cipherText, hnonce]
  have hheader : s.headerOf f = e.header := by simp [State.headerOf, he]
  have hframe : ∀ g, (finishEvent s u).frame? g = _ := fun g =>
    (frame?_eq_of_pool hset.pool g).trans (finishEncrypt_frame? hsorted hd l r key g)
  have hlane : ∀ m, (finishEvent s u).lane m = _ := fun m =>
    (lane_eq_of_lanes (congrArg Lanes.lanes hset.lanes) m).trans (hfin.lane m)
  have hslot : ∀ p, (finishEvent s u).slot p = _ := fun p =>
    (slot_eq_of_keys hset.keys p).trans (finishEncrypt_slot hd l r p key)
  obtain ⟨hassocs, hfree, hmap, hcount⟩ : u.assocs = s.assocs ∧ u.buf.freeCells = s.buf.freeCells ∧
      u.segMap = s.segMap ∧ u.counters = s.counters := by simp [hu]
  refine ⟨finishEvent s u, hstep, ?_, fun g hg => ?_, ?_, fun m hm => ?_, ?_, ?_, fun p hp => ?_, ?_, ?_, ?_, ?_, ?_⟩
  · rw [hframe, if_pos rfl, hcipher]
  · rw [hframe, if_neg hg]
  · rw [hlane, if_pos rfl]
  · rw [hlane, if_neg hm]
  · rw [hset.lanes, hfin.completion, Descriptor.cipherTag, hnonce, hheader, hcipher]
    rfl
  · rw [hslot, if_pos rfl]
    rfl
  · rw [hslot, if_neg hp]
  · exact hset.assocs.trans hassocs
  · exact hset.freeCells.trans hfree
  · rw [hset.lanes, hfin.inFlight]
  · exact hset.segMap.trans hmap
  · exact hset.counters.trans hcount

end Sys2Proof.Machine
end

section
/-! The key slots at an advance: the CURRENT key leaves service, a third RETIRING key is freed, a STANDBY is taken up
(R66, R67, R137). -/

namespace Sys2Proof.Machine

variable {s t u : State} {a : Fin 64}

/-! ## The CURRENT key leaves service, two RETIRING keys at most (R66) -/

/-- A slot once the CURRENT key has left service (R66). -/
def KeySlot.outOfService (k : KeySlot) : KeySlot :=
  if k.role = .current then if k.uses = 0 then KeySlot.wiped else { k with role := .retiring } else k

theorem outOfService_of_role {k : KeySlot} (h : k.role ≠ .current) : k.outOfService = k := if_neg h

theorem retireCurrent_slots_of_few (hc : roles (s.slots a) .current ≤ 1) (hr : roles (s.slots a) .retiring < 2) (m : Fin 4) :
    ((retireCurrent a s).slots a)[m] = (s.slots a)[m].outOfService := by
  cases hj : slotWithRole (s.slots a) .current with
  | none =>
    have h0 := slotWithRole_eq_none.1 hj
    rw [retireCurrent_of_none h0, outOfService_of_role (roles_eq_zero.1 h0 m)]
  | some j =>
    have hrole := slotWithRole_role hj
    have hself : (s.slots a)[j].outOfService =
        if (s.slots a)[j].uses = 0 then KeySlot.wiped else { (s.slots a)[j] with role := .retiring } := if_pos hrole
    have hother : m ≠ j → (s.slots a)[m].outOfService = (s.slots a)[m] := fun hm =>
      outOfService_of_role fun h => hm (role_unique hc h hrole)
    by_cases hu : (s.slots a)[j].uses = 0
    · rw [retireCurrent_of_unused hj hu, wipeSlot, setSlot_slots, slot_set_get]
      split
      · rename_i hm
        rw [hm, hself, if_pos hu]
      · rename_i hm
        rw [hother hm]
    · have hroom : s.roomForRetiring a = s := if_neg (by omega)
      rw [retireCurrent_of_used hj hu, hroom, setSlot_slots, slot_set_get]
      split
      · rename_i hm
        rw [hm, hself, if_neg hu]
      · rename_i hm
        rw [hother hm]

/-! ## A third RETIRING key (R67, R137) -/

/-- Two slots of a role that exactly two have are the only ones. -/
theorem role_pair {v : Vector KeySlot 4} {r : Role} (h : roles v r = 2) (hr : r ≠ .empty) {i j o : Fin 4} (hij : i ≠ j)
    (hi : v[i].role = r) (hj : v[j].role = r) (ho : v[o].role = r) : o = i ∨ o = j := by
  have hset := roles_set v i KeySlot.wiped r
  rw [if_pos hi, if_neg (show KeySlot.wiped.role ≠ r from hr.symm), h] at hset
  have hkeep : ∀ m : Fin 4, m ≠ i → v[m].role = r → (v.set i KeySlot.wiped)[m].role = r := fun m hm hv => by
    rw [slot_set_get, if_neg hm]
    exact hv
  by_cases hoi : o = i
  · exact .inl hoi
  · exact .inr (role_unique (v := v.set i KeySlot.wiped) (by omega) (hkeep o hoi ho) (hkeep j hij.symm hj))

/-- Two RETIRING keys, that of slot `i` of the lower epoch, and the only CURRENT one, in slot `k`, in use. -/
structure State.Third (s : State) (a : Fin 64) (i j k : Fin 4) : Prop where
  older : (s.slots a)[i].role = .retiring
  newer : (s.slots a)[j].role = .retiring
  below : (s.slots a)[i].epoch < (s.slots a)[j].epoch
  two : roles (s.slots a) .retiring = 2
  current : (s.slots a)[k].role = .current
  used : (s.slots a)[k].uses ≠ 0
  one : roles (s.slots a) .current ≤ 1

section
variable {i j k : Fin 4} (h : s.Third a i j k)
include h

theorem State.Third.ne : i ≠ j := fun he => by
  have := h.below
  rw [he] at this
  exact absurd this (Nat.lt_irrefl _)

theorem State.Third.congr (hk : t.keys = s.keys) : t.Third a i j k := by
  obtain ⟨h1, h2, h3, h4, h5, h6, h7⟩ := h
  constructor <;> rwa [slots_eq_of_keys hk a]

theorem State.Third.oldest : oldestRetiring (s.slots a) = some i := by
  obtain ⟨o, ho, hle⟩ := oldestRetiring_spec h.older
  rcases role_pair h.two (by simp) h.ne h.older h.newer (oldestRetiring_role ho) with rfl | rfl
  · exact ho
  · exact absurd h.below (Nat.not_lt.2 hle)

/-- The older RETIRING key is freed before the CURRENT one becomes RETIRING. -/
theorem State.Third.frees : Frees s (freeOldestRetiring a s) { assoc := a, index := i } := frees_freeOldestRetiring h.oldest

theorem State.Third.retireCurrent : retireCurrent a s = (freeOldestRetiring a s).setSlot { assoc := a, index := k }
    { (s.slots a)[k] with role := .retiring } := by
  have hk : slotWithRole (s.slots a) .current = some k := by
    cases hw : slotWithRole (s.slots a) .current with
    | none => exact absurd h.current (roles_eq_zero.1 (slotWithRole_eq_none.1 hw) k)
    | some m => rw [role_unique h.one (slotWithRole_role hw) h.current]
  rw [retireCurrent_of_used hk h.used, State.roomForRetiring, if_pos (by rw [h.two])]

theorem State.Third.slots (m : Fin 4) : ((Machine.retireCurrent a s).slots a)[m] =
    if m = k then { (s.slots a)[k] with role := .retiring } else if m = i then KeySlot.wiped else (s.slots a)[m] := by
  rw [h.retireCurrent, setSlot_slots, slot_set_get, h.frees.slots, slot_set_get]

/-- The frames of the freed key are abandoned, the others stay. -/
theorem State.Third.aborts : Aborts s (Machine.retireCurrent a s) (s.lanesOfSlot { assoc := a, index := i }) := by
  rw [h.retireCurrent]
  obtain ⟨h1, h2, h3, p, hp, hq⟩ := h.frees.aborts
  exact ⟨h1, h2, h3, p, hp.thenSame (by simp) (by simp) (by simp) (by simp), hq⟩

theorem State.Third.counted (hne : s.lanesOfSlot { assoc := a, index := i } ≠ []) :
    (Machine.retireCurrent a s).count a .retiredInFlight =
      satAdd48 (s.count a .retiredInFlight) (s.lanesOfSlot { assoc := a, index := i }).length := by
  rw [h.retireCurrent, count_setSlot]
  exact h.frees.counted hne

end

theorem framesIn_contains (s : State) (L : List (Fin 4)) (f : Nat) :
    (!(s.framesIn L).contains f) = L.all (fun l => (s.lane l).frame? != some f) := by
  rw [Bool.eq_iff_iff]
  simp [State.framesIn]

/-! ## A STANDBY taken up (R66) -/

/-- A slot once a STANDBY of the epoch has been taken up, or every STANDBY discarded where there is none (R66). -/
def KeySlot.takenUp (e : Nat) (k : KeySlot) : KeySlot :=
  if k.role = .standby then if k.epoch = e then { k with role := .current } else KeySlot.wiped else k

theorem takenUp_of_role {e : Nat} {k : KeySlot} (h : k.role ≠ .standby) : k.takenUp e = k := if_neg h

theorem takeUpStandby_slots (h : roles (s.slots a) .standby ≤ 1) (e : Nat) (m : Fin 4) :
    ((takeUpStandby a e s).slots a)[m] = (s.slots a)[m].takenUp e := by
  fun_cases takeUpStandby a e s
  case case1 j hj r =>
    obtain ⟨hrole, hep⟩ : (s.slots a)[j].role = .standby ∧ (s.slots a)[j].epoch = e := by simpa using findSlot_some hj
    rw [slots_eq_of_keys (s := s.setSlot { assoc := a, index := j }
      { s.slot { assoc := a, index := j } with role := .current }) (by simp [r]), setSlot_slots, slot_set_get]
    split
    · rename_i hm
      rw [hm, KeySlot.takenUp, if_pos hrole, if_pos hep]
      rfl
    · rename_i hm
      rw [takenUp_of_role fun hs => hm (role_unique h hs hrole)]
  case case2 hnone =>
    have hno := findSlot_eq_none.1 hnone m
    rw [slots_eq_of_keys (s := discardKeys a (fun k => k.role == .standby) s) (by simp), discardKeys_get, KeySlot.takenUp]
    by_cases hs : (s.slots a)[m].role = .standby
    · have hep : (s.slots a)[m].epoch ≠ e := fun he => by
        rw [Bool.and_eq_false_iff, beq_eq_false_iff_ne, beq_eq_false_iff_ne] at hno
        exact hno.elim (fun h => h hs) (fun h => h he)
      rw [if_pos (beq_iff_eq.2 hs), if_pos hs, if_neg hep]
    · rw [if_neg (mt beq_iff_eq.1 hs), if_neg hs]

/-! ## The keys of an association that enters an epoch -/

theorem count_takeUpStandby (e : Nat) (b : Fin 64) (k : AssocCount) : (takeUpStandby a e s).count b k = s.count b k := by
  unfold takeUpStandby
  split <;> simp

/-- The record set to the new epoch, with ADVANCED handed over: the state whose keys then change. -/
def State.announced (s : State) (a : Fin 64) (e : Nat) (x : AdvanceReason) (i : Nat) : State :=
  postNotice (newNotice .advanced (.reason x) a.val e i 1 false) (resetRecordForEpoch a e s)

theorem announced_frame (s : State) (a : Fin 64) (e : Nat) (x : AdvanceReason) (i : Nat) :
    (s.announced a e x i).keys = s.keys ∧ (s.announced a e x i).lanes = s.lanes ∧ (s.announced a e x i).buf = s.buf ∧
      (s.announced a e x i).count a .retiredInFlight = s.count a .retiredInFlight := by
  simp [State.announced, resetRecordForEpoch, discardReservation]

/-- Keys, lanes, frames and abandoned frames at the entry into an epoch are those of the CURRENT key leaving service and of the
STANDBY taken up. -/
theorem enterEpoch_keys (a : Fin 64) (e : Nat) (x : AdvanceReason) (i : Nat) (s : State) :
    (enterEpoch a e x i s).keys = (takeUpStandby a e (retireCurrent a (s.announced a e x i))).keys ∧
      (enterEpoch a e x i s).lanes = (retireCurrent a (s.announced a e x i)).lanes ∧
      (enterEpoch a e x i s).buf = (retireCurrent a (s.announced a e x i)).buf ∧
      (enterEpoch a e x i s).count a .retiredInFlight = (retireCurrent a (s.announced a e x i)).count a .retiredInFlight := by
  simp [enterEpoch, State.announced, count_takeUpStandby]

/-- The keys of `a`, the lanes and the frames as an entry into epoch `e` leaves them; `v` is the state before the keys change. -/
structure EntryKeys (v t : State) (a : Fin 64) (e : Nat) : Prop where
  slots : ∀ j : Fin 4, (t.slots a)[j] = ((retireCurrent a v).slots a)[j].takenUp e
  lanes : t.lanes = (retireCurrent a v).lanes
  frames : ∀ h, t.frame? h = (retireCurrent a v).frame? h
  counted : t.count a .retiredInFlight = (retireCurrent a v).count a .retiredInFlight

theorem entryKeys_enterEpoch (h : roles (s.slots a) .standby ≤ 1) (e : Nat) (x : AdvanceReason) (i : Nat) (before : State) :
    EntryKeys (s.announced a e x i) (finishEvent before (enterEpoch a e x i s)) a e := by
  obtain ⟨hkeys, hlanes, hbuf, hcount⟩ := enterEpoch_keys a e x i s
  obtain ⟨vkeys, -⟩ := announced_frame s a e x i
  have hset := finishEvent_settled before (enterEpoch a e x i s)
  have hstandby : roles ((retireCurrent a (s.announced a e x i)).slots a) .standby ≤ 1 := by
    refine (roles_le fun j hj => ?_).trans h
    have hr : ((retireCurrent a (s.announced a e x i)).slots a)[j] = ((s.announced a e x i).slots a)[j] :=
      retireCurrent_slot_of_standby (r := { assoc := a, index := j }) hj
    rw [hr, slots_eq_of_keys vkeys] at hj
    exact hj
  refine ⟨fun j => ?_, hset.lanes.trans hlanes, frame?_eq_of_pool (hset.pool.trans (by rw [hbuf])), ?_⟩
  · rw [slots_eq_of_keys (hset.keys.trans hkeys), takeUpStandby_slots hstandby]
  · rw [count_eq_of_counters (congrArg Counters.assoc hset.counters), hcount]

/-- An ADVANCE of a higher epoch, heard or delivered, enters it when no claim was pending. -/
theorem advance_enters {m : BusMessage} {e : BusEnding} {epoch : BitVec 16} {code : BitVec 3}
    (hm : m.content = .advance epoch code) (hh : s.hears m e ∨ s.delivers m false e)
    (hd : (s.assocDef m.target).defined = true) (hs : (s.assoc m.target).state.inEpoch = true)
    (he : (s.assoc m.target).epochOrZero < epoch.toNat) (hp : (s.assoc m.target).pendingClaim = false) :
    ∃ u, Arrived s u ∧ busMessage m e s =
      finishEvent s (enterEpoch m.target epoch.toNat (AdvanceReason.ofBusCode code) m.sender.toNat u) := by
  have hv : m.content.valid = true := by
    have : epoch ≠ 0 := fun h0 => by simp [h0] at he
    simpa [hm, MsgContent.valid] using this
  obtain ⟨own, u, hu, hrun, -, -⟩ := arrives (hh.imp_right fun h => ⟨by simp [hm, MsgContent.kind], h⟩)
  have hc := hu.cancel own m
  have hrec := assoc_eq_of_assocs hc.assocs m.target
  refine ⟨_, hc, ?_⟩
  rw [hrun, applyMessage_advance hm (by rwa [assocDef_eq_of_image hu.image]) hv, advanceDelivered,
    if_neg (by simp [hrec, not_listening_of_inEpoch hs]), advanceReaches_of_above (by rwa [hrec]) (by rwa [hrec]),
    applyAdvance_of_ready (.inl (by rwa [hrec])), hrec, hp]
  rfl

theorem outOfService_takenUp (k : KeySlot) (e : Nat) : k.outOfService.takenUp e =
    match k.role with
    | .current => if k.uses = 0 then KeySlot.wiped else { k with role := .retiring }
    | .standby => if k.epoch = e then { k with role := .current } else KeySlot.wiped
    | _ => k := by
  unfold KeySlot.outOfService KeySlot.takenUp
  cases hr : k.role <;> simp [hr]
  split <;> simp [KeySlot.wiped]

/-- Settles O18: the message enters the epoch, and the slots are those of the CURRENT key leaving service, the older RETIRING one
freed before it where there are two, and of the STANDBY taken up. -/
theorem advanceMovesKeys : Obligations.AdvanceMovesKeys := by
  intro s assoc sender epoch reason e m a hh hd hs he hp hcur hstand
  obtain ⟨u, hu, hrun⟩ := advance_enters (m := m) rfl hh hd hs he hp
  have hslots : u.slots a = s.slots a := slots_eq_of_keys hu.keys a
  have hk := entryKeys_enterEpoch (a := a) (by rw [hslots]; exact hstand) epoch.toNat (AdvanceReason.ofBusCode reason)
    sender.toNat s
  obtain ⟨vkeys, vlanes, -, vcount⟩ := announced_frame u a epoch.toNat (AdvanceReason.ofBusCode reason) sender.toNat
  have hexec : exec (.advance assoc sender epoch reason e) s = .next (busMessage m e s) := rfl
  have hvslots := (slots_eq_of_keys vkeys a).trans hslots
  rw [hrun] at hexec
  generalize finishEvent s _ = t at hk hexec
  generalize u.announced a epoch.toNat _ _ = v at hk vkeys vlanes vcount hvslots
  obtain ⟨hget, hlanes, hframes, hcounted⟩ := hk
  refine ⟨fun hfew => ⟨t, hexec, fun j => ?_⟩, ?_⟩
  · rw [hget, retireCurrent_slots_of_few (by rwa [hvslots]) (by rwa [hvslots]), hvslots]
    exact outOfService_takenUp _ _
  · intro i j k hi hj hlt htwo hk hused gone
    have h3 : v.Third a i j k := State.Third.congr (s := s) ⟨hi, hj, hlt, htwo, hk, hused, hcur⟩ (vkeys.trans hu.keys)
    have hlane : ∀ l, v.lane l = s.lane l := lane_eq_of_lanes (by rw [vlanes, hu.lanes])
    have hgone : v.lanesOfSlot { assoc := a, index := i } = gone :=
      lanesOfSlot_of_lanes (s := s) (by rw [vlanes, hu.lanes]) _
    have hin : v.framesIn gone = s.framesIn gone := by simp only [State.framesIn, hlane]
    have hab := h3.aborts
    rw [hgone] at hab
    have hki : k ≠ i := fun h => by rw [h, hi] at hk; cases hk
    have hkj : k ≠ j := fun h => by rw [h, hj] at hk; cases hk
    refine ⟨t, hexec, ?_, ?_, ?_, fun l => ?_, ?_, fun l hl h hf => ?_, fun hne => ?_⟩
    · rw [hget, h3.slots, if_neg hki.symm, if_pos rfl]
      exact takenUp_of_role (by simp [KeySlot.wiped])
    · rw [hget, h3.slots, if_neg hkj.symm, if_neg h3.ne.symm, hvslots]
      exact takenUp_of_role (hj.trans_ne (by simp))
    · rw [hget, h3.slots, if_pos rfl, hvslots]
      exact takenUp_of_role (by simp)
    · rw [lane_eq_of_lanes (congrArg Lanes.lanes hlanes), hab.lane, hlane]
    · rw [hlanes, hab.completion, hin, vlanes, hu.lanes]
      exact List.filter_congr fun y _ => framesIn_contains s gone y.frame
    · rw [hframes, hab.frames, hin, if_pos]
      exact List.mem_filterMap.2 ⟨l, hl, hf⟩
    · have := hcounted.trans (h3.counted (by rw [hgone]; exact hne))
      rw [vcount, count_eq_of_counters hu.counts, hgone] at this
      exact this

end Sys2Proof.Machine
end

section
/-! INSTALL-KEY, and its decision while the device is SETTLING (R52, R57, R162, R163). -/

namespace Sys2Proof.Machine

variable {s t u : State} {a : Fin 64} {data : List Byte} {rest : List (List Byte)}

/-! ## How an install ends (R162, R163) -/

/-- The reply of an install, at the tail of the reply list (R158, R163). -/
def State.installReply (s : State) (data : List Byte) (result : CommandResult) (value : Nat) : List Reply :=
  s.status.replies ++ [{ tag := commandTag data, code := 0x01, result := result, value := value, counters := [] }]

/-- `t` is the end of an install that the epoch controller decided as `o`. -/
structure InstallEnds (s t : State) (data : List Byte) (rest : List (List Byte)) (a : Fin 64) (o : InstallOutcome) : Prop where
  assocs : t.assocs = o.state.assocs
  keys : t.keys = o.state.keys
  segMap : t.segMap = s.segMap
  pool : t.buf.pool = o.state.buf.pool
  lanes : t.lanes = o.state.lanes
  bus : t.bus = o.state.bus
  engine : t.engine = { s.engine with
    input := rest, state := if rest = [] then .idle else .checking, unwrapStore := 0 }
  done : o.result = .done → t.status.replies =
    s.installReply data .done (o.role.code + 256 * (o.state.assoc a).state.code s.freeIndex)
  refused : o.result ≠ .done → t.status.replies = s.installReply data o.result (s.assoc a).reportedEpoch
  notified : ∀ l, Posts s o.state l → Notified s t a.val (namedIn l s.time a.val)
  releases : ∀ new frees, o.state.disp.marks = s.disp.marks ++ new →
    (∀ b c, frees b c = true ↔ ∃ m ∈ new, b = m.assoc ∧ c = m.cls) → Releases s t frees

/-- The install a command frame asks for. -/
def State.installOf (s : State) (data : List Byte) : Install := unwrapInstall s.engine.wrapKey (commandBody data)

/-- The decision on an install, with the unwrapped key in its store. -/
def State.installDecision (s : State) (a : Fin 64) (i : Install) : InstallOutcome := decideInstall a i (setUnwrapStore i.key s)

section
variable (a) (i : Install)

theorem installDecision_frame : (s.installDecision a i).state.segMap = s.segMap ∧
    (s.installDecision a i).state.disp.park = s.disp.park ∧ (s.installDecision a i).state.rack = s.rack ∧
    (s.installDecision a i).state.engine = (setUnwrapStore i.key s).engine ∧
    (s.installDecision a i).state.status.replies = s.status.replies ∧
    (s.installDecision a i).state.freeIndex = s.freeIndex := by
  simp [State.installDecision]

/-- The state an install leaves, its reply placed; `n` free values have been drawn. -/
def State.installed (s : State) (a : Fin 64) (i : Install) (n : Nat) (data : List Byte) (rest : List (List Byte))
    (result : CommandResult) (value : Nat) : State :=
  State.answered { setUnwrapStore 0 (s.installDecision a i).state with freeIndex := n } data rest result value []

theorem installEnds_installed (hcode : commandCode data = 0x01) {n v : Nat} {r : CommandResult}
    (hdone : (s.installDecision a i).result = .done → r = .done ∧ v = (s.installDecision a i).role.code +
      256 * ((s.installDecision a i).state.assoc a).state.code s.freeIndex)
    (hrefused : (s.installDecision a i).result ≠ .done →
      r = (s.installDecision a i).result ∧ v = (s.assoc a).reportedEpoch) (before : State) :
    InstallEnds s (finishEvent before (s.installed a i n data rest r v)) data rest a (s.installDecision a i) := by
  obtain ⟨hmap, hpark, hrack, hengine, hrep, -⟩ := installDecision_frame (s := s) a i
  have hset := finishEvent_settled before (s.installed a i n data rest r v)
  have hreplies : (finishEvent before (s.installed a i n data rest r v)).status.replies = s.installReply data r v := by
    rw [hset.replies]
    change (s.installDecision a i).state.status.replies ++ [_] = _
    rw [hrep, hcode]
    rfl
  refine ⟨hset.assocs, hset.keys, hset.segMap.trans hmap, hset.pool, hset.lanes, hset.bus, ?_, fun h => ?_, fun h => ?_,
    fun l hl => ?_, fun new frees hm hf => ?_⟩
  · rw [hset.engine]
    change { (s.installDecision a i).state.engine with
      input := rest, state := if rest = [] then EngineState.idle else .checking, unwrapStore := 0 } = _
    rw [hengine]
    rfl
  · rw [hreplies, (hdone h).1, (hdone h).2]
  · rw [hreplies, (hrefused h).1, (hrefused h).2]
  · refine notified_of_posts (u := s.installed a i n data rest r v) ?_ hset ?_ _
    · exact hl.same ⟨rfl, rfl, rfl, rfl, rfl⟩
    · exact congrArg RackTransmitter.sending hrack
  · exact releases_of_settled hset new frees hpark hm hf

end

theorem installRule_eq (data : List Byte) (a : Fin 64) (s : State) : installRule (commandBody data) a s =
    if (s.installOf data).epoch = 0 ∨ (s.installOf data).limit = 0 then refuseCommand .refusedRange 0 s
    else installDecided a (s.installOf data) s := rfl

theorem installDecided_eq (a : Fin 64) (i : Install) (s : State) : installDecided a i s =
    if (s.installDecision a i).result = .done then
      answer .done (installValue a (s.installDecision a i).role (setUnwrapStore 0 (s.installDecision a i).state))
        (if ((s.installDecision a i).state.assoc a).state = .retired then
          drawFree (setUnwrapStore 0 (s.installDecision a i).state) else setUnwrapStore 0 (s.installDecision a i).state)
    else refuseCommand (s.installDecision a i).result (s.assoc a).reportedEpoch
      (setUnwrapStore 0 (s.installDecision a i).state) := rfl

theorem installEnds_installDecided (hin : s.engine.input = data :: rest) (hcode : commandCode data = 0x01) (a : Fin 64)
    (i : Install) (before : State) :
    InstallEnds s (finishEvent before (placeReply data (installDecided a i s))) data rest a (s.installDecision a i) := by
  obtain ⟨-, -, -, hengine, -, hfree⟩ := installDecision_frame (s := s) a i
  have hinput : (s.installDecision a i).state.engine.input = data :: rest := by
    rw [hengine]
    exact hin
  have hval : installValue a (s.installDecision a i).role (setUnwrapStore 0 (s.installDecision a i).state) =
      (s.installDecision a i).role.code + 256 * ((s.installDecision a i).state.assoc a).state.code s.freeIndex := by
    rw [← hfree]
    rfl
  rw [installDecided_eq]
  split
  · rename_i hdone
    split
    · rw [placeReply_eq_answered (rest := rest) (by exact hinput)]
      exact installEnds_installed a i hcode (fun _ => ⟨rfl, hval⟩) (absurd hdone) before
    · rw [placeReply_eq_answered (rest := rest) (by exact hinput)]
      exact installEnds_installed a i hcode (fun _ => ⟨rfl, hval⟩) (absurd hdone) before
  · rename_i hne
    rw [placeReply_eq_answered (rest := rest) (by exact hinput)]
    exact installEnds_installed a i hcode (fun hd => absurd hd hne) (fun _ => ⟨rfl, rfl⟩) before

section
variable (hr : s.runs 0x01 data rest) (ha : s.definedAssoc? (byteAt (commandBody data) 0) = some a)
include hr ha

theorem exec_installKey : exec .installKey s =
    .next (finishEvent s (placeReply data (installRule (commandBody data) a s))) := by
  change Host.Outcome.next (runCommand 0x01 (fun body s => onAssoc (installRule body) body s) s) = _
  rw [runCommand_of_runs hr, onAssoc_of_defined ha]

/-- An epoch or a limit of 0 is refused (R162). -/
theorem install_outOfRange (hz : (s.installOf data).epoch = 0 ∨ (s.installOf data).limit = 0) :
    ∃ t, exec .installKey s = .next t ∧ Settled (s.answered data rest .refusedRange 0 []) t := by
  refine ⟨_, exec_installKey hr ha, ?_⟩
  rw [installRule_eq, if_pos hz, placeReply_eq_answered (o := refuseCommand .refusedRange 0 s) hr.2.1]
  exact finishEvent_settled _ _

/-- Any other install ends as the epoch controller decides (R163). -/
theorem install_ends (he : (s.installOf data).epoch ≠ 0) (hl : (s.installOf data).limit ≠ 0) :
    ∃ t, exec .installKey s = .next t ∧ InstallEnds s t data rest a (s.installDecision a (s.installOf data)) := by
  refine ⟨_, exec_installKey hr ha, ?_⟩
  rw [installRule_eq, if_neg (by rintro (h | h) <;> [exact he h; exact hl h])]
  exact installEnds_installDecided hr.2.1 hr.2.2.1 a _ s

end

/-! ## A refused install (R163) -/

theorem InstallEnds.of_refused {r : CommandResult} {k : BitVec 256}
    (h : InstallEnds s t data rest a (refuseInstall r (setUnwrapStore k s))) (hr : r ≠ .done) :
    (t.assocs = s.assocs ∧ t.keys = s.keys ∧ Releases s t (fun _ _ => false)) ∧
      t.status.replies = s.installReply data r (s.assoc a).reportedEpoch :=
  ⟨⟨h.assocs, h.keys, h.releases [] _ (by simp [refuseInstall, setUnwrapStore]) (by simp)⟩, h.refused hr⟩

/-! ## A key written (R52, R57 to R59) -/

/-- The notice of a key discarded, as queued. -/
theorem namedIn_keyNotice (s : State) (kind : NoticeKind) (detail : NoticeDetail) (a : Fin 64) (e : Nat)
    (hk : kind ≠ .exception) :
    namedIn [newNotice kind detail a.val e 0 1 false] s.time a.val = [s.keyNotice kind detail a e] := by
  simp [namedIn, newNotice, State.keyNotice, hk]

/-- A key is discarded from its slot, and another written there. -/
def State.replaceKey (s : State) (r : SlotRef) (k : KeySlot) : State := (discardKey r s).setSlot r k

theorem replaceKey_slot (s : State) (r p : SlotRef) (k : KeySlot) :
    (s.replaceKey r k).slot p = if p = r then k else s.slot p := by
  rw [State.replaceKey, setSlot_slot, discardKey_slot]
  split <;> rfl

theorem replaceKey_assoc (s : State) (r : SlotRef) (k : KeySlot) (b : Fin 64) : (s.replaceKey r k).assoc b = s.assoc b :=
  assoc_eq_of_assocs (by simp [State.replaceKey]) b

theorem posts_replaceKey (s : State) (r : SlotRef) (k : KeySlot) :
    Posts s (s.replaceKey r k) [newNotice .keyDiscarded .none r.assoc.val (s.slot r).epoch 0 1 false] :=
  (posts_discardKey r s).same ⟨rfl, rfl, rfl, rfl, rfl⟩

theorem writeEmptySlot_of_slot {j : Fin 4} (h : slotWithRole (s.slots a) .empty = some j) (r : Role) (i : Install) :
    writeEmptySlot a r i s = s.setSlot { assoc := a, index := j } (i.slotFor a r) := by
  unfold writeEmptySlot
  rw [h]

/-! ## The decision while SETTLING (R57) -/

theorem installSettling_calm (a : Fin 64) (i : Install) (s : State) :
    (installSettling a i s).state.assocs = s.assocs ∧ (installSettling a i s).state.buf = s.buf ∧
      (installSettling a i s).state.lanes = s.lanes := by
  simp

section
variable (hd : s.device = .settling) {i : Install}
include hd

theorem installDecision_of_settling : s.installDecision a i = installSettling a i (setUnwrapStore i.key s) := if_pos hd

theorem installDecision_settling_retired (h : (s.assoc a).state = .retired) :
    s.installDecision a i = refuseInstall .refusedState (setUnwrapStore i.key s) :=
  (installDecision_of_settling hd).trans (if_pos h)

theorem installDecision_settling_same (h : (s.assoc a).state = .settling) {j : Fin 4}
    (hj : findSlot (s.slots a) (fun k => k.role == .pending && k.epoch == i.epoch) = some j) :
    s.installDecision a i = if i.unwrapOk = true then
      InstallOutcome.mk ((setUnwrapStore i.key s).replaceKey { assoc := a, index := j } (i.slotFor a .pending)) .done .pending
    else refuseInstall .refusedWrap (setUnwrapStore i.key s) := by
  have hj : findSlot ((setUnwrapStore i.key s).slots a) (fun k => k.role == .pending && k.epoch == i.epoch) = some j := hj
  have hne : ((setUnwrapStore i.key s).assoc a).state ≠ .retired := h.trans_ne (by simp)
  rw [installDecision_of_settling hd, installSettling, if_neg hne, hj]
  rfl

theorem installDecision_settling_new (h : (s.assoc a).state = .settling)
    (hn : findSlot (s.slots a) (fun k => k.role == .pending && k.epoch == i.epoch) = none) :
    s.installDecision a i = if 2 ≤ roles (s.slots a) .pending then refuseInstall .refusedNoSlot (setUnwrapStore i.key s)
      else if i.unwrapOk = true then InstallOutcome.mk (writeEmptySlot a .pending i (setUnwrapStore i.key s)) .done .pending
      else refuseInstall .refusedWrap (setUnwrapStore i.key s) := by
  have hn : findSlot ((setUnwrapStore i.key s).slots a) (fun k => k.role == .pending && k.epoch == i.epoch) = none := hn
  have hne : ((setUnwrapStore i.key s).assoc a).state ≠ .retired := h.trans_ne (by simp)
  rw [installDecision_of_settling hd, installSettling, if_neg hne, hn]
  rfl

end

/-- A key written by an install ends it with DONE and the key's role (R163). -/
theorem InstallEnds.of_written {p : SlotRef} {o : InstallOutcome} (h : InstallEnds s t data rest a o) (hdone : o.result = .done)
    {k : KeySlot} (hk : ∀ q, o.state.slot q = if q = p then k else s.slot q) {st : AssocState}
    (hst : (o.state.assoc a).state = st) {n : Nat} (hn : o.role.code + 256 * st.code s.freeIndex = n) :
    t.slot p = k ∧ (∀ q, q ≠ p → t.slot q = s.slot q) ∧ t.status.replies = s.installReply data .done n := by
  refine ⟨?_, fun q hq => ?_, by rw [h.done hdone, hst, hn]⟩
  · rw [slot_eq_of_keys h.keys, hk, if_pos rfl]
  · rw [slot_eq_of_keys h.keys, hk, if_neg hq]

/-- Settles O44: the decision of the epoch controller case by case, each behind its reply. -/
theorem installWhileSettling : Obligations.InstallWhileSettling := by
  refine ⟨?_, fun s data rest a hr ha hz => install_outOfRange hr ha hz⟩
  intro s data rest a hr ha hd hst i he hl key view reply
  obtain ⟨t, hexec, h⟩ := install_ends hr ha he hl
  change InstallEnds s t data rest a (s.installDecision a i) at h
  obtain ⟨hassocs, hbuf, hlanes⟩ := installSettling_calm a i (setUnwrapStore i.key s)
  rw [← installDecision_of_settling hd] at hassocs hbuf hlanes
  refine ⟨t, hexec, h.assocs.trans hassocs, h.segMap, h.pool.trans (congrArg Buffers.pool hbuf), h.lanes.trans hlanes, h.engine,
    fun hret => ?_, fun j hset hj => ⟨fun hok => ?_, fun hbad => ?_⟩, fun hset hn => ⟨fun htwo => ?_, fun hroom hok j hj => ?_,
    fun hroom hbad => ?_⟩⟩
  · rw [installDecision_settling_retired hd hret] at h
    obtain ⟨⟨-, hk, -⟩, hreply⟩ := h.of_refused (by simp)
    exact ⟨hk, hreply⟩
  · rw [installDecision_settling_same hd hset hj, if_pos hok] at h
    obtain ⟨hrole, hep⟩ : (s.slots a)[j].role = .pending ∧ (s.slots a)[j].epoch = i.epoch := by simpa using findSlot_some hj
    obtain ⟨h1, h2, h3⟩ := h.of_written rfl (replaceKey_slot (setUnwrapStore i.key s) _ · _)
      ((congrArg Assoc.state (replaceKey_assoc _ _ _ a)).trans hset) rfl
    refine ⟨h1, h2, h3, ?_⟩
    have hposts : Posts s (setUnwrapStore i.key s) [] := posts_nil rfl rfl rfl rfl
    have hnot := h.notified _ (hposts.trans (posts_replaceKey (setUnwrapStore i.key s) _ _))
    rw [List.nil_append, namedIn_keyNotice _ _ _ _ _ (by simp)] at hnot
    rw [← hep]
    exact hnot
  · rw [installDecision_settling_same hd hset hj, if_neg (by simp [hbad])] at h
    obtain ⟨⟨-, hk, -⟩, hreply⟩ := h.of_refused (by simp)
    exact ⟨hk, hreply⟩
  · rw [installDecision_settling_new hd hset hn, if_pos (show 2 ≤ roles (s.slots a) .pending from htwo)] at h
    obtain ⟨⟨-, hk, -⟩, hreply⟩ := h.of_refused (by simp)
    exact ⟨hk, hreply⟩
  · rw [installDecision_settling_new hd hset hn, if_neg (show ¬ 2 ≤ roles (s.slots a) .pending from Nat.not_le.2 hroom), if_pos hok,
      writeEmptySlot_of_slot (s := setUnwrapStore i.key s) hj] at h
    obtain ⟨h1, h2, h3⟩ := h.of_written rfl (setSlot_slot (setUnwrapStore i.key s) _ · _) hset rfl
    refine ⟨h1, h2, h3, ?_⟩
    exact h.notified [] (posts_nil rfl rfl rfl rfl)
  · rw [installDecision_settling_new hd hset hn, if_neg (show ¬ 2 ≤ roles (s.slots a) .pending from Nat.not_le.2 hroom), if_neg (by simp [hbad])] at h
    obtain ⟨⟨-, hk, -⟩, hreply⟩ := h.of_refused (by simp)
    exact ⟨hk, hreply⟩

end Sys2Proof.Machine
end

section
/-! What a retirement does to the keys of an association, and what it reports (R67, R70, R175). -/

namespace Sys2Proof.Machine

variable {s t u : State} {a : Fin 64}

/-! ## The keys discarded (R70, R175) -/

/-- A key that waits stays as it is while the CURRENT key leaves service. -/
theorem retireCurrent_slot_of_waits {r : SlotRef} (h : ((retireCurrent a s).slot r).waits = true) :
    (retireCurrent a s).slot r = s.slot r := by
  rcases retireCurrent_slot a s r with heq | ⟨-, -, hw | hr⟩
  · exact heq
  · rw [hw] at h
    cases h
  · rw [KeySlot.waits, hr] at h
    cases h

theorem retireCurrent_discardsIn (a : Fin 64) (s : State) :
    (retireCurrent a s).discardsIn a KeySlot.waits (List.finRange 4) = s.discardsIn a KeySlot.waits (List.finRange 4) := by
  refine List.filterMap_congr fun j _ => ?_
  have htest : ((retireCurrent a s).slots a)[j].waits = (s.slots a)[j].waits :=
    retireCurrent_test (fun k hk => KeySlot.waits_iff.1 hk) a s { assoc := a, index := j }
  by_cases hw : ((retireCurrent a s).slots a)[j].waits = true
  · have heq : ((retireCurrent a s).slots a)[j] = (s.slots a)[j] :=
      retireCurrent_slot_of_waits (r := { assoc := a, index := j }) hw
    rw [heq]
  · rw [if_neg hw, if_neg (htest ▸ hw)]

theorem posts_postAllMarks (a : Fin 64) (s : State) : Posts s (postAllMarks a s) [] :=
  posts_of_status (by simp) (by simp) (by simp) (by simp)

/-- The state in which the record is RETIRED and the keys are gone from service. -/
def State.keysRetired (s : State) (a : Fin 64) : State := discardKeys a KeySlot.waits (retireCurrent a (retireRecord a s))

theorem retire_eq (a : Fin 64) (e : Bool) (s : State) :
    retire a e s = postAllMarks a (if e then postEpochEnd a (s.keysRetired a) else s.keysRetired a) := rfl

/-- The keys that waited are reported, and nothing else of the association. -/
theorem posts_keysRetired (a : Fin 64) (s : State) : ∃ l, Posts s (s.keysRetired a) l ∧ NoExceptions l ∧
    namedIn l s.time a.val = s.discardNotices a KeySlot.waits := by
  have hkeys : (retireRecord a s).keys = s.keys := by simp
  have hr : Posts s (retireRecord a s) [] := posts_of_status (by simp) (by simp) (by simp) (retireRecord_frames a s)
  obtain ⟨q, hq, ho⟩ := posts_retireCurrent a (retireRecord a s)
  have hdis : (retireCurrent a (retireRecord a s)).discardsIn a KeySlot.waits (List.finRange 4) =
      s.discardsIn a KeySlot.waits (List.finRange 4) :=
    (retireCurrent_discardsIn a _).trans (discardsIn_congr _ fun j _ => by rw [slots_eq_of_keys hkeys])
  have hd := posts_discardKeys a KeySlot.waits (retireCurrent a (retireRecord a s))
  rw [hdis] at hd
  refine ⟨_, (hr.trans hq).trans hd, ?_, ?_⟩
  · exact NoExceptions.append (fun n hn => (ho n (by simpa using hn)).ofPart.1) fun n hn => by simp [discardsIn_kind hn]
  · rw [List.nil_append, namedIn_append, namedIn_ofPart (fun n hn => (ho n hn).ofPart), namedIn_discardsIn, List.nil_append]

/-- What a retirement reports of its association: KEY-DISCARDED for each key that waited, and ADVANCED at the end of the epochs. -/
theorem retire_named (a : Fin 64) (e : Bool) (s : State) : ∃ l, Posts s (retire a e s) l ∧ NoExceptions l ∧
    namedIn l s.time a.val = s.discardNotices a KeySlot.waits ++
      if e then [s.advancedNotice .epochEnd a 65535 s.station.toNat true] else [] := by
  obtain ⟨l, hl, hno, hnamed⟩ := posts_keysRetired a s
  rw [retire_eq]
  cases e with
  | false =>
    simp only [Bool.false_eq_true, if_false]
    refine ⟨_, hl.trans (posts_postAllMarks a _), hno.append (by simp [NoExceptions]), ?_⟩
    rw [List.append_nil, hnamed]
    simp
  | true =>
    have hstation : (s.keysRetired a).station = s.station := by simp [State.keysRetired]
    have he := posts_postEpochEnd a (s.keysRetired a)
    rw [hstation] at he
    simp only [if_true]
    refine ⟨_, (hl.trans he).trans (posts_postAllMarks a _),
      (hno.append (by simp [NoExceptions, newNotice])).append (by simp [NoExceptions]), ?_⟩
    rw [List.append_nil, namedIn_append, hnamed]
    simp [namedIn, newNotice, State.advancedNotice]

/-! ## The slots left (R70) -/

theorem retire_slots (a : Fin 64) (e : Bool) (s : State) (m : Fin 4) : ((retire a e s).slots a)[m] =
    if (s.slots a)[m].waits = true then KeySlot.wiped else ((retireCurrent a (retireRecord a s)).slots a)[m] := by
  have hkeys : (retireRecord a s).keys = s.keys := by simp
  have htest : ((retireCurrent a (retireRecord a s)).slots a)[m].waits = (s.slots a)[m].waits := by
    have := retireCurrent_test (p := KeySlot.waits) (fun k hk => KeySlot.waits_iff.1 hk) a (retireRecord a s)
      { assoc := a, index := m }
    rw [slot_eq_of_keys hkeys] at this
    exact this
  rw [slots_eq_of_keys (retire_keys a e s)]
  refine (discardKeys_get a KeySlot.waits _ m).trans ?_
  rw [htest]

/-- With two RETIRING keys at most, each slot after a retirement follows from what it was. -/
theorem retire_slots_of_few (hc : roles (s.slots a) .current ≤ 1) (hr : roles (s.slots a) .retiring < 2) (e : Bool)
    (m : Fin 4) : ((retire a e s).slots a)[m] =
      if (s.slots a)[m].waits = true then KeySlot.wiped else (s.slots a)[m].outOfService := by
  have hslots : (retireRecord a s).slots a = s.slots a := slots_eq_of_keys (by simp) a
  rw [retire_slots, retireCurrent_slots_of_few (by rwa [hslots]) (by rwa [hslots]), hslots]

end Sys2Proof.Machine
end

section
/-! INSTALL-KEY after settle, for an association in an epoch or RETIRED (R58, R60, R62, R163). -/

namespace Sys2Proof.Machine

variable {s t u : State} {a : Fin 64} {data : List Byte} {rest : List (List Byte)} {i : Install}

/-! ## What concerns the association alone -/

theorem touches_setSlot (a : Fin 64) (j : Fin 4) (k : KeySlot) (s : State) :
    Touches a s (s.setSlot { assoc := a, index := j } k) where
  records _ _ := rfl
  slots b hb := slots_ext fun m => setSlot_slot_ne s (r := { assoc := a, index := j }) (q := { assoc := b, index := m }) k
    fun h => hb (by injection h)
  posts := ⟨[], posts_nil rfl rfl rfl rfl, by simp⟩
  marks := ⟨[], by simp, by simp⟩
  entries _ hx := .inl hx

theorem touches_discardKey (a : Fin 64) (j : Fin 4) (s : State) : Touches a s (discardKey { assoc := a, index := j } s) :=
  (touches_setSlot a j KeySlot.wiped s).trans (touches_postNotice a rfl (by simp [newNotice]) _)

theorem touches_postMark (a : Fin 64) (c : ExcClass) (s : State) : Touches a s (postMark a c s) where
  records _ _ := rfl
  slots _ _ := rfl
  posts := ⟨[], posts_nil rfl rfl rfl rfl, by simp⟩
  marks := ⟨_, rfl, by simp⟩
  entries _ hx := .inl hx

theorem touches_writeEmptySlot (a : Fin 64) (r : Role) (i : Install) (s : State) : Touches a s (writeEmptySlot a r i s) := by
  unfold writeEmptySlot
  split
  · exact touches_setSlot a _ _ s
  · exact .refl a s

theorem touches_queueHeldAdvance (a : Fin 64) (s : State) : Touches a s (queueHeldAdvance a s) := by
  unfold queueHeldAdvance
  split
  · split
    · exact (touches_modAssoc a _ s).trans {
        records := fun b _ => assoc_eq_of_assocs (by simp) b
        slots := fun b _ => slots_eq_of_keys (by simp) b
        posts := ⟨[], posts_nil rfl rfl rfl rfl, by simp⟩
        marks := ⟨[], by simp, by simp⟩
        entries := fun x hx => (mem_requestTx.1 hx).elim (fun h => .inr (by rw [h])) .inl }
    · exact .refl a s
  · exact .refl a s

theorem touches_installCurrent (a : Fin 64) (i : Install) (s : State) : Touches a s (installCurrent a i s) :=
  (((touches_writeEmptySlot a _ i s).trans (touches_modAssoc a _ _)).trans
    (touches_postNotice a rfl (by simp [newNotice]) _)).trans (touches_postMark a _ _)

theorem touches_installStandby (a : Fin 64) (i : Install) (s : State) : Touches a s (installStandby a i s) := by
  unfold installStandby
  refine Touches.trans (Touches.trans ?_ (touches_postNotice a rfl (by simp [newNotice]) _)) (touches_queueHeldAdvance a _)
  split
  · exact (touches_discardKey a _ s).trans (touches_setSlot a _ _ _)
  · exact touches_writeEmptySlot a _ i s

theorem touches_installRunning (a : Fin 64) (i : Install) (s : State) : Touches a s (installRunning a i s).state := by
  fun_cases installRunning a i s
  case case2 => exact touches_installCurrent a i s
  case case4 => exact touches_installStandby a i s
  all_goals exact .refl a s

theorem InstallEnds.others {o : InstallOutcome} (h : InstallEnds s t data rest a o) {k : BitVec 256}
    (ho : Touches a (setUnwrapStore k s) o.state) (b : Fin 64) (hb : b ≠ a) : t.assoc b = s.assoc b ∧ t.slots b = s.slots b :=
  ⟨(assoc_eq_of_assocs h.assocs b).trans (ho.records b hb), (slots_eq_of_keys h.keys b).trans (ho.slots b hb)⟩

/-! ## The key that becomes CURRENT (R58, R60) -/

theorem installCurrent_spec {j : Fin 4} (hj : slotWithRole (s.slots a) .empty = some j) (i : Install) :
    (∀ q, (installCurrent a i s).slot q = if q = { assoc := a, index := j } then i.slotFor a .current else s.slot q) ∧
    (installCurrent a i s).assoc a = { s.assoc a with state := .live } ∧
    (installCurrent a i s).disp.marks = s.disp.marks ++ [{ assoc := a, cls := .noKey }] ∧
    Posts s (installCurrent a i s) [newNotice .keyPlaced (.role .current) a.val i.epoch 0 1 false] := by
  unfold installCurrent
  rw [writeEmptySlot_of_slot hj]
  refine ⟨fun q => ?_, ?_, by simp [postKeyPlaced], ?_⟩
  · rw [slot_eq_of_keys (s := s.setSlot { assoc := a, index := j } (i.slotFor a .current)) (by simp [postKeyPlaced]), setSlot_slot]
  · rw [assoc_eq_of_assocs (s := (s.setSlot { assoc := a, index := j } (i.slotFor a .current)).modAssoc a
      (fun r => { r with state := .live })) (by simp [postKeyPlaced]), modAssoc_assoc_self]
    rfl
  · refine ((posts_nil (s := s) (t := (s.setSlot { assoc := a, index := j } (i.slotFor a .current)).modAssoc a
      (fun r => { r with state := .live })) rfl rfl rfl rfl).trans (posts_postNotice _ _ (by simp [newNotice]))).same
      ⟨rfl, rfl, rfl, rfl, rfl⟩

/-! ## The key that becomes STANDBY (R58, R60, R62) -/

/-- A record once a STANDBY has been placed: its HELD advance is QUEUED (R62). -/
def Assoc.advanceFreed (r : Assoc) : Assoc :=
  { r with pendingAdvance := r.pendingAdvance.map fun p => if p.condition = .held then { p with condition := .queued } else p }

theorem queueHeldAdvance_assoc_self (a : Fin 64) (s : State) : (queueHeldAdvance a s).assoc a = (s.assoc a).advanceFreed := by
  unfold queueHeldAdvance Assoc.advanceFreed
  split
  · rename_i p hp
    split
    · rename_i hh
      simp [hp, hh]
    · rename_i hh
      simp only [hp, Option.map_some, if_neg hh]
      rw [← hp]
  · rename_i hp
    simp only [hp, Option.map_none]
    rw [← hp]

theorem mem_queueHeldAdvance {p : PendingAdvance} (hp : (s.assoc a).pendingAdvance = some p) (hh : p.condition = .held) :
    { kind := .advance, assoc := a } ∈ (queueHeldAdvance a s).bus.txList := by
  simp only [queueHeldAdvance, hp, if_pos hh]
  exact mem_requestTx.2 (.inl rfl)

theorem posts_queueHeldAdvance (a : Fin 64) (s : State) : Posts s (queueHeldAdvance a s) [] := by
  unfold queueHeldAdvance
  (repeat' split) <;> exact posts_nil rfl rfl rfl rfl

/-- The slot a STANDBY goes to: that of the one present, or the first EMPTY one (R58, R60). -/
def State.standbySlot (s : State) (a : Fin 64) : Option (Fin 4) :=
  match slotWithRole (s.slots a) .standby with
  | some j => some j
  | none => slotWithRole (s.slots a) .empty

/-- The slots with the STANDBY written. -/
def State.writeStandby (s : State) (a : Fin 64) (i : Install) : State :=
  match slotWithRole (s.slots a) .standby with
  | some j => s.replaceKey { assoc := a, index := j } (i.slotFor a .standby)
  | none => writeEmptySlot a .standby i s

theorem installStandby_eq (a : Fin 64) (i : Install) (s : State) :
    installStandby a i s = queueHeldAdvance a (postKeyPlaced a i.epoch .standby (s.writeStandby a i)) := rfl

/-- KEY-DISCARDED of the STANDBY that stood in a slot, if one did (R60). -/
def KeySlot.replacedNotices (a : Fin 64) (k : KeySlot) : List Notice :=
  if k.role = .standby then [newNotice .keyDiscarded .none a.val k.epoch 0 1 false] else []

theorem writeStandby_spec {j : Fin 4} (hj : s.standbySlot a = some j) (i : Install) :
    (∀ q, (s.writeStandby a i).slot q = if q = { assoc := a, index := j } then i.slotFor a .standby else s.slot q) ∧
    (s.writeStandby a i).assocs = s.assocs ∧ (s.writeStandby a i).disp = s.disp ∧
    Posts s (s.writeStandby a i) ((s.slots a)[j].replacedNotices a) := by
  unfold State.standbySlot at hj
  unfold State.writeStandby
  cases hs : slotWithRole (s.slots a) .standby with
  | some m =>
    rw [hs] at hj
    cases hj
    refine ⟨fun q => replaceKey_slot s _ q _, by simp [State.replaceKey], by simp [State.replaceKey], ?_⟩
    rw [KeySlot.replacedNotices, if_pos (slotWithRole_role hs)]
    exact posts_replaceKey s _ _
  | none =>
    rw [hs] at hj
    simp only at hj ⊢
    rw [writeEmptySlot_of_slot hj, KeySlot.replacedNotices, if_neg ((slotWithRole_role hj).trans_ne (by simp))]
    exact ⟨fun q => setSlot_slot s _ q _, rfl, rfl, posts_nil rfl rfl rfl rfl⟩

theorem installStandby_spec {j : Fin 4} (hj : s.standbySlot a = some j) (i : Install) :
    (∀ q, (installStandby a i s).slot q = if q = { assoc := a, index := j } then i.slotFor a .standby else s.slot q) ∧
    (installStandby a i s).assoc a = (s.assoc a).advanceFreed ∧
    (∀ p, (s.assoc a).pendingAdvance = some p → p.condition = .held →
      { kind := .advance, assoc := a } ∈ (installStandby a i s).bus.txList) ∧
    (installStandby a i s).disp.marks = s.disp.marks ∧
    Posts s (installStandby a i s) ((s.slots a)[j].replacedNotices a ++
      [newNotice .keyPlaced (.role .standby) a.val i.epoch 0 1 false]) := by
  obtain ⟨hslot, hassocs, hdisp, hposts⟩ := writeStandby_spec hj i
  have hrec : (postKeyPlaced a i.epoch .standby (s.writeStandby a i)).assoc a = s.assoc a :=
    assoc_eq_of_assocs (by simp [postKeyPlaced, hassocs]) a
  rw [installStandby_eq]
  refine ⟨fun q => ?_, ?_, fun p hp hh => ?_, by simp [postKeyPlaced, hdisp], ?_⟩
  · rw [slot_eq_of_keys (s := s.writeStandby a i) (by simp [postKeyPlaced]), hslot]
  · rw [queueHeldAdvance_assoc_self, hrec]
  · exact mem_queueHeldAdvance (p := p) (by rw [hrec]; exact hp) hh
  · have := (hposts.trans (posts_postNotice _ (s.writeStandby a i) (by simp [newNotice]))).trans
      (posts_queueHeldAdvance a (postKeyPlaced a i.epoch .standby (s.writeStandby a i)))
    simpa using this

/-! ## The decision (R58) -/

section
variable (hd : s.device = .running)
include hd

theorem installDecision_running (hl : (s.assoc a).state.listening = false) :
    s.installDecision a i = installRunning a i (setUnwrapStore i.key s) := by
  have hd : (setUnwrapStore i.key s).device ≠ .settling := hd.trans_ne (by simp)
  have hl : ((setUnwrapStore i.key s).assoc a).state.listening ≠ true := Bool.eq_false_iff.1 hl
  rw [State.installDecision, decideInstall, if_neg hd, if_neg hl]

theorem installDecision_retired (h : (s.assoc a).state = .retired) :
    s.installDecision a i = refuseInstall .refusedState (setUnwrapStore i.key s) :=
  (installDecision_running hd (by rw [h]; rfl)).trans (if_pos h)

/-- The decision on an install at an association in epoch `e`. -/
theorem installDecision_inEpoch {e : Nat} (he : (s.assoc a).epoch = some e) (hs : (s.assoc a).state.inEpoch = true) :
    s.installDecision a i =
      if i.epoch = e ∧ (s.assoc a).state = .keyWait then
        if i.unwrapOk = true then InstallOutcome.mk (installCurrent a i (setUnwrapStore i.key s)) .done .current
        else refuseInstall .refusedWrap (setUnwrapStore i.key s)
      else if i.epoch = e + 1 then
        if i.unwrapOk = true then InstallOutcome.mk (installStandby a i (setUnwrapStore i.key s)) .done .standby
        else refuseInstall .refusedWrap (setUnwrapStore i.key s)
      else if i.epoch ≤ e then refuseInstall .refusedStaleEpoch (setUnwrapStore i.key s)
      else refuseInstall .refusedTooFar (setUnwrapStore i.key s) := by
  have hnr : ((setUnwrapStore i.key s).assoc a).state ≠ .retired := fun h => by
    have h : (s.assoc a).state = .retired := h
    rw [h] at hs
    cases hs
  have hep : ((setUnwrapStore i.key s).assoc a).epochOrZero = e := by
    change (s.assoc a).epochOrZero = e
    simp [Assoc.epochOrZero, he]
  rw [installDecision_running hd (not_listening_of_inEpoch hs), installRunning]
  simp only [hep, if_neg hnr]
  rfl

end

end Sys2Proof.Machine
end

section
/-! INSTALL-KEY after settle: the first clause, for an association in an epoch or RETIRED. -/

namespace Sys2Proof.Machine

variable {s t u : State} {a : Fin 64} {data : List Byte} {rest : List (List Byte)} {i : Install}

theorem reportedEpoch_of_epoch {r : Assoc} {e : Nat} (h : r.epoch = some e) : r.reportedEpoch = e := by
  simp [Assoc.reportedEpoch, h]

/-- A key written by an install, in one slot of its association. -/
theorem InstallEnds.key_written {j : Fin 4} {o : InstallOutcome} (h : InstallEnds s t data rest a o) (hdone : o.result = .done)
    {k : KeySlot} (hk : ∀ q, o.state.slot q = if q = { assoc := a, index := j } then k else s.slot q) {st : AssocState}
    (hst : (o.state.assoc a).state = st) {n : Nat} (hn : o.role.code + 256 * st.code s.freeIndex = n) :
    t.slot { assoc := a, index := j } = k ∧
      (∀ m : Fin 4, m ≠ j → t.slot { assoc := a, index := m } = s.slot { assoc := a, index := m }) ∧
      t.status.replies = s.installReply data .done n := by
  obtain ⟨h1, h2, h3⟩ := h.of_written hdone hk hst hn
  exact ⟨h1, fun m hm => h2 _ fun he => hm (by injection he), h3⟩

section
variable {e : Nat} (hd : s.device = .running) (he : (s.assoc a).epoch = some e) (hs : (s.assoc a).state.inEpoch = true)
  (h : InstallEnds s t data rest a (s.installDecision a i))
include hd he hs h

/-- At its epoch in KEY-WAIT a key becomes CURRENT (R58, R60). -/
theorem InstallEnds.current (hw : (s.assoc a).state = .keyWait) (hi : i.epoch = e) (hok : i.unwrapOk = true) {j : Fin 4}
    (hj : slotWithRole (s.slots a) .empty = some j) :
    t.slot { assoc := a, index := j } = i.slotFor a .current ∧
      (∀ m : Fin 4, m ≠ j → t.slot { assoc := a, index := m } = s.slot { assoc := a, index := m }) ∧
      t.assoc a = { s.assoc a with state := .live } ∧ t.status.replies = s.installReply data .done 514 ∧
      Releases s t (fun b c => b == a && c == .noKey) ∧
      Notified s t a.val [s.keyNotice .keyPlaced (.role .current) a e] := by
  rw [installDecision_inEpoch hd he hs, if_pos ⟨hi, hw⟩, if_pos hok] at h
  obtain ⟨hslot, hrec, hmarks, hposts⟩ := installCurrent_spec (s := setUnwrapStore i.key s) hj i
  obtain ⟨h1, h2, h3⟩ := h.key_written rfl hslot (congrArg Assoc.state hrec) rfl
  refine ⟨h1, h2, (assoc_eq_of_assocs h.assocs a).trans hrec, h3, ?_, ?_⟩
  · exact h.releases _ _ hmarks fun b c => by simp
  · have hv : Posts s (setUnwrapStore i.key s) [] := posts_nil rfl rfl rfl rfl
    have hnot := h.notified _ (hv.trans hposts)
    rw [List.nil_append, namedIn_keyNotice _ _ _ _ _ (by simp), hi] at hnot
    exact hnot

/-- At the next epoch a key becomes STANDBY (R58, R60, R62). -/
theorem InstallEnds.standby (hi : i.epoch = e + 1) (hok : i.unwrapOk = true) {j : Fin 4} (hj : s.standbySlot a = some j) :
    (t.slot { assoc := a, index := j } = i.slotFor a .standby ∧
      (∀ m : Fin 4, m ≠ j → t.slot { assoc := a, index := m } = s.slot { assoc := a, index := m }) ∧
      t.status.replies = s.installReply data .done (3 + 256 * (s.assoc a).state.code s.freeIndex)) ∧
      t.assoc a = (s.assoc a).advanceFreed ∧
      (∀ p, (s.assoc a).pendingAdvance = some p → p.condition = .held → { kind := .advance, assoc := a } ∈ t.bus.txList) ∧
      Releases s t (fun _ _ => false) ∧
      Notified s t a.val ((if (s.slots a)[j].role = .standby then
        [s.keyNotice .keyDiscarded .none a (s.slots a)[j].epoch] else []) ++
        [s.keyNotice .keyPlaced (.role .standby) a (e + 1)]) := by
  rw [installDecision_inEpoch hd he hs, if_neg (by rintro ⟨h, -⟩; omega), if_pos hi, if_pos hok] at h
  obtain ⟨hslot, hrec, hheld, hmarks, hposts⟩ := installStandby_spec (s := setUnwrapStore i.key s) hj i
  refine ⟨h.key_written rfl hslot (congrArg Assoc.state hrec) rfl, (assoc_eq_of_assocs h.assocs a).trans hrec,
    fun p hp hh => ?_, ?_, ?_⟩
  · rw [h.bus]
    exact hheld p hp hh
  · exact h.releases [] _ (hmarks.trans (List.append_nil _).symm) (by simp)
  · have hv : Posts s (setUnwrapStore i.key s) [] := posts_nil rfl rfl rfl rfl
    have hnot := h.notified _ (hv.trans hposts)
    have hrep : namedIn ((s.slots a)[j].replacedNotices a) s.time a.val = if (s.slots a)[j].role = .standby then
        [s.keyNotice .keyDiscarded .none a (s.slots a)[j].epoch] else [] := by
      unfold KeySlot.replacedNotices
      split
      · exact namedIn_keyNotice _ _ _ _ _ (by simp)
      · rfl
    rw [List.nil_append, namedIn_append, namedIn_keyNotice _ _ _ _ _ (by simp), hi] at hnot
    rw [← hrep]
    exact hnot

/-- Any other install at an association in an epoch is refused (R58). -/
theorem InstallEnds.refusals :
    let same := t.assocs = s.assocs ∧ t.keys = s.keys ∧ Releases s t (fun _ _ => false)
    ((((i.epoch = e ∧ (s.assoc a).state = .keyWait) ∨ i.epoch = e + 1) → i.unwrapOk = false →
        same ∧ t.status.replies = s.installReply data .refusedWrap e) ∧
      (i.epoch ≤ e → ¬ (i.epoch = e ∧ (s.assoc a).state = .keyWait) →
        same ∧ t.status.replies = s.installReply data .refusedStaleEpoch e) ∧
      (e + 1 < i.epoch → same ∧ t.status.replies = s.installReply data .refusedTooFar e)) := by
  intro same
  have hview := reportedEpoch_of_epoch he
  rw [installDecision_inEpoch hd he hs] at h
  refine ⟨fun hi hbad => ?_, fun hi hne => ?_, fun hi => ?_⟩
  · have hbad : ¬ i.unwrapOk = true := by simp [hbad]
    simp only [if_neg hbad] at h
    rw [← hview]
    rcases hi with hi | hi
    · rw [if_pos hi] at h
      exact h.of_refused (by simp)
    · rw [if_neg (by rintro ⟨h, -⟩; omega), if_pos hi] at h
      exact h.of_refused (by simp)
  · rw [if_neg hne, if_neg (by omega), if_pos hi] at h
    rw [← hview]
    exact h.of_refused (by simp)
  · rw [if_neg (by rintro ⟨h, -⟩; omega), if_neg (by omega), if_neg (by omega)] at h
    rw [← hview]
    exact h.of_refused (by simp)

end

/-- The code of a state of an association in an epoch (R163). -/
def AssocState.codeInEpoch : AssocState → Nat
  | .live => 2
  | .blind => 3
  | _ => 4

theorem code_of_inEpoch {st : AssocState} (h : st.inEpoch = true) (n : Nat) : st.code n = st.codeInEpoch := by
  cases st
  case live | blind | keyWait => rfl
  all_goals cases h

end Sys2Proof.Machine
end

section
/-! INSTALL-KEY after settle for a DORMANT association: the key is PENDING in one slot, and placement gives it its role
(R54, R55, R59). -/

namespace Sys2Proof.Machine

variable {s t u : State} {a : Fin 64} {data : List Byte} {rest : List (List Byte)} {i : Install}

/-! ## One key alone -/

/-- The key of slot `j` is the only one of the association. -/
def State.holdsOnly (s : State) (a : Fin 64) (j : Fin 4) (k : KeySlot) : Prop :=
  ∀ m : Fin 4, (s.slots a)[m] = if m = j then k else KeySlot.wiped

/-- Of four slots only one gives something. -/
theorem filterMap_alone {α : Type} {f : Fin 4 → Option α} {j : Fin 4} (h : ∀ m, m ≠ j → f m = none) :
    (List.finRange 4).filterMap f = (f j).toList := by
  have hf : f = fun m => if m = j then f j else none := funext fun m => by
    split
    · rename_i hm
      rw [hm]
    · rename_i hm
      exact h m hm
  rw [hf]
  generalize f j = x
  fin_cases j <;> cases x <;> rfl

section
variable {j : Fin 4} {k : KeySlot}

theorem placedIn_current (hr : k.role = .pending) : k.placedIn k.epoch = { k with role := .current } := by
  simp [KeySlot.placedIn, hr]

theorem placedIn_standby (hr : k.role = .pending) {e : Nat} (he : k.epoch = e + 1) :
    k.placedIn e = { k with role := .standby } := by
  simp [KeySlot.placedIn, hr, he]

theorem holdsOnly_setSlot (h : ∀ m : Fin 4, (s.slots a)[m] = KeySlot.wiped) (j : Fin 4) (k : KeySlot) :
    (s.setSlot { assoc := a, index := j } k).holdsOnly a j k := fun m => by
  rw [setSlot_slots, slot_set_get, h]

section
variable (h : s.holdsOnly a j k)
include h

theorem State.holdsOnly.congr (hk : t.keys = s.keys) : t.holdsOnly a j k := fun m => by
  rw [slots_eq_of_keys hk]
  exact h m

theorem State.holdsOnly.self : (s.slots a)[j] = k := (h j).trans (if_pos rfl)

theorem State.holdsOnly.other {m : Fin 4} (hm : m ≠ j) : (s.slots a)[m] = KeySlot.wiped := (h m).trans (if_neg hm)

theorem State.holdsOnly.roles_eq_zero {r : Role} (hr : r ≠ .empty) (hk : k.role ≠ r) : roles (s.slots a) r = 0 :=
  Machine.roles_eq_zero.2 fun m => by
    rw [h m]
    split
    · exact hk
    · exact hr.symm

/-- A test that no EMPTY slot meets is met by some slot when the key meets it. -/
theorem State.holdsOnly.exists_iff {p : KeySlot → Prop} (hp : ¬ p KeySlot.wiped) :
    (∃ m : Fin 4, p (s.slots a)[m]) ↔ p k := by
  refine ⟨fun ⟨m, hm⟩ => ?_, fun hk => ⟨j, by rwa [h.self]⟩⟩
  rw [h m] at hm
  split at hm
  · exact hm
  · exact absurd hm hp

theorem State.holdsOnly.placed (e : Nat) : (assignRoles a e s).holdsOnly a j (k.placedIn e) := fun m => by
  rw [assignRoles_slot_self, h m]
  split <;> rfl

theorem State.holdsOnly.discardNotices {p : KeySlot → Bool} (hk : p k = false) (hp : p KeySlot.wiped = false) :
    s.discardNotices a p = [] :=
  List.filterMap_eq_nil_iff.2 fun m _ => if_neg (by rw [h m]; split <;> simp [hk, hp])

theorem State.holdsOnly.discardsIn {p : KeySlot → Bool} (hk : p k = false) (hp : p KeySlot.wiped = false) :
    s.discardsIn a p (List.finRange 4) = [] :=
  List.filterMap_eq_nil_iff.2 fun m _ => if_neg (by rw [h m]; split <;> simp [hk, hp])

theorem State.holdsOnly.discards_none {e : Nat} (he : k.epoch = e ∨ k.epoch = e + 1) :
    s.discardsIn a (KeySlot.misplaced e) (List.finRange 4) = [] :=
  h.discardsIn (by rcases he with he | he <;> simp [KeySlot.misplaced, he]) rfl

section
variable (hr : k.role = .pending)
include hr

theorem State.holdsOnly.pendingKeys : s.pendingKeys a = [j] := by
  have hp : s.pendingKeys a = (List.finRange 4).filter (fun m => m == j) := by
    refine List.filter_congr fun m _ => ?_
    rw [h m]
    by_cases hm : m = j
    · simp [hm, hr]
    · simp [hm, KeySlot.wiped]
  rw [hp]
  fin_cases j <;> rfl

theorem State.holdsOnly.lowestPending : s.lowestPending a = some k.epoch := by
  rw [State.lowestPending, h.pendingKeys hr, List.map_cons, h.self]
  rfl

/-- The notice of the key that a placement in epoch `e` gives its role (R56). -/
theorem State.holdsOnly.placementNotices (e : Nat) : s.placementNotices a e =
    if k.epoch = e then [s.keyNotice .keyPlaced (.role .current) a e]
    else if k.epoch = e + 1 then [s.keyNotice .keyPlaced (.role .standby) a (e + 1)] else [] := by
  unfold State.placementNotices
  rw [filterMap_alone (j := j) fun m hm => by simp [h.other hm, KeySlot.wiped]]
  simp only [h.self, hr, true_and]
  split
  · rfl
  split <;> rfl

theorem State.holdsOnly.marks (e : Nat) (x : Fin 64) (c : ExcClass) :
    (∃ m ∈ s.placedMarksIn a e, x = m.assoc ∧ c = m.cls) ↔ x = a ∧ c = .noKey ∧ k.epoch = e := by
  rw [mem_placedMarksIn, h.exists_iff (p := fun k => k.role = .pending ∧ k.epoch = e) (by simp [KeySlot.wiped])]
  simp [hr]

theorem State.holdsOnly.current_iff (e : Nat) :
    (slotWithRole ((assignRoles a e s).slots a) .current).isSome = true ↔ k.epoch = e := by
  rw [current_of_assignRoles, h.exists_iff (p := fun k => k.role = .current ∨ (k.role = .pending ∧ k.epoch = e))
    (by simp [KeySlot.wiped])]
  simp [hr]

/-- A placement of the key alone, into `k'`: the notices it reports of the association, and what it releases. -/
structure PlacesOne (s t : State) (a : Fin 64) (j : Fin 4) (k : KeySlot) (named : List Notice)
    (frees : Fin 64 → ExcClass → Bool) : Prop where
  keys : t.holdsOnly a j k
  marks : ∃ new, t.disp.marks = s.disp.marks ++ new ∧ ∀ x c, frees x c = true ↔ ∃ m ∈ new, x = m.assoc ∧ c = m.cls
  posts : ∃ l, Posts s t l ∧ namedIn l s.time a.val = named
  buf : t.buf = s.buf
  lanes : t.lanes = s.lanes

/-- The record of a placement in epoch `e` (R54, R55). -/
def Assoc.placed (r : Assoc) (st : AssocState) (e : Nat) (v : Option Nat) : Assoc :=
  { r with state := st, epoch := some e, hwm := v, assigned := 0, acc := 0, active := none, queued := none,
           rekeyRequested := false, settleView := none }

/-- A key of the epoch of the settle view makes the association LIVE (R54). -/
theorem State.holdsOnly.place_live (v : Nat) : (placeInEpoch a k.epoch v s).assoc a = (s.assoc a).placed .live k.epoch (some v) ∧
    PlacesOne s (placeInEpoch a k.epoch v s) a j { k with role := .current }
      [s.keyNotice .keyPlaced (.role .current) a k.epoch] (fun x c => x == a && c == .noKey) := by
  obtain ⟨hrec, hkeys, hmarks, hposts⟩ := placeInEpoch_spec a k.epoch v s
  have hlive := (h.current_iff hr k.epoch).2 rfl
  simp only [hlive] at hrec hposts
  refine ⟨hrec, (placedIn_current hr ▸ h.placed k.epoch).congr hkeys, ⟨_, hmarks, fun x c => ?_⟩, ⟨_, hposts, ?_⟩, by simp, by simp⟩
  · rw [h.marks hr]
    simp
  · rw [h.discards_none (.inl rfl), List.nil_append, namedIn_append, namedIn_wantedNotices, namedIn_placedIn,
      h.placementNotices hr, if_pos rfl]
    rfl

/-- A key of the next epoch is STANDBY, and the association waits for the key of its epoch (R54). -/
theorem State.holdsOnly.place_keyWait {e : Nat} (he : k.epoch = e + 1) (v : Nat) :
    (placeInEpoch a e v s).assoc a = (s.assoc a).placed .keyWait e (some v) ∧
    PlacesOne s (placeInEpoch a e v s) a j { k with role := .standby }
      [s.keyNotice .keyWanted .none a e, s.keyNotice .keyPlaced (.role .standby) a (e + 1)] (fun _ _ => false) := by
  obtain ⟨hrec, hkeys, hmarks, hposts⟩ := placeInEpoch_spec a e v s
  have hlive : (slotWithRole ((assignRoles a e s).slots a) .current).isSome = false :=
    Bool.eq_false_iff.2 fun hs => by have := (h.current_iff hr e).1 hs; omega
  simp only [hlive] at hrec hposts
  refine ⟨hrec, (placedIn_standby hr he ▸ h.placed e).congr hkeys, ⟨_, hmarks, fun x c => ?_⟩, ⟨_, hposts, ?_⟩, by simp, by simp⟩
  · rw [h.marks hr]
    simp [he]
  · rw [h.discards_none (.inr he), List.nil_append, namedIn_append, namedIn_wantedNotices, namedIn_placedIn,
      h.placementNotices hr]
    simp [he]

/-- With no settle view the association is BLIND in the epoch of its key, and an advance is HELD (R55, R61). -/
theorem State.holdsOnly.place_blind (hf : k.epoch ≠ 65535) (hp : (s.assoc a).pendingAdvance = none) :
    (placeBlind a k.epoch s).assoc a = { (s.assoc a).placed .blind k.epoch none with
      pendingAdvance := some { target := k.epoch + 1, reason := .blind, condition := .held } } ∧
    PlacesOne s (placeBlind a k.epoch s) a j { k with role := .current }
      [s.keyNotice .keyWanted .none a (k.epoch + 1), s.keyNotice .keyPlaced (.role .current) a k.epoch]
      (fun x c => x == a && c == .noKey) := by
  obtain ⟨hrec, hkeys, hmarks, hposts⟩ := placeBlind_spec a k.epoch s
  have hplaced := h.placed k.epoch
  rw [placedIn_current hr] at hplaced
  have hstandby : (slotWithRole ((assignRoles a k.epoch s).slots a) .standby).isSome = false := by
    rw [slotWithRole_eq_none.2 (hplaced.roles_eq_zero (by simp) (by simp))]
    rfl
  simp only [hstandby] at hrec hposts
  have hcalm := calm_requestAdvance (a := a) (s := placeRecord a k.epoch none .blind (assignRoles a k.epoch s)) (by
    simp [placeRecord, Assoc.endsAtAdvance, Assoc.epochOrZero, hf]) .blind
  refine ⟨?_, hplaced.congr (hkeys hf), ⟨_, hmarks, fun x c => ?_⟩, ⟨_, hposts hf hp, ?_⟩, ?_, ?_⟩
  · rw [hrec]
    simp [Assoc.advanceAsked, Assoc.blindIn, AssocState.inEpoch, Assoc.epochOrZero, hf, hp, Assoc.nextAdvance, Assoc.placed]
  · have hm := h.marks hr k.epoch x c
    simp [endMarks, hf, hm]
  · rw [h.discards_none (.inl rfl), List.nil_append, namedIn_append, namedIn_wantedNotices, namedIn_placedIn,
      h.placementNotices hr, if_pos rfl]
    rfl
  · have hb := hcalm.buf
    simp [placeRecord] at hb
    simpa [placeBlind, placeRecord] using hb
  · have hb := hcalm.lanes
    simp [placeRecord] at hb
    simpa [placeBlind, placeRecord] using hb

/-- With no settle view and a key of the last epoch the association is RETIRED at once (R55, R61, R70). -/
theorem State.holdsOnly.place_end (hf : k.epoch = 65535) (hu : k.uses = 0) :
    (placeBlind a k.epoch s).assoc a = { ((s.assoc a).blindIn k.epoch).whenRetired with settleView := none } ∧
    PlacesOne s (placeBlind a k.epoch s) a j KeySlot.wiped
      [s.advancedNotice .epochEnd a 65535 s.station.toNat true, s.keyNotice .keyPlaced (.role .current) a k.epoch]
      (fun x c => x == a && c.isFault) := by
  obtain ⟨hrec, -, hmarks, -⟩ := placeBlind_spec a k.epoch s
  have hin : (((s.assoc a).blindIn k.epoch)).state.inEpoch = true := rfl
  have hend : ((s.assoc a).blindIn k.epoch).epochOrZero = 65535 := hf
  rw [advanceAsked_of_end hin hend] at hrec
  set u := placeRecord a k.epoch none .blind (assignRoles a k.epoch s) with hu'
  have hurec : u.assoc a = (s.assoc a).blindIn k.epoch := by
    rw [hu', placeRecord, modAssoc_assoc_self, assoc_eq_of_assocs (s := s) (by simp)]
    rfl
  have hplaced : u.holdsOnly a j { k with role := .current } :=
    (placedIn_current hr ▸ h.placed k.epoch).congr (by simp [hu', placeRecord])
  have hretire : requestAdvance a .blind u = retire a true u :=
    requestAdvance_of_end (by rw [hurec, Assoc.endsAtAdvance, hin, hend]; rfl) _
  have hrun : placeBlind a k.epoch s = (reportPlaced a ((assignRoles a k.epoch s).slots a) (s.pendingKeys a)
      (retire a true u)).modAssoc a (fun r => { r with settleView := none }) := by
    rw [← hretire]
    rfl
  have hfew : roles (u.slots a) .retiring < 2 := by
    rw [hplaced.roles_eq_zero (by simp) (by simp)]
    omega
  have hone : roles (u.slots a) .current ≤ 1 := roles_le_one fun m n hm hn => by
    have hat : ∀ m : Fin 4, (u.slots a)[m].role = .current → m = j := fun m hm => by
      by_contra hne
      simp [hplaced.other hne, KeySlot.wiped] at hm
    rw [hat m hm, hat n hn]
  obtain ⟨hlanes, hbuf, -⟩ := retire_of_few hfew true
  have hplace : Posts s u [] := by
    have := posts_assignRoles a k.epoch s
    rw [h.discards_none (.inl rfl)] at this
    exact this.same ⟨rfl, rfl, rfl, rfl, rfl⟩
  obtain ⟨l, hl, -, hnamed⟩ := retire_named a true u
  have hreport := (reportPlaced_spec a ((assignRoles a k.epoch s).slots a) (s.pendingKeys a) (retire a true u)).1
  refine ⟨hrec, fun m => ?_, ⟨_, hmarks, fun x c => ?_⟩,
    ⟨_, ((hplace.trans hl).trans hreport).same ?_, ?_⟩, ?_, ?_⟩
  · have hkeys : (placeBlind a k.epoch s).slots a = (retire a true u).slots a :=
      slots_eq_of_keys (by rw [hrun]; simp) a
    rw [hkeys, retire_slots_of_few hone hfew, hplaced m]
    by_cases hm : m = j
    · simp [hm, KeySlot.waits, KeySlot.outOfService, hu]
    · simp [hm, KeySlot.waits, KeySlot.outOfService, KeySlot.wiped]
  · have hm := h.marks hr k.epoch x c
    have hfault := mem_faultMarks (a := a) (x := x) (c := c)
    have hsplit : (∃ m ∈ endMarks a (decide (k.epoch = 65535)) ++ s.placedMarksIn a k.epoch, x = m.assoc ∧ c = m.cls) ↔
        (∃ m ∈ faultMarks a, x = m.assoc ∧ c = m.cls) ∨ ∃ m ∈ s.placedMarksIn a k.epoch, x = m.assoc ∧ c = m.cls := by
      simp only [endMarks, hf, decide_true, if_true, List.mem_append, or_and_right, exists_or]
    rw [hsplit, hfault, hm, Bool.and_eq_true, beq_iff_eq]
    exact ⟨.inl, Or.rec id fun ⟨hx, hc, _⟩ => ⟨hx, by rw [hc]; rfl⟩⟩
  · rw [hrun]
    exact ⟨rfl, rfl, rfl, rfl, rfl⟩
  · have htime : u.time = s.time := by simp [hu', placeRecord]
    have hstation : u.station = s.station := by simp [hu', placeRecord]
    have hadv : u.advancedNotice .epochEnd a 65535 u.station.toNat true =
        s.advancedNotice .epochEnd a 65535 s.station.toNat true := by rw [State.advancedNotice, htime, hstation]; rfl
    rw [hplaced.discardNotices rfl rfl, htime, hadv] at hnamed
    have hlast := namedIn_placedIn a k.epoch s
    rw [h.placementNotices hr, if_pos rfl] at hlast
    rw [List.nil_append, namedIn_append, hnamed]
    exact congrArg (_ ++ ·) hlast
  · rw [hrun]
    simpa [hu', placeRecord] using hbuf
  · rw [hrun]
    simpa [hu', placeRecord] using hlanes

end

end

end

end Sys2Proof.Machine
end

section
/-! INSTALL-KEY after settle for a DORMANT association, decided by its settle view (R59), and the statement on installs after
settle. -/

namespace Sys2Proof.Machine

variable {s t u : State} {a : Fin 64} {data : List Byte} {rest : List (List Byte)} {i : Install}

/-! ## The decision (R59) -/

/-- The state in which the key of an install is PENDING in slot `j`, before placement. -/
def State.withPending (s : State) (a : Fin 64) (i : Install) (j : Fin 4) : State :=
  (setUnwrapStore i.key s).setSlot { assoc := a, index := j } (i.slotFor a .pending)

section
variable (hd : s.device = .running) (hst : (s.assoc a).state = .dormant)
include hd hst

theorem installDecision_dormant : s.installDecision a i = installDormant a i (setUnwrapStore i.key s) := by
  have hd : (setUnwrapStore i.key s).device ≠ .settling := hd.trans_ne (by simp)
  have hl : ((setUnwrapStore i.key s).assoc a).state.listening = true := by
    change (s.assoc a).state.listening = true
    rw [hst]
    rfl
  rw [State.installDecision, decideInstall, if_neg hd, if_pos hl]

variable {j : Fin 4} (hj : slotWithRole (s.slots a) .empty = some j)
include hj

/-- The decision with a settle view of epoch `v.epoch`. -/
theorem installDecision_view {v : SettleView} (hv : (s.assoc a).settleView = some v) (hpos : 0 < v.epoch) :
    s.installDecision a i =
      if i.epoch < v.epoch then refuseInstall .refusedStaleEpoch (setUnwrapStore i.key s)
      else if v.epoch + 1 < i.epoch then refuseInstall .refusedTooFar (setUnwrapStore i.key s)
      else if i.unwrapOk = true then
        InstallOutcome.mk (placeInEpoch a v.epoch v.hwm (s.withPending a i j)) .done
          (if i.epoch = v.epoch + 1 then .standby else .current)
      else refuseInstall .refusedWrap (setUnwrapStore i.key s) := by
  have hview : ((setUnwrapStore i.key s).assoc a).settleView = some v := hv
  have hplace : place a (s.withPending a i j) = placeInEpoch a v.epoch v.hwm (s.withPending a i j) := by
    have hview : ((s.withPending a i j).assoc a).settleView = some v := hv
    rw [place, hview]
  rw [installDecision_dormant hd hst, installDormant, hview, writeEmptySlot_of_slot (s := setUnwrapStore i.key s) hj]
  simp only [hpos, true_and]
  rw [← hplace]
  rfl

/-- The decision with no settle view. -/
theorem installDecision_noView (hv : (s.assoc a).settleView = none) (hu : (s.withPending a i j).holdsOnly a j (i.slotFor a .pending)) :
    s.installDecision a i =
      if i.unwrapOk = true then InstallOutcome.mk (placeBlind a i.epoch (s.withPending a i j)) .done .current
      else refuseInstall .refusedWrap (setUnwrapStore i.key s) := by
  have hview : ((setUnwrapStore i.key s).assoc a).settleView = none := hv
  have hplace : place a (s.withPending a i j) = placeBlind a i.epoch (s.withPending a i j) := by
    have hview : ((s.withPending a i j).assoc a).settleView = none := hv
    rw [place, hview]
    simp only [hu.lowestPending rfl]
    rfl
  rw [installDecision_dormant hd hst, installDormant, hview, writeEmptySlot_of_slot (s := setUnwrapStore i.key s) hj]
  simp only [Nat.lt_irrefl, false_and, if_false]
  rw [← hplace]
  rfl

end

/-! ## What the install leaves (R54, R55, R59) -/

section
variable {j : Fin 4} (hu : (s.withPending a i j).holdsOnly a j (i.slotFor a .pending))
include hu

/-- Placement of the key alone frees no frame and no lane. -/
theorem place_withPending_frees_none (hp : (s.assoc a).pendingAdvance = none) :
    (place a (s.withPending a i j)).buf = s.buf ∧ (place a (s.withPending a i j)).lanes = s.lanes := by
  rw [place]
  split
  · exact ⟨by simp [State.withPending], by simp [State.withPending]⟩
  · rw [hu.lowestPending rfl]
    by_cases hf : i.epoch = 65535
    · obtain ⟨-, h⟩ := hu.place_end rfl hf rfl
      exact ⟨h.buf, h.lanes⟩
    · obtain ⟨-, h⟩ := hu.place_blind rfl hf hp
      exact ⟨h.buf, h.lanes⟩

end

/-- An install at a DORMANT association keeps the frames and lanes, and concerns that association alone. -/
theorem installDormant_calm {j : Fin 4} (hj : slotWithRole (s.slots a) .empty = some j)
    (hu : (s.withPending a i j).holdsOnly a j (i.slotFor a .pending)) (hp : (s.assoc a).pendingAdvance = none) :
    let o := installDormant a i (setUnwrapStore i.key s)
    o.state.buf = s.buf ∧ o.state.lanes = s.lanes ∧ Touches a (setUnwrapStore i.key s) o.state := by
  intro o
  have hcases : o.state = setUnwrapStore i.key s ∨ o.state = place a (s.withPending a i j) := by
    simp only [o, installDormant, writeEmptySlot_of_slot (s := setUnwrapStore i.key s) hj]
    (repeat' split) <;> simp [refuseInstall, State.withPending]
  rcases hcases with h | h <;> rw [h]
  · exact ⟨rfl, rfl, .refl a _⟩
  · obtain ⟨hbuf, hlanes⟩ := place_withPending_frees_none hu hp
    exact ⟨hbuf, hlanes, (touches_setSlot a j _ _).trans (touches_place a _)⟩

/-- An install that placed the key alone. -/
theorem InstallEnds.of_placesOne {o : InstallOutcome} {j : Fin 4} {k : KeySlot} {named : List Notice} {frees : Fin 64 → ExcClass → Bool}
    {r : Assoc} (h : InstallEnds s t data rest a o) (hdone : o.result = .done)
    (hplace : o.state.assoc a = r ∧ PlacesOne (s.withPending a i j) o.state a j k named frees) :
    t.assoc a = r ∧ t.holdsOnly a j k ∧
      t.status.replies = s.installReply data .done (o.role.code + 256 * r.state.code s.freeIndex) ∧
      Releases s t frees ∧ Notified s t a.val named := by
  obtain ⟨hrec, hkeys, ⟨new, hmarks, hfrees⟩, ⟨l, hl, hnamed⟩, -, -⟩ := hplace
  have hv : Posts s (s.withPending a i j) [] := posts_nil rfl rfl rfl rfl
  refine ⟨(assoc_eq_of_assocs h.assocs a).trans hrec, hkeys.congr h.keys, hrec ▸ h.done hdone,
    h.releases new frees hmarks hfrees, ?_⟩
  rw [← hnamed]
  exact h.notified _ (hv.trans hl)

/-- Settles O45: the decision of the epoch controller case by case, each behind its reply. -/
theorem installAfterSettle : Obligations.InstallAfterSettle := by
  refine ⟨?_, ?_, fun s data rest a hr ha _ hz => install_outOfRange hr ha hz⟩
  · intro s data rest a e hr ha hd he hst i hz hl key same reply
    obtain ⟨t, hexec, h⟩ := install_ends hr ha hz hl
    change InstallEnds s t data rest a (s.installDecision a i) at h
    have hlisten : (s.assoc a).state.listening = false := by
      rcases hst with hs | hs
      · exact not_listening_of_inEpoch hs
      · rw [hs]; rfl
    have hrun := installDecision_running (a := a) (i := i) hd hlisten
    obtain ⟨hbuf, hlanes⟩ : (s.installDecision a i).state.buf = s.buf ∧ (s.installDecision a i).state.lanes = s.lanes := by
      rw [hrun]
      simp
    refine ⟨t, hexec, h.segMap, h.pool.trans (congrArg Buffers.pool hbuf), h.lanes.trans hlanes, h.engine,
      h.others (k := i.key) (by rw [hrun]; exact touches_installRunning a i _), fun hw hi hok j hj => ?_, fun hs hi hok j hj => ?_,
      fun hs => h.refusals hd he hs, fun hret => ?_⟩
    · exact h.current hd he (by rw [hw]; rfl) hw hi hok hj
    · obtain ⟨⟨h1, h2, h3⟩, hrec, hheld, hrel, hnot⟩ := h.standby hd he hs hi hok hj
      refine ⟨h1, h2, fun p hp hh => ⟨?_, hheld p hp hh⟩, ?_, ?_, hrel, hnot, ?_⟩
      · rw [hrec]
        simp [Assoc.advanceFreed, hp, hh]
      · rw [hrec]
        rfl
      · rw [hrec]
        exact he
      · rw [h3, code_of_inEpoch hs]
        rfl
    · rw [installDecision_retired hd hret] at h
      have := h.of_refused (by simp)
      rwa [reportedEpoch_of_epoch he] at this
  · intro s data rest a hr ha hd hst he hp hwiped i hz hl key holdsOnly placed same reply
    obtain ⟨t, hexec, h⟩ := install_ends hr ha hz hl
    change InstallEnds s t data rest a (s.installDecision a i) at h
    obtain ⟨j, hj⟩ : ∃ j, slotWithRole (s.slots a) .empty = some j :=
      Option.isSome_iff_exists.1 (slotWithRole_isSome.2 (roles_pos.2 ⟨0, by rw [hwiped]; rfl⟩))
    have hu : (s.withPending a i j).holdsOnly a j (i.slotFor a .pending) := holdsOnly_setSlot hwiped j _
    obtain ⟨hbuf, hlanes, htouch⟩ := installDormant_calm hj hu hp
    rw [← installDecision_dormant hd hst] at hbuf hlanes htouch
    have hkeyed : ∀ {role}, t.holdsOnly a j (key role) → holdsOnly t role := fun h => ⟨j, h.self, fun m hm => h.other hm⟩
    refine ⟨t, hexec, h.segMap, h.pool.trans (congrArg Buffers.pool hbuf), h.lanes.trans hlanes, h.engine,
      h.others htouch, fun v hv hpos => ?_, fun hv => ?_⟩
    · have hrep : (s.assoc a).reportedEpoch = v.epoch := by simp [Assoc.reportedEpoch, he, hv]
      rw [installDecision_view hd hst hj hv hpos] at h
      refine ⟨fun hlow => ?_, fun hfar => ?_, fun hge hle hbad => ?_, fun hi hok => ?_, fun hi hok => ?_⟩
      · rw [if_pos hlow] at h
        rw [← hrep]
        exact h.of_refused (by simp)
      · rw [if_neg (by omega), if_pos hfar] at h
        rw [← hrep]
        exact h.of_refused (by simp)
      · rw [if_neg (by omega), if_neg (by omega), if_neg (by simp [hbad])] at h
        rw [← hrep]
        exact h.of_refused (by simp)
      · rw [if_neg (by omega), if_neg (by omega), if_pos hok, if_neg (by omega), ← hi] at h
        obtain ⟨hrec, hkeys, hreply, hrel, hnot⟩ := h.of_placesOne rfl (hu.place_live rfl v.hwm)
        rw [← hi]
        exact ⟨hrec, hkeyed hkeys, hreply, hrel, hnot⟩
      · rw [if_neg (by omega), if_neg (by omega), if_pos hok, if_pos hi] at h
        obtain ⟨hrec, hkeys, hreply, hrel, hnot⟩ := h.of_placesOne rfl (hu.place_keyWait rfl hi v.hwm)
        exact ⟨hrec, hkeyed hkeys, hreply, hrel, hnot⟩
    · have hrep : (s.assoc a).reportedEpoch = 0 := by simp [Assoc.reportedEpoch, he, hv]
      rw [installDecision_noView hd hst hj hv hu] at h
      refine ⟨fun hbad => ?_, fun hok hf => ?_, fun hok hf => ?_⟩
      · rw [if_neg (by simp [hbad])] at h
        rw [← hrep]
        exact h.of_refused (by simp)
      · rw [if_pos hok] at h
        obtain ⟨hrec, hkeys, hreply, hrel, hnot⟩ := h.of_placesOne rfl (hu.place_blind rfl hf hp)
        exact ⟨hrec, hkeyed hkeys, hreply, hrel, hnot⟩
      · rw [if_pos hok] at h
        obtain ⟨hrec, hkeys, -, hrel, hnot⟩ := h.of_placesOne rfl (hu.place_end rfl hf rfl)
        refine ⟨hrec.trans ?_, fun m => ?_, hrel, ?_⟩
        · have hlast : (i.slotFor a .pending).epoch = 65535 := hf
          have hnone : ((s.withPending a i j).assoc a).pendingAdvance = none := hp
          rw [hlast, Assoc.whenRetired, Assoc.blindIn, ← hnone]
          rfl
        · exact (hkeys m).trans (ite_self _)
        · rw [show (i.slotFor a .pending).epoch = 65535 from hf] at hnot
          exact hnot

end Sys2Proof.Machine
end

section
/-! The frames of an association leave the queues and the park list, and those of abandoned lanes their lanes (R67, R90, R128). -/

namespace Sys2Proof.Machine

variable {s t u : State} {a : Fin 64}

/-! ## The frames held (R128) -/

theorem frameOf_eq (s : State) (a : Fin 64) (h : Nat) :
    s.frameOf a h = (s.frame? h).any (fun d => d.action == .encrypt a) := by
  unfold State.frameOf
  split
  · rename_i d hd
    rw [hd]
    rfl
  · rename_i hd
    rw [hd]
    rfl

theorem heldFrames_length (s : State) (a : Fin 64) : (s.heldFrames a).length =
    ((List.finRange 8).map (fun q => s.buf.queues[q].countP (s.frameOf a))).sum + s.disp.park.countP (fun e => e.assoc == a) := by
  rw [State.heldFrames, List.length_append, List.length_flatMap, List.length_map, List.countP_eq_length_filter]
  simp only [List.countP_eq_length_filter]

/-- The frames held are each in one place, and stored. -/
theorem FramesAccounted.held (h : FramesAccounted s) (a : Fin 64) :
    (s.heldFrames a).Nodup ∧ ∀ x ∈ s.heldFrames a, (s.frame? x).isSome = true := by
  obtain ⟨hn, hs, -⟩ := h
  have hperm := heldFrames_perm a s
  exact ⟨(List.nodup_append.1 (hperm.nodup_iff.1 hn)).1,
    fun x hx => (hs x).1 (hperm.mem_iff.2 (List.mem_append_left _ hx))⟩

/-- What a removal comes to (R128). -/
structure Removed (s t : State) (a : Fin 64) : Prop where
  queues : ∀ q : Fin 8, t.buf.queues[q] = s.buf.queues[q].filter (fun h => !s.frameOf a h)
  park : t.disp.park.map (·.frame) = (s.disp.park.filter (fun e => e.assoc != a)).map (·.frame)
  frames : ∀ x, t.frame? x = if x ∈ s.heldFrames a then none else s.frame? x
  freeCells : (s.heldFrames a).Nodup → (∀ x ∈ s.heldFrames a, (s.frame? x).isSome = true) →
    t.buf.freeCells = s.buf.freeCells + s.cellsOf (s.heldFrames a)

theorem removed_removeFrames (a : Fin 64) (s : State) : Removed s (removeFrames a s) a := by
  rw [removeFrames_eq]
  have hframe := withoutFrames_frame? a s
  refine ⟨fun q => ?_, ?_, fun x => ?_, fun hn hs => ?_⟩
  · simp only [releaseEach_frame]
    exact withoutFrames_queue a s q
  · simp only [releaseEach_frame]
    rw [(withoutFrames_park a s).1]
  · rw [releaseEach_frame?, hframe]
  · rw [releaseEach_freeCells hn fun x hx => by rw [hframe]; exact hs x hx, cellsOf_congr fun x _ => hframe x]
    simp [State.withoutFrames]

/-- The end of the event keeps what the removal came to. -/
theorem Removed.settled (h : Removed s u a) (k : Settled u t) : Removed s t a where
  queues q := by
    rw [k.queues]
    exact h.queues q
  park := by
    have hframe : (fun e : ParkEntry => (e.afterMarks u.disp.marks).frame) = (·.frame) := funext fun e => by
      unfold ParkEntry.afterMarks
      split <;> rfl
    rw [k.park, List.map_map, ← h.park]
    exact congrArg (u.disp.park.map ·) hframe
  frames x := (frame?_eq_of_pool k.pool x).trans (h.frames x)
  freeCells hn hs := k.freeCells.trans (h.freeCells hn hs)

theorem Removed.congr (h : Removed s u a) (hb : t.buf = u.buf) (hd : t.disp = u.disp) : Removed s t a := by
  obtain ⟨h1, h2, h3, h4⟩ := h
  refine ⟨by rwa [hb], by rwa [hd], fun x => ?_, by rwa [hb]⟩
  rw [frame?_eq_of_pool (congrArg Buffers.pool hb)]
  exact h3 x

theorem frameOf_congr {x : Nat} (h : u.frame? x = s.frame? x) : u.frameOf a x = s.frameOf a x := by
  rw [frameOf_eq, frameOf_eq, h]

theorem heldFrames_congr (hq : u.buf.queues = s.buf.queues) (hp : u.disp.park = s.disp.park)
    (hf : ∀ (q : Fin 8), ∀ h ∈ s.buf.queues[q], u.frame? h = s.frame? h) : u.heldFrames a = s.heldFrames a := by
  unfold State.heldFrames
  rw [hq, hp]
  congr 1
  exact List.flatMap_congr fun q _ => List.filter_congr fun x hx => frameOf_congr (hf q x hx)

/-- A removal from a state whose queues, pool and park list are those of `s`. -/
theorem Removed.of_same (h : Removed u t a) (hb : u.buf = s.buf) (hp : u.disp.park = s.disp.park) : Removed s t a := by
  have hframe : ∀ x, u.frame? x = s.frame? x := frame?_eq_of_pool (congrArg Buffers.pool hb)
  have hof : u.frameOf a = s.frameOf a := funext fun x => frameOf_congr (hframe x)
  have hheld : u.heldFrames a = s.heldFrames a := heldFrames_congr (by rw [hb]) hp fun _ x _ => hframe x
  obtain ⟨h1, h2, h3, h4⟩ := h
  rw [hb, hof] at h1
  rw [hp] at h2
  simp only [hheld, hframe] at h3 h4
  rw [hb, cellsOf_congr fun x _ => hframe x] at h4
  exact ⟨h1, h2, h3, h4⟩

/-! ## The frames of abandoned lanes (R67) -/

/-- The frames of different lanes are different and stored. -/
theorem FramesAccounted.lanes (h : FramesAccounted s) {L : List (Fin 4)} (hL : L.Nodup) :
    (s.framesIn L).Nodup ∧ (∀ x ∈ s.framesIn L, x ∈ s.inLanes) ∧ ∀ x ∈ s.framesIn L, (s.frame? x).isSome = true := by
  obtain ⟨-, hs, -, -, -, -, -, -, hl, -⟩ := h
  have hin : ∀ x ∈ s.framesIn L, x ∈ s.inLanes := fun x hx => by
    obtain ⟨l, -, hlx⟩ := List.mem_filterMap.1 hx
    obtain ⟨-, e, he, hex, -⟩ := hl l x hlx
    exact List.mem_map.2 ⟨e, he, hex⟩
  refine ⟨?_, hin, fun x hx => (hs x).1 ?_⟩
  · refine hL.filterMap fun l m x hlx hmx => ?_
    exact (hl m x hmx).1 l hlx
  · exact List.mem_append_right _ (hin x hx)

/-- The frames of queues and the park list are in no lane. -/
theorem FramesAccounted.waiting_notin_lanes (h : FramesAccounted s) {x : Nat} (hx : x ∈ s.inQueues ++ s.inPark) : x ∉ s.inLanes := by
  have hn := h.1
  rw [placed_eq] at hn
  exact fun hl => (List.nodup_append.1 hn).2.2 x hx x hl rfl

theorem FramesAccounted.queued_notin_lanes (h : FramesAccounted s) {q : Fin 8} {x : Nat} (hx : x ∈ s.buf.queues[q]) :
    x ∉ s.inLanes :=
  h.waiting_notin_lanes (List.mem_append_left _ (mem_inQueues.2 ⟨q, hx⟩))

theorem FramesAccounted.held_notin_lanes (h : FramesAccounted s) {x : Nat} (hx : x ∈ s.heldFrames a) : x ∉ s.inLanes := by
  rcases List.mem_append.1 hx with hx | hx
  · obtain ⟨q, -, hq⟩ := List.mem_flatMap.1 hx
    exact h.queued_notin_lanes (List.mem_filter.1 hq).1
  · obtain ⟨e, he, hex⟩ := List.mem_map.1 hx
    exact h.waiting_notin_lanes (List.mem_append_right _ (List.mem_map.2 ⟨e, (List.mem_filter.1 he).1, hex⟩))

theorem freeCells_abandonLanes (r : SlotRef) {L : List (Fin 4)} (hL : L.Nodup)
    (hf : ∀ m ∈ L, ((s.lane m).frame?).isSome = true) (hn : (s.framesIn L).Nodup)
    (hs : ∀ x ∈ s.framesIn L, (s.frame? x).isSome = true) :
    (L.foldl (abandonLane r) s).buf.freeCells = s.buf.freeCells + s.cellsOf (s.framesIn L) := by
  induction L generalizing s with
  | nil => rfl
  | cons m L ih =>
    obtain ⟨hm, hL⟩ := List.nodup_cons.1 hL
    obtain ⟨f, hmf⟩ := Option.isSome_iff_exists.1 (hf m (by simp))
    rw [framesIn_cons hmf] at hn hs ⊢
    obtain ⟨hfn, hn⟩ := List.nodup_cons.1 hn
    obtain ⟨d, hd⟩ := Option.isSome_iff_exists.1 (hs f (by simp))
    have hl := leaves_abandonLane hmf r
    have hframes : ∀ x ∈ s.framesIn L, (abandonLane r s m).frame? x = s.frame? x :=
      fun x hx => (hl.frames x).trans (if_neg (ne_of_mem_of_not_mem hx hfn))
    have hin := hl.framesIn hm
    have hrest := ih hL (s := abandonLane r s m)
      (fun k hk => by rw [hl.lane_ne (ne_of_mem_of_not_mem hk hm)]; exact hf k (by simp [hk]))
      (by rwa [hin]) (fun x hx => by
        rw [hin] at hx
        rw [hframes x hx]
        exact hs x (by simp [hx]))
    rw [List.foldl_cons, hrest, hin, cellsOf_congr hframes, hl.freeCells d hd, cellsOf_cons hd, Nat.add_assoc]

end Sys2Proof.Machine
end

section
/-! FLUSH-SA and RETIRE-SA (R67, R70, R90, R128, R129, R167, R168). -/

namespace Sys2Proof.Machine

variable {s t u : State} {a : Fin 64} {data : List Byte} {rest : List (List Byte)}

/-! ## A retirement with no third RETIRING key (R66, R70) -/

/-- The CURRENT key can leave service without a third RETIRING one. -/
def State.noThird (s : State) (a : Fin 64) : Prop :=
  roles (s.slots a) .retiring < 2 ∨ ∀ j : Fin 4, (s.slots a)[j].role = .current → (s.slots a)[j].uses = 0

theorem retireCurrent_of_unusedKeys (hu : ∀ j : Fin 4, (s.slots a)[j].role = .current → (s.slots a)[j].uses = 0) :
    ((retireCurrent a s).lanes = s.lanes ∧ (retireCurrent a s).buf = s.buf) ∧
      (roles (s.slots a) .current ≤ 1 → ∀ m : Fin 4, ((retireCurrent a s).slots a)[m] = (s.slots a)[m].outOfService) := by
  cases hj : slotWithRole (s.slots a) .current with
  | none =>
    have h0 := slotWithRole_eq_none.1 hj
    rw [retireCurrent_of_none h0]
    exact ⟨⟨rfl, rfl⟩, fun _ m => (outOfService_of_role (roles_eq_zero.1 h0 m)).symm⟩
  | some j =>
    have hrole := slotWithRole_role hj
    rw [retireCurrent_of_unused hj (hu j hrole)]
    refine ⟨⟨by simp, by simp⟩, fun hc m => ?_⟩
    rw [wipeSlot, setSlot_slots, slot_set_get]
    split
    · rename_i hm
      rw [hm, KeySlot.outOfService, if_pos hrole, if_pos (hu j hrole)]
    · rename_i hm
      rw [outOfService_of_role fun h => hm (role_unique hc h hrole)]

theorem retireCurrent_of_noThird (h : s.noThird a) :
    ((retireCurrent a s).lanes = s.lanes ∧ (retireCurrent a s).buf = s.buf) ∧
      (roles (s.slots a) .current ≤ 1 → ∀ m : Fin 4, ((retireCurrent a s).slots a)[m] = (s.slots a)[m].outOfService) := by
  rcases h with hr | hu
  · obtain ⟨hlanes, hbuf, -⟩ := retireCurrent_of_few hr
    exact ⟨⟨hlanes, hbuf⟩, fun hc => retireCurrent_slots_of_few hc hr⟩
  · exact retireCurrent_of_unusedKeys hu

/-- Lanes, frames and abandoned frames at a retirement are those of the CURRENT key leaving service. -/
theorem retire_lanes (a : Fin 64) (e : Bool) (s : State) :
    (retire a e s).lanes = (retireCurrent a (retireRecord a s)).lanes ∧
      (retire a e s).buf = (retireCurrent a (retireRecord a s)).buf ∧
      (retire a e s).count a .retiredInFlight = (retireCurrent a (retireRecord a s)).count a .retiredInFlight := by
  cases e <;> simp [retire, postAllMarks, postEpochEnd]

theorem retireRecord_calm (a : Fin 64) (s : State) : (retireRecord a s).keys = s.keys ∧
    (retireRecord a s).lanes = s.lanes ∧ (retireRecord a s).buf = s.buf ∧
    (retireRecord a s).count a .retiredInFlight = s.count a .retiredInFlight := by
  simp [retireRecord, discardReservation]

/-- What is left of a slot when its association retires with no third RETIRING key (R70). -/
def KeySlot.afterRetirement (k : KeySlot) : KeySlot := if k.waits = true then KeySlot.wiped else k.outOfService

theorem afterRetirement_eq (k : KeySlot) : k.afterRetirement =
    match k.role with
    | .current => if k.uses = 0 then KeySlot.wiped else { k with role := .retiring }
    | .standby | .pending => KeySlot.wiped
    | .retiring | .empty => k := by
  unfold KeySlot.afterRetirement KeySlot.outOfService KeySlot.waits
  cases hr : k.role <;> simp

theorem retire_of_noThird (h : s.noThird a) :
    (retire a false s).lanes = s.lanes ∧ (retire a false s).buf = s.buf ∧
      (roles (s.slots a) .current ≤ 1 → ∀ m : Fin 4, ((retire a false s).slots a)[m] = (s.slots a)[m].afterRetirement) := by
  obtain ⟨hlanes, hbuf, -⟩ := retire_lanes a false s
  obtain ⟨vkeys, vlanes, vbuf, -⟩ := retireRecord_calm a s
  have hv := slots_eq_of_keys vkeys a
  obtain ⟨⟨h1, h2⟩, h3⟩ := retireCurrent_of_noThird (s := retireRecord a s) (by rwa [State.noThird, hv])
  refine ⟨hlanes.trans (h1.trans vlanes), hbuf.trans (h2.trans vbuf), fun hc m => ?_⟩
  rw [hv] at h3
  rw [retire_slots, h3 hc]
  rfl

theorem retire_slots_ne {b : Fin 64} (h : b ≠ a) (e : Bool) (s : State) : (retire a e s).slots b = s.slots b := by
  obtain ⟨vkeys, -⟩ := retireRecord_calm a s
  rw [slots_eq_of_keys (retire_keys a e s), discardKeys_slots_ne h, retireCurrent_slots_ne h, slots_eq_of_keys vkeys]

/-! ## The commands -/

/-- The state RETIRE-SA leaves before its reply (R167). -/
def State.saRetired (s : State) (a : Fin 64) : State :=
  report .retired (some a) 0 1 (bumpDrop a .retired (s.heldFrames a).length (removeFrames a (retire a false s)))

/-- The state FLUSH-SA leaves before its reply (R168). -/
def State.saFlushed (s : State) (a : Fin 64) : State := bump a .flushed (s.heldFrames a).length (removeFrames a s)

section
variable (ha : s.definedAssoc? (byteAt (commandBody data) 0) = some a)
include ha

theorem settled_retireSa (hr : s.runs 0x05 data rest) (hst : (s.assoc a).state ≠ .retired) :
    ∃ t, exec .retireSa s = .next t ∧
      Settled ((s.saRetired a).answered data rest .done (s.heldFrames a).length []) t := by
  have hrule : retireSaRule a s = answer .done (s.heldFrames a).length (s.saRetired a) := if_neg hst
  have hset := settled_onAssoc retireSaRule hr ha (by rw [hrule]; simp [answer, State.saRetired])
  simp only [hrule, answer] at hset
  exact ⟨_, rfl, hset⟩

theorem settled_retireSa_refused (hr : s.runs 0x05 data rest) (hst : (s.assoc a).state = .retired) :
    ∃ t, exec .retireSa s = .next t ∧ Settled (s.answered data rest .refusedState 0 []) t := by
  have hrule : retireSaRule a s = refuseCommand .refusedState 0 s := if_pos hst
  have hset := settled_onAssoc retireSaRule hr ha (by rw [hrule]; rfl)
  rw [hrule] at hset
  exact ⟨_, rfl, hset⟩

theorem settled_flushSa (hr : s.runs 0x06 data rest) :
    ∃ t, exec .flushSa s = .next t ∧
      Settled ((s.saFlushed a).answered data rest .done (s.heldFrames a).length []) t :=
  ⟨_, rfl, settled_onAssoc flushSaRule hr ha (by simp [flushSaRule, answer])⟩

end

/-! ## What they leave -/

section
variable (s a)

theorem saRetired_buf : (s.saRetired a).buf = (removeFrames a (retire a false s)).buf ∧
    (s.saRetired a).disp = (removeFrames a (retire a false s)).disp ∧ (s.saRetired a).assocs = (retire a false s).assocs ∧
    (s.saRetired a).keys = (retire a false s).keys ∧ (s.saRetired a).lanes = (retire a false s).lanes ∧
    (s.saRetired a).bus = (retire a false s).bus ∧ (s.saRetired a).segMap = s.segMap ∧ (s.saRetired a).rack = s.rack ∧
    (s.saRetired a).status.replies = s.status.replies := by
  simp [State.saRetired]

/-- What RETIRE-SA reports: the keys that waited, and RETIRED as its class's settings say (R120, R175). -/
theorem saRetired_posts : ∃ l, Posts s (s.saRetired a) l ∧ exceptionsIn l s.time = s.reportOf .retired (some a) 0 ∧
    namedIn l s.time a.val = s.discardNotices a KeySlot.waits := by
  obtain ⟨l, hl, hno, hnamed⟩ := retire_named a false s
  have hr : Posts (retire a false s)
      (bumpDrop a .retired (s.heldFrames a).length (removeFrames a (retire a false s))) [] :=
    posts_of_status (by simp) (by simp) (by simp) (by simp [bumpDrop, ExcClass.dropCount?])
  refine ⟨_, (hl.trans hr).trans (posts_report .retired a 0 1 _), ?_, ?_⟩
  · rw [List.append_nil, exceptionsIn_append, exceptionsIn_eq_nil hno, List.nil_append]
    refine exceptionsIn_handed .retired a 0 (by simp) ?_
    rw [assoc_eq_of_assocs (s := retire a false s) (by simp), retire_assoc_self]
    rfl
  · rw [List.append_nil, namedIn_append, namedIn_handed, hnamed]
    simp

theorem saRetired_entries : { kind := .claim, assoc := a } ∉ (s.saRetired a).bus.txList ∧
    { kind := .advance, assoc := a } ∉ (s.saRetired a).bus.txList := by
  obtain ⟨-, -, -, -, -, hbus, -⟩ := saRetired_buf s a
  rw [hbus, retire_bus, retireRecord_bus]
  refine ⟨fun h => ?_, fun h => (mem_removeTx.1 h).2 rfl⟩
  exact (mem_removeTx.1 (mem_removeTx.1 h).1).2 rfl

theorem saRetired_counts :
    (s.saRetired a).count a .discardRetire = satAdd48 (s.count a .discardRetire) (s.assoc a).reservationCount ∧
    (s.saRetired a).count a .dropRetired = satAdd48 (s.count a .dropRetired) (s.heldFrames a).length ∧
    (s.saRetired a).count a .retiredInFlight = (retire a false s).count a .retiredInFlight := by
  have hremoved : ∀ c, (removeFrames a (retire a false s)).count a c = (retire a false s).count a c :=
    count_eq_of_counters (by simp) a
  have hdrop : ∀ n u, bumpDrop a .retired n u = bump a .dropRetired n u := fun _ _ => rfl
  simp only [State.saRetired, count_report, hdrop]
  refine ⟨?_, ?_, ?_⟩
  · rw [count_bump_ne _ _ _ _ (by simp), hremoved, count_retire_discardRetire]
  · rw [count_bump_self, hremoved]
    simp [count_retire]
  · rw [count_bump_ne _ _ _ _ (by simp), hremoved]

theorem saFlushed_calm : (s.saFlushed a).buf = (removeFrames a s).buf ∧ (s.saFlushed a).disp = (removeFrames a s).disp ∧
    (s.saFlushed a).assocs = s.assocs ∧ (s.saFlushed a).keys = s.keys ∧ (s.saFlushed a).lanes = s.lanes ∧
    (s.saFlushed a).bus = s.bus ∧ (s.saFlushed a).segMap = s.segMap ∧ (s.saFlushed a).rack = s.rack ∧
    (s.saFlushed a).status.replies = s.status.replies := by
  simp [State.saFlushed]

end

end Sys2Proof.Machine
end

section
/-! The statement on FLUSH-SA and RETIRE-SA (R67, R90, R128, R167, R168). -/

namespace Sys2Proof.Machine

variable {s t u : State} {a : Fin 64} {data : List Byte} {rest : List (List Byte)} {n : Nat}

/-! ## What a command's end keeps of its state (R158) -/

/-- `t` is the end of a command that was DONE in `u` with value `n`: what of `t` these statements speak of. -/
structure DoneIn (u t : State) (data : List Byte) (n : Nat) : Prop where
  assocs : t.assocs = u.assocs
  keys : t.keys = u.keys
  segMap : t.segMap = u.segMap
  lanes : t.lanes = u.lanes
  bus : t.bus = u.bus
  counts : t.counters.assoc = u.counters.assoc
  replies : t.status.replies = u.status.replies ++
    [{ tag := commandTag data, code := commandCode data, result := .done, value := n, counters := [] }]
  removed : ∀ s a, Removed s u a → Removed s t a
  reported : ∀ s l, Posts s u l → u.rack = s.rack →
    Reported s t (exceptionsIn l s.time) ∧ ∀ a, Notified s t a (namedIn l s.time a)

theorem doneIn_of_settled (h : Settled (u.answered data rest .done n []) t) : DoneIn u t data n where
  assocs := h.assocs
  keys := h.keys
  segMap := h.segMap
  lanes := h.lanes
  bus := h.bus
  counts := congrArg Counters.assoc h.counters
  replies := h.replies
  removed _ _ hr := (hr.congr (t := u.answered data rest .done n []) rfl rfl).settled h
  reported s l hp hr := by
    have hp : Posts s (u.answered data rest .done n []) l := hp.same ⟨rfl, rfl, rfl, rfl, rfl⟩
    exact ⟨reported_of_posts hp h (congrArg RackTransmitter.sending hr),
      notified_of_posts hp h (congrArg RackTransmitter.sending hr)⟩

theorem DoneIn.reply {code : Byte} (h : DoneIn u t data n) (hrep : u.status.replies = s.status.replies)
    (hcode : commandCode data = code) : t.status.replies = s.status.replies ++
      [{ tag := commandTag data, code := code, result := .done, value := n, counters := [] }] := by
  rw [h.replies, hrep, hcode]

/-- What a command that took the association's frames out leaves. -/
structure TookOut (s t : State) (data : List Byte) (code : Byte) (a : Fin 64) : Prop where
  removed : Removed s t a
  reply : t.status.replies = s.status.replies ++
    [{ tag := commandTag data, code := code, result := .done, value := (s.heldFrames a).length, counters := [] }]
  others : ∀ b, b ≠ a → t.assoc b = s.assoc b ∧ t.slots b = s.slots b
  segMap : t.segMap = s.segMap

/-! ## FLUSH-SA (R128, R168) -/

section
variable (h : DoneIn (s.saFlushed a) t data (s.heldFrames a).length)
include h

theorem tookOut_of_flushSa (hcode : commandCode data = 0x06) : TookOut s t data 0x06 a := by
  obtain ⟨hbuf, hdisp, hassocs, hkeys, -, -, hmap, -, hrep⟩ := saFlushed_calm s a
  exact ⟨h.removed s a ((removed_removeFrames a s).congr hbuf hdisp), h.reply hrep hcode,
    fun b _ => ⟨assoc_eq_of_assocs (h.assocs.trans hassocs) b, slots_eq_of_keys (h.keys.trans hkeys) b⟩, h.segMap.trans hmap⟩

theorem flushSa_reports : Reported s t [] := by
  obtain ⟨-, -, -, -, -, -, -, hrack, -⟩ := saFlushed_calm s a
  have hp : Posts s (s.saFlushed a) [] := posts_of_status (by simp [State.saFlushed]) (by simp [State.saFlushed])
    (by simp [State.saFlushed]) (by simp [State.saFlushed])
  exact (h.reported s [] hp hrack).1

theorem flushSa_counts : t.count a .flushed = satAdd48 (s.count a .flushed) (s.heldFrames a).length := by
  rw [count_eq_of_counters h.counts, State.saFlushed, count_bump_self, count_eq_of_counters (s := s) (by simp)]

end

/-! ## RETIRE-SA (R70, R167) -/

section
variable (h : DoneIn (s.saRetired a) t data (s.heldFrames a).length)
include h

theorem retireSa_removed : Removed (retire a false s) t a := by
  obtain ⟨hbuf, hdisp, -⟩ := saRetired_buf s a
  exact h.removed _ a ((removed_removeFrames a (retire a false s)).congr hbuf hdisp)

theorem retireSa_reports : Reported s t (s.reportOf .retired (some a) 0) ∧
    Notified s t a.val (s.discardNotices a KeySlot.waits) := by
  obtain ⟨-, -, -, -, -, -, -, hrack, -⟩ := saRetired_buf s a
  obtain ⟨l, hl, hexc, hnamed⟩ := saRetired_posts s a
  obtain ⟨h1, h2⟩ := h.reported s l hl hrack
  rw [← hexc, ← hnamed]
  exact ⟨h1, h2 _⟩

theorem retireSa_counts :
    t.count a .discardRetire = satAdd48 (s.count a .discardRetire) (s.assoc a).reservationCount ∧
    t.count a .dropRetired = satAdd48 (s.count a .dropRetired) (s.heldFrames a).length ∧
    t.count a .retiredInFlight = (retire a false s).count a .retiredInFlight := by
  have hcount := count_eq_of_counters h.counts a
  rw [hcount, hcount, hcount]
  exact saRetired_counts s a

theorem retireSa_record : t.assoc a = (s.assoc a).whenRetired := by
  obtain ⟨-, -, hassocs, -⟩ := saRetired_buf s a
  rw [assoc_eq_of_assocs (h.assocs.trans hassocs), retire_assoc_self]

theorem retireSa_keys : t.keys = (retire a false s).keys ∧ t.lanes = (retire a false s).lanes := by
  obtain ⟨-, -, -, hkeys, hlanes, -⟩ := saRetired_buf s a
  exact ⟨h.keys.trans hkeys, h.lanes.trans hlanes⟩

theorem retireSa_entries : { kind := .claim, assoc := a } ∉ t.bus.txList ∧ { kind := .advance, assoc := a } ∉ t.bus.txList := by
  rw [h.bus]
  exact saRetired_entries s a

theorem tookOut_of_retireSa (hfew : s.noThird a) (hcode : commandCode data = 0x05) : TookOut s t data 0x05 a := by
  obtain ⟨-, -, hassocs, hkeys, -, -, hmap, -, hrep⟩ := saRetired_buf s a
  obtain ⟨-, hbuf, -⟩ := retire_of_noThird hfew
  exact ⟨(retireSa_removed h).of_same hbuf (by simp), h.reply hrep hcode, fun b hb =>
    ⟨(assoc_eq_of_assocs (h.assocs.trans hassocs) b).trans (retire_assoc_ne _ _ _ hb),
      (slots_eq_of_keys (h.keys.trans hkeys) b).trans (retire_slots_ne hb false s)⟩, h.segMap.trans hmap⟩

end

/-! ## A third RETIRING key (R67) -/

theorem waits_of_role {k : KeySlot} {r : Role} (h : k.role = r) : k.waits = (r == .standby || r == .pending) := by
  rw [KeySlot.waits, h]

section
variable {i j k : Fin 4} (h3 : s.Third a i j k)
include h3

/-- The slots left when the older RETIRING key was freed. -/
theorem State.Third.retired_slots : ((retire a false s).slots a)[i] = KeySlot.wiped ∧
    ((retire a false s).slots a)[j] = (s.slots a)[j] ∧
    ((retire a false s).slots a)[k] = { (s.slots a)[k] with role := .retiring } ∧
    ∀ m : Fin 4, m ≠ i → m ≠ j → m ≠ k → ((retire a false s).slots a)[m].role = .empty := by
  obtain ⟨vkeys, -⟩ := retireRecord_calm a s
  have hslots := fun m => (h3.congr vkeys).slots m
  rw [slots_eq_of_keys vkeys a] at hslots
  have hki : k ≠ i := fun h => by have := h3.current; rw [h, h3.older] at this; cases this
  have hkj : k ≠ j := fun h => by have := h3.current; rw [h, h3.newer] at this; cases this
  refine ⟨?_, ?_, ?_, fun m hi hj hk => ?_⟩
  · rw [retire_slots, hslots, if_neg (Bool.eq_false_iff.1 (waits_of_role h3.older)), if_neg hki.symm, if_pos rfl]
  · rw [retire_slots, hslots, if_neg (Bool.eq_false_iff.1 (waits_of_role h3.newer)), if_neg hkj.symm, if_neg h3.ne.symm]
  · rw [retire_slots, hslots, if_neg (Bool.eq_false_iff.1 (waits_of_role h3.current)), if_pos rfl]
  · rw [retire_slots, hslots, if_neg hk, if_neg hi]
    cases hr : (s.slots a)[m].role with
    | empty => rwa [if_neg (Bool.eq_false_iff.1 (waits_of_role hr))]
    | standby => exact congrArg KeySlot.role (if_pos (waits_of_role hr))
    | pending => exact congrArg KeySlot.role (if_pos (waits_of_role hr))
    | current => exact absurd (role_unique h3.one hr h3.current) hk
    | retiring =>
      rcases role_pair h3.two (by simp) h3.ne h3.older h3.newer hr with he | he
      · exact absurd he hi
      · exact absurd he hj

/-- The frames of the freed key are abandoned, and counted. -/
theorem State.Third.retired_lanes (gone : List (Fin 4)) (hg : s.lanesOfSlot { assoc := a, index := i } = gone) :
    (∀ l, (retire a false s).lane l = if l ∈ gone then .idle else s.lane l) ∧
    (retire a false s).lanes.completion = s.lanes.completion.filter (fun y => !(s.framesIn gone).contains y.frame) ∧
    (∀ x, (retire a false s).frame? x = if x ∈ s.framesIn gone then none else s.frame? x) ∧
    (gone ≠ [] →
      (retire a false s).count a .retiredInFlight = satAdd48 (s.count a .retiredInFlight) gone.length) := by
  obtain ⟨vkeys, vlanes, vbuf, vcount⟩ := retireRecord_calm a s
  obtain ⟨hlanes, hbuf, hcount⟩ := retire_lanes a false s
  have hlane : ∀ l, (retireRecord a s).lane l = s.lane l := lane_eq_of_lanes (congrArg Lanes.lanes vlanes)
  have hgone : (retireRecord a s).lanesOfSlot { assoc := a, index := i } = gone :=
    (lanesOfSlot_of_lanes (congrArg Lanes.lanes vlanes) _).trans hg
  have hin : (retireRecord a s).framesIn gone = s.framesIn gone := by simp only [State.framesIn, hlane]
  have hab := (h3.congr vkeys).aborts
  have hcounted := (h3.congr vkeys).counted
  rw [hgone] at hab hcounted
  refine ⟨fun l => ?_, ?_, fun x => ?_, fun hne => ?_⟩
  · rw [lane_eq_of_lanes (congrArg Lanes.lanes hlanes), hab.lane, hlane]
  · rw [hlanes, hab.completion, hin, vlanes]
  · rw [frame?_eq_of_pool (congrArg Buffers.pool hbuf), hab.frames, hin, frame?_eq_of_pool (congrArg Buffers.pool vbuf)]
  · rw [hcount, hcounted hne, vcount]

/-- The cells of the abandoned frames return to the pool. -/
theorem State.Third.retired_freeCells (hacc : FramesAccounted s) : (retire a false s).buf.freeCells =
    s.buf.freeCells + s.cellsOf (s.framesIn (s.lanesOfSlot { assoc := a, index := i })) := by
  obtain ⟨vkeys, vlanes, vbuf, -⟩ := retireRecord_calm a s
  obtain ⟨-, hbuf, -⟩ := retire_lanes a false s
  have hlane : ∀ l, (retireRecord a s).lane l = s.lane l := lane_eq_of_lanes (congrArg Lanes.lanes vlanes)
  have hframe : ∀ x, (retireRecord a s).frame? x = s.frame? x := frame?_eq_of_pool (congrArg Buffers.pool vbuf)
  have hgone := lanesOfSlot_of_lanes (s := s) (congrArg Lanes.lanes vlanes) { assoc := a, index := i }
  have hin : ∀ L, (retireRecord a s).framesIn L = s.framesIn L := fun L => by simp only [State.framesIn, hlane]
  obtain ⟨hn, -, hs⟩ := hacc.lanes (lanesOfSlot_nodup (s := s) { assoc := a, index := i })
  have hv := h3.congr vkeys
  have hfree := freeCells_abandonLanes (s := retireRecord a s) { assoc := a, index := i }
    (lanesOfSlot_nodup (s := s) { assoc := a, index := i })
    (fun m hm => by rw [hlane]; exact slot?_frame? (mem_lanesOfSlot.1 hm)) (by rwa [hin])
    fun x hx => by rw [hframe]; exact hs x (by rwa [hin] at hx)
  rw [hbuf, hv.retireCurrent, freeOldestRetiring_eq hv.oldest, hgone]
  rw [hin, cellsOf_congr fun x _ => hframe x, vbuf] at hfree
  simpa [wipeSlot] using hfree

end

section
variable {i j k : Fin 4} (h3 : s.Third a i j k) (hacc : FramesAccounted s)
include h3 hacc

/-- With every frame in one place, the frames that leave are those held and those abandoned. -/
theorem State.Third.removed (hrem : Removed (retire a false s) t a) :
    let leaving := s.heldFrames a ++ s.framesIn (s.lanesOfSlot { assoc := a, index := i })
    (∀ q : Fin 8, t.buf.queues[q] = s.buf.queues[q].filter (fun h => !s.frameOf a h)) ∧
    t.disp.park.map (·.frame) = (s.disp.park.filter (fun e => e.assoc != a)).map (·.frame) ∧
    (∀ x, t.frame? x = if x ∈ leaving then none else s.frame? x) ∧
    t.buf.freeCells = s.buf.freeCells + s.cellsOf leaving := by
  intro leaving
  obtain ⟨-, -, rframes, -⟩ := h3.retired_lanes _ rfl
  obtain ⟨-, hin, -⟩ := hacc.lanes (lanesOfSlot_nodup (s := s) { assoc := a, index := i })
  have hqueues : (retire a false s).buf.queues = s.buf.queues := by simp
  have hpark : (retire a false s).disp.park = s.disp.park := by simp
  have hstay : ∀ x, x ∉ s.inLanes → (retire a false s).frame? x = s.frame? x :=
    fun x hx => (rframes x).trans (if_neg fun h => hx (hin x h))
  have hqueue : ∀ (q : Fin 8), ∀ x ∈ s.buf.queues[q], (retire a false s).frame? x = s.frame? x := fun q x hx =>
    hstay x (hacc.queued_notin_lanes hx)
  have hheld : (retire a false s).heldFrames a = s.heldFrames a := heldFrames_congr hqueues hpark hqueue
  have hsame : ∀ x ∈ s.heldFrames a, (retire a false s).frame? x = s.frame? x := fun x hx =>
    hstay x (hacc.held_notin_lanes hx)
  obtain ⟨hn, hs⟩ := hacc.held a
  refine ⟨fun q => ?_, ?_, fun x => ?_, ?_⟩
  · rw [hrem.queues, hqueues]
    exact List.filter_congr fun x hx => by rw [frameOf_congr (hqueue q x hx)]
  · rw [hrem.park, hpark]
  · rw [hrem.frames, hheld, rframes, ← ite_or]
    exact if_congr List.mem_append.symm rfl rfl
  · have hcells := hrem.freeCells
    rw [hheld, cellsOf_congr hsame, h3.retired_freeCells hacc] at hcells
    rw [hcells hn fun x hx => by rw [hsame x hx]; exact hs x hx, cellsOf_append, Nat.add_assoc,
      Nat.add_comm (s.cellsOf (s.heldFrames a))]

end

/-- Settles O49: the frames leave by the removal; the record, keys and lanes of RETIRE-SA are those of the retirement before it. -/
theorem flushAndRetireRemoveFrames : Obligations.FlushAndRetireRemoveFrames := by
  refine ⟨?_, ?_, fun s data rest a hr ha hst => settled_retireSa_refused ha hr hst⟩
  · intro s data rest a code c hcase hr ha _ ours n
    have hours : ours = s.frameOf a := funext fun h => (frameOf_eq s a h).symm
    have hn : n = (s.heldFrames a).length := by
      rw [heldFrames_length, ← hours]
    clear_value n ours
    subst hours hn
    obtain ⟨-, -, hcode, -⟩ := id hr
    rcases hcase with ⟨rfl, rfl, hst, hfew⟩ | ⟨rfl, rfl⟩
    · obtain ⟨t, hexec, hset⟩ := settled_retireSa ha hr hst
      have h := doneIn_of_settled hset
      obtain ⟨hrem, hreply, hothers, hmap⟩ := tookOut_of_retireSa h hfew hcode
      obtain ⟨hkeys, hlanes⟩ := retireSa_keys h
      obtain ⟨rlanes, -, rslots⟩ := retire_of_noThird hfew
      obtain ⟨hclaim, hadvance⟩ := retireSa_entries h
      obtain ⟨hrep, hnot⟩ := retireSa_reports h
      obtain ⟨hdiscard, hdrop, -⟩ := retireSa_counts h
      refine ⟨t, hexec, hrem.queues, hrem.park, ⟨hrem.frames, fun hacc => ?_⟩, hreply, hothers, hmap, nofun, fun _ =>
        ⟨retireSa_record h, fun hc j => ?_, hlanes.trans rlanes, hclaim, hadvance, hrep, hnot, hdiscard, hdrop⟩⟩
      · exact hrem.freeCells (hacc.held a).1 (hacc.held a).2
      · rw [slots_eq_of_keys hkeys, rslots hc]
        exact afterRetirement_eq _
    · obtain ⟨t, hexec, hset⟩ := settled_flushSa ha hr
      have h := doneIn_of_settled hset
      obtain ⟨hrem, hreply, hothers, hmap⟩ := tookOut_of_flushSa h hcode
      obtain ⟨-, -, hassocs, hkeys, hlanes, hbus, -⟩ := saFlushed_calm s a
      refine ⟨t, hexec, hrem.queues, hrem.park, ⟨hrem.frames, fun hacc => ?_⟩, hreply, hothers, hmap, fun _ =>
        ⟨flushSa_reports h, h.assocs.trans hassocs, h.keys.trans hkeys, h.lanes.trans hlanes, h.bus.trans hbus,
          flushSa_counts h⟩, nofun⟩
      exact hrem.freeCells (hacc.held a).1 (hacc.held a).2
  · intro s data rest a i j k hr ha hst hi hj hlt hk hused htwo hone gone ours held leaving
    have hours : ours = s.frameOf a := funext fun h => (frameOf_eq s a h).symm
    have hheld : held = s.heldFrames a := by
      rw [State.heldFrames, ← hours]
    have hleaving : leaving = s.heldFrames a ++ s.framesIn gone := by rw [← hheld]; rfl
    clear_value leaving held ours
    subst hours hheld hleaving
    obtain ⟨-, -, hcode, -⟩ := id hr
    have h3 : s.Third a i j k := ⟨hi, hj, hlt, htwo, hk, hused, hone⟩
    obtain ⟨t, hexec, hset⟩ := settled_retireSa ha hr hst
    have h := doneIn_of_settled hset
    obtain ⟨hkeys, hlanes⟩ := retireSa_keys h
    obtain ⟨hrep, hnot⟩ := retireSa_reports h
    obtain ⟨-, hdrop, hinflight⟩ := retireSa_counts h
    obtain ⟨hsi, hsj, hsk, hother⟩ := h3.retired_slots
    obtain ⟨rlane, rcompletion, rframes, rcount⟩ := h3.retired_lanes gone rfl
    have hrem := retireSa_removed h
    obtain ⟨-, -, -, -, -, -, -, -, hreplies⟩ := saRetired_buf s a
    have hreply := h.reply hreplies hcode
    rw [← slots_eq_of_keys hkeys] at hsi hsj hsk hother
    refine ⟨t, hexec, ?_, hreply, hdrop, hrep, hnot, fun hacc => ?_, hsi, hsj, hsk, hother, fun l => ?_, ?_,
      fun l hl x hx => ?_, fun hne => hinflight.trans (rcount hne)⟩
    · rw [retireSa_record h]
      rfl
    · exact h3.removed hacc hrem
    · rw [lane_eq_of_lanes (congrArg Lanes.lanes hlanes), rlane]
    · rw [hlanes, rcompletion]
      exact List.filter_congr fun y _ => framesIn_contains s gone y.frame
    · have hgone : (retire a false s).frame? x = none :=
        (rframes x).trans (if_pos (List.mem_filterMap.2 ⟨l, hl, hx⟩))
      rw [hrem.frames, hgone, ite_self]

end Sys2Proof.Machine
end

section
/-! A valid image is handed to the blocks and the device enters SETTLING (R50, R76, R191, R212). -/

namespace Sys2Proof.Machine

variable {s t : State} {image : List Byte}

/-! ## The segment map of an image (R76, R187) -/

/-- The last check of a valid image is that of its runs (R187). -/
theorem segmentsOk_of_valid (h : imageFault image = none) : segmentsOk image = true := by
  unfold imageFault at h
  repeat' split at h
  all_goals cases h
  exact Bool.of_not_eq_false ‹¬ segmentsOk image = false›

theorem run_of_valid (h : imageFault image = none) {r : SegRun} (hr : r ∈ parseRuns image) :
    r.first + r.length ≤ 4096 ∧ ∃ e, (parseImage image).entry? r.entry = some e := by
  have hok := segmentsOk_of_valid h
  simp only [segmentsOk, Bool.and_eq_true, List.all_eq_true] at hok
  have hrun := hok.2 r hr
  simp only [runOk, Bool.and_eq_true, decide_eq_true_eq] at hrun
  exact ⟨hrun.1.2, Option.isSome_iff_exists.1 hrun.2⟩

/-- A run that ends in the map writes its entry at each of its indices and leaves the others. -/
theorem writeRun_spec {m : List (Nat × SegEntry)} (h : SegMap.wf m) (first : Nat) (e : SegEntry) {n : Nat}
    (hn : first + n ≤ 4096) : SegMap.wf (writeRun m first e n) ∧ ∀ i, SegMap.read (writeRun m first e n) i =
      if first ≤ i ∧ i < first + n then e else SegMap.read m i := by
  induction n with
  | zero => exact ⟨h, fun i => (if_neg (by omega)).symm⟩
  | succ n ih =>
    obtain ⟨hwf, hread⟩ := ih (by omega)
    refine ⟨segMap_write_wf _ _ _ (by omega) hwf, fun i => ?_⟩
    rw [writeRun, segMap_read_write _ _ _ _ hwf, hread, ← ite_or]
    exact if_congr (by omega) rfl rfl

/-- The run of an image that gives an index its entry: the last that covers it. -/
def runAt (runs : List SegRun) (i : Nat) : Option SegRun :=
  runs.reverse.find? (fun r => decide (r.first ≤ i ∧ i < r.first + r.length))

theorem runAt_concat (runs : List SegRun) (r : SegRun) (i : Nat) :
    runAt (runs ++ [r]) i = if r.first ≤ i ∧ i < r.first + r.length then some r else runAt runs i := by
  rw [runAt, List.reverse_append, List.reverse_singleton, List.singleton_append, List.find?_cons]
  split
  · rename_i h
    rw [if_pos (of_decide_eq_true h)]
  · rename_i h
    rw [if_neg (of_decide_eq_false h)]
    rfl

/-- An index reads the entry of the last run that covers it, and keeps its entry where none does. -/
theorem writeRuns_spec {g : Image} {m : List (Nat × SegEntry)} (h : SegMap.wf m) {runs : List SegRun}
    (hruns : ∀ r ∈ runs, r.first + r.length ≤ 4096 ∧ ∃ e, g.entry? r.entry = some e) :
    SegMap.wf (writeRuns g runs m) ∧ ∀ i, SegMap.read (writeRuns g runs m) i =
      ((runAt runs i).map fun r => (g.entry? r.entry).getD .drop).getD (SegMap.read m i) := by
  induction runs using List.reverseRecOn with
  | nil => exact ⟨h, fun _ => rfl⟩
  | append_singleton runs r ih =>
    obtain ⟨hwf, hread⟩ := ih fun x hx => hruns x (by simp [hx])
    obtain ⟨hfits, e, he⟩ := hruns r (by simp)
    have hstep : writeRuns g (runs ++ [r]) m = writeRun (writeRuns g runs m) r.first e r.length := by
      simp only [writeRuns, List.foldl_append, List.foldl_cons, List.foldl_nil, he]
    obtain ⟨hwf', hread'⟩ := writeRun_spec hwf r.first e hfits
    rw [hstep]
    refine ⟨hwf', fun i => ?_⟩
    rw [hread', runAt_concat, hread]
    split
    · simp [he]
    · rfl

/-! ## The load completes (R191) -/

/-- The state that a valid image leaves before the JOIN is requested and STARTED queued (R191). -/
theorem loadComplete_parts (image : List Byte) (s : State) :
    (loadComplete image s).assocs = Vector.ofFn (fun a : Fin 64 => (s.assoc a).atSettle (parseImage image).defs[a]) ∧
    (loadComplete image s).segMap = writeRuns (parseImage image) (parseRuns image) s.segMap ∧
    (loadComplete image s).bus.txList = txInsert { kind := .join, assoc := 0 } s.bus.txList := by
  simp [loadComplete, requestTx]

theorem startLevel_of_undefined {a : Fin 64} (h : (parseImage image).defs[a].defined = false) :
    (parseImage image).defs[a].startLevel = 1 := by
  have hdef : (parseImage image).defs[a] = parseDef image a := by simp [parseImage]
  rw [hdef] at h ⊢
  unfold parseDef at h ⊢
  split
  · rename_i hd
    rw [if_pos hd] at h
    cases h
  · rfl

theorem atSettle_eq (r : Assoc) (a : Fin 64) : r.atSettle (parseImage image).defs[a] =
    if (parseImage image).defs[a].defined then
      { r with state := .settling, level := (parseImage image).defs[a].startLevel, settleView := none }
    else { r with level := 1, settleView := none } := by
  unfold Assoc.atSettle
  split
  · rfl
  · rename_i h
    rw [startLevel_of_undefined (Bool.eq_false_iff.2 h)]

/-- Settles O5: the load completes in the state named, and the map is that of the image's runs. -/
theorem validImageEntersSettling : Obligations.ValidImageEntersSettling := by
  intro s memory hd hv bytes img
  have hset := finishEvent_settled s (loadComplete bytes (readImage memory s))
  have hexec : exec (.imageReadDone memory) s = .next (finishEvent s (loadComplete bytes (readImage memory s))) := by
    have hcheck : checkImage (readImage memory s) = loadComplete bytes (readImage memory s) := by
      have hv : imageFault (readImage memory s).readBuffer = none := hv
      rw [checkImage, hv]
      rfl
    rw [← hcheck]
    exact congrArg Host.Outcome.next (if_pos hd)
  obtain ⟨hassocs, hmap, htx⟩ := loadComplete_parts bytes (readImage memory s)
  generalize finishEvent s _ = t at hset hexec
  have htassocs := hset.assocs.trans hassocs
  have htmap := hset.segMap.trans hmap
  have httx := (congrArg Bus.txList hset.bus).trans htx
  refine ⟨t, hexec, ?_, fun e => ?_, fun a => ?_, fun hm => ?_⟩
  · rw [htassocs, htmap, httx]
    exact hset
  · rw [httx]
    exact mem_txInsert
  · rw [← atSettle_eq, State.assoc, htassocs, Fin.getElem_fin, Vector.getElem_ofFn]
    rfl
  · obtain ⟨hwf, hread⟩ := writeRuns_spec (g := img) (m := s.segMap) hm fun r hr => run_of_valid hv hr
    refine ⟨?_, fun i => ?_⟩
    · rw [SegMapKept, htmap]
      exact hwf
    · rw [htmap]
      refine (hread i).trans ?_
      change _ = match runAt (parseRuns bytes) i with
        | some r => (img.entry? r.entry).getD .drop
        | none => SegMap.read s.segMap i
      cases runAt (parseRuns bytes) i <;> rfl

end Sys2Proof.Machine
end
